-- ==== Sys2Proof/Word.lean ====
section
/-! DEFINITION. The byte, the bounded numbers that name the parts of the D48, and nothing else.
A door, zone, unit, branch or drop number n of the manual (counted from 1) is the `Fin` value n - 1;
a port number (counted from 0) is the `Fin` value itself. -/

namespace Sys2Proof

/-- One byte of a console or station frame (R187). -/
abbrev Byte := BitVec 8

/-- Door numbers 1..48 (R3). -/
abbrev DoorId := Fin 48
/-- Bulkhead zones 1..16 (R4). -/
abbrev ZoneId := Fin 16
/-- Power units PU1 to PU4 (R115). -/
abbrev UnitId := Fin 4
/-- Station branches B1 to B4 (R138). -/
abbrev BranchId := Fin 4
/-- Drop addresses 1..12 of a branch (R4). -/
abbrev DropId := Fin 12
/-- Console ports CP0 to CP2 (R154). -/
abbrev PortId := Fin 3

/-- A set of zones, in the form R186 gives it on the wire: bit 0 stands for zone 1, bit 15 for zone 16. -/
abbrev ZoneSet := BitVec 16

/-- A set of fault kinds, in the order of R186: bit 0 is LINK_LOST, bit 11 CUT_OFF. -/
abbrev FaultSet := BitVec 12

end Sys2Proof
end

