-- ==== Sys2Proof/Config.lean ====
section
/-! DEFINITION. What the manual fixes once for every D48 (durations, limits, frame sizes), and the free
values: constants without a body for the bytes whose content the manual leaves open. -/

namespace Sys2Proof.Config

/-- R80, R119, R135: an input's debounced value changes after 50 ms at the new level. -/
def debounceMs : Nat := 50
/-- R111: a signal test lasts 3 s. -/
def signalTestMs : Nat := 3000
/-- R181: a save completes 400 ms after its order. -/
def saveMs : Nat := 400
/-- R67, R64: estimates and stroke times saturate at 600,000 ms. -/
def maxStrokeMs : Nat := 600000
/-- R24: the stroke count saturates at 65535. -/
def maxStrokeCount : Nat := 65535
/-- R67: an estimate needs a travel of at least 20 permille. -/
def minTravel : Int := 20
/-- R34, R43, R29: change, settling and disagreement counts stop at 4. -/
def maxConfirm : Nat := 4
/-- R145: a LOST drop's miss count stops at 8. -/
def maxMiss : Nat := 8
/-- R33: the range check on a raw position. -/
def rawLow : Int := -50
/-- R33: the range check on a raw position. -/
def rawHigh : Int := 1050
/-- R6: the least span of a geometry. -/
def minSpan : Nat := 200
/-- R175: milliseconds of a day. -/
def dayMs : Nat := 86400000
/-- R175: the day count's modulus. -/
def dayCount : Nat := 65536
/-- R159: the most bytes of a response frame. -/
def maxResponse : Nat := 1024
/-- R187: the largest length field of a request that R155 does not discard. -/
def maxRequestLength : Nat := 251
/-- R187: a request whose length field is below 5 cannot hold a header. -/
def minRequestLength : Nat := 5
/-- R158: the 33rd item of a frame is malformed. -/
def maxItems : Nat := 32
/-- R170: the most door entries of one report. -/
def reportEntries : Nat := 24
/-- R155: at two responses in the transmit queue a frame is discarded. -/
def maxResponses : Nat := 2
/-- R163: the range of a DELAY, in ms. -/
def delayMax : Nat := 5000
/-- R187: start byte of a console frame. -/
def consoleStart : Byte := 0xC3
/-- R143, section 12.6: start byte of a station frame. -/
def stationStart : Byte := 0x3C
/-- R155: the version of every console frame. -/
def version : Byte := 2

/-- The bytes of a response whose content the manual does not state (assumption 12). -/
inductive OpenByte where
  /-- The day count beside the ms marker 0xFFFFFFFF of an absent stamp, capture or armed load (R190), byte k. -/
  | absentDay (k : Nat)
  /-- The bytes of the eight-byte label field behind a label's last character (R190), byte k. -/
  | labelPad (k : Nat)
  /-- The port number of a stroke whose cause is not CONSOLE (R190). -/
  | absentPort
  /-- The token of a port with no request in execution (R190), byte k. -/
  | absentToken (k : Nat)
  deriving DecidableEq, Repr

/-- FREE VALUE (assumption 12): the byte sent where R190 names a field and states no content for it.
The counter `n` is `State.freeCount`, so that each FETCH may see another value. -/
opaque openByte (b : OpenByte) (n : Nat) : Byte

/-- FREE VALUE (assumption 12): the port bits 4 and 5 of a UNIT entry whose cause is not CONSOLE (R190). -/
opaque openPortBits (n : Nat) : BitVec 2

end Sys2Proof.Config
end

