-- ==== Sys2Proof/Syntax.lean ====
section
/-! DEFINITION. The commands the D48 takes: the items of a request frame (R160 to R164, section 12.3) and
`Instr`, one constructor per row of spec/opcode_table.json. An operand that a frame carries is the number the
frame carries; an operand that names a part of the D48 itself is bounded by its type. -/

namespace Sys2Proof

/-- The ten operational settings, in the order of R11. -/
inductive OpSetting where
  | leadInTime | recloseDelay | strokeLimit | deadTime | closedBand
  | openBand | stallWindow | stallDelta | confirmCount | tailTime
  deriving DecidableEq, Repr

/-- The target of an ORDER or SET item: the target form codes of section 12.3, each with its value. -/
inductive Target where
  | none
  | door (n : Nat)
  | zone (n : Nat)
  | all
  | unit (n : Nat)
  | branch (n : Nat)
  | port (n : Nat)
  /-- A holder of the holds map: CP0 0, CP1 1, CP2 2, LINE 3, START 4. -/
  | holder (n : Nat)
  | zoneSet (mask : ZoneSet)
  | device
  /-- A target-form code outside 0..9, with the target value that stands behind it. -/
  | other (form value : Nat)
  deriving DecidableEq, Repr

/-- The objects of FETCH (R160), in the order of their codes 1..9 (R190). -/
inductive FetchObject where
  | doorRecord | doorSettings | doorPending | zoneSummary | unit | holds | clock | portStatus | identity
  deriving DecidableEq, Repr

/-- The orders (R162), each with the parameters it takes (section 12.3), in the order of their codes 1..21. -/
inductive OrderOp where
  | close | openDoor | stop
  /-- SERVICE: the first parameter byte, 1 for in and 0 for out. -/
  | service (value : Nat)
  | holdZones | releaseZones | releaseForeign | resetFaults
  /-- SETTINGS_HOLD: the first parameter byte, 1 for on and 0 for off. -/
  | settingsHold (value : Nat)
  | signalTest | resetUnit | ack | ackPort | ackUnit
  | clockLoad (day ms : Nat)
  | clockAdjust (delta : Int)
  | clockArm (day ms : Nat)
  | clockDisarm | save | lock | restart
  deriving DecidableEq, Repr

/-- The settings of SET (R161) with the value the item carries, in the order of their codes 1..35. -/
inductive SettingWrite where
  | op (k : OpSetting) (value : Nat)
  | installed (value : Nat) | branch (value : Nat) | drop (value : Nat) | zone (value : Nat) | unit (value : Nat)
  | geometry (closedCount openCount : Nat)
  | label (text : List Byte)
  | slotLimit (value : Nat) | startTime (value : Nat) | holdoff (value : Nat) | ageTime (value : Nat)
  | urgentCount (value : Nat)
  | enable (value : Nat) | roundPeriod (value : Nat) | replyTimeout (value : Nat) | lostThreshold (value : Nat)
  | portRole (value : Nat) | silenceTime (value : Nat) | reportsEnabled (value : Nat) | reportSpacing (value : Nat)
  | refreshPeriod (value : Nat)
  | startClosed (value : Nat)
  | faultAlarmMask (mask : BitVec 16)
  | vesselIdentity (text : List Byte)
  | clockTrim (interval : Nat) (direction : Byte)
  deriving DecidableEq, Repr

/-- One item of a request frame as R158 decodes it. -/
inductive Item where
  | fetch (o : FetchObject) (argument : Nat)
  | order (o : OrderOp) (t : Target)
  | set (w : SettingWrite) (t : Target)
  | marker (word : BitVec 32)
  | delay (ms : Nat)
  | direct (branch drop kind : Nat)
  /-- An item that cannot be decoded (R158, R188), with its item code as received. -/
  | undecodable (code : Byte)
  deriving DecidableEq, Repr

/-- The commands and events of spec/opcode_table.json, row by row in the table's order. -/
inductive Instr where
  /-- POWER_ON: supply is applied, with the cabinet lines at these levels (R184). -/
  | powerOn (key closeAll cutoff : Bool) (pressLow : BitVec 4) (sync : Bool)
  | consoleFrame (p : PortId) (frame : List Byte)
  | consoleReceiveTimeout (p : PortId)
  | responseSend (p : PortId)
  | responseSent (p : PortId)
  | reportSend (p : PortId)
  | reportSent (p : PortId)
  | silenceTimeout (p : PortId)
  | refreshDue (p : PortId)
  | fetchDoorRecord (p : PortId) (n : Nat)
  | fetchDoorSettings (p : PortId) (n : Nat)
  | fetchDoorPending (p : PortId) (n : Nat)
  | fetchZoneSummary (p : PortId) (n : Nat)
  | fetchUnit (p : PortId) (n : Nat)
  | fetchHolds (p : PortId)
  | fetchClock (p : PortId)
  | fetchPortStatus (p : PortId) (n : Nat)
  | fetchIdentity (p : PortId)
  | close (p : PortId) (t : Target)
  | openDoor (p : PortId) (t : Target)
  | stop (p : PortId) (t : Target)
  | service (p : PortId) (t : Target) (value : Nat)
  | holdZones (p : PortId) (t : Target)
  | releaseZones (p : PortId) (t : Target)
  | releaseForeign (p : PortId) (t : Target)
  | resetFaults (p : PortId) (t : Target)
  | settingsHold (p : PortId) (value : Nat)
  | signalTest (p : PortId) (t : Target)
  | resetUnit (p : PortId) (t : Target)
  | ack (p : PortId) (t : Target)
  | ackPort (p : PortId) (t : Target)
  | ackUnit (p : PortId) (t : Target)
  | clockLoad (p : PortId) (day ms : Nat)
  | clockAdjust (p : PortId) (delta : Int)
  | clockArm (p : PortId) (day ms : Nat)
  | clockDisarm (p : PortId)
  | save (p : PortId)
  | lock (p : PortId)
  | restart (p : PortId)
  | marker (p : PortId) (word : BitVec 32)
  | delay (p : PortId) (ms : Nat)
  | delayExpiry (p : PortId)
  | direct (p : PortId) (branch drop kind : Nat)
  | setLeadInTime (p : PortId) (t : Target) (value : Nat)
  | setRecloseDelay (p : PortId) (t : Target) (value : Nat)
  | setStrokeLimit (p : PortId) (t : Target) (value : Nat)
  | setDeadTime (p : PortId) (t : Target) (value : Nat)
  | setClosedBand (p : PortId) (t : Target) (value : Nat)
  | setOpenBand (p : PortId) (t : Target) (value : Nat)
  | setStallWindow (p : PortId) (t : Target) (value : Nat)
  | setStallDelta (p : PortId) (t : Target) (value : Nat)
  | setConfirmCount (p : PortId) (t : Target) (value : Nat)
  | setTailTime (p : PortId) (t : Target) (value : Nat)
  | setInstalled (p : PortId) (t : Target) (value : Nat)
  | setBranch (p : PortId) (t : Target) (value : Nat)
  | setDrop (p : PortId) (t : Target) (value : Nat)
  | setZone (p : PortId) (t : Target) (value : Nat)
  | setUnit (p : PortId) (t : Target) (value : Nat)
  | setGeometry (p : PortId) (t : Target) (closedCount openCount : Nat)
  | setLabel (p : PortId) (t : Target) (text : List Byte)
  | setSlotLimit (p : PortId) (t : Target) (value : Nat)
  | setStartTime (p : PortId) (t : Target) (value : Nat)
  | setHoldoff (p : PortId) (t : Target) (value : Nat)
  | setAgeTime (p : PortId) (t : Target) (value : Nat)
  | setUrgentCount (p : PortId) (t : Target) (value : Nat)
  | setEnable (p : PortId) (t : Target) (value : Nat)
  | setRoundPeriod (p : PortId) (t : Target) (value : Nat)
  | setReplyTimeout (p : PortId) (t : Target) (value : Nat)
  | setLostThreshold (p : PortId) (t : Target) (value : Nat)
  | setPortRole (p : PortId) (t : Target) (value : Nat)
  | setSilenceTime (p : PortId) (t : Target) (value : Nat)
  | setReportsEnabled (p : PortId) (t : Target) (value : Nat)
  | setReportSpacing (p : PortId) (t : Target) (value : Nat)
  | setRefreshPeriod (p : PortId) (t : Target) (value : Nat)
  | setStartClosed (p : PortId) (t : Target) (value : Nat)
  | setFaultAlarmMask (p : PortId) (t : Target) (mask : BitVec 16)
  | setVesselIdentity (p : PortId) (t : Target) (text : List Byte)
  | setClockTrim (p : PortId) (t : Target) (interval : Nat) (direction : Byte)
  | roundTimerExpiry (b : BranchId)
  | stationReplyFrame (b : BranchId) (frame : List Byte)
  | replyDeadline (b : BranchId)
  | branchReceiveTimeout (b : BranchId)
  | reversalInstant (d : DoorId)
  | leadInExpiry (d : DoorId)
  | recloseTimerExpiry (d : DoorId)
  | tailExpiry (d : DoorId)
  | signalTestExpiry (d : DoorId)
  | ageTimerExpiry (u : UnitId)
  | startTimerExpiry (u : UnitId)
  | holdoffTimerExpiry (u : UnitId)
  | pressLowChange (u : UnitId) (active : Bool)
  | driveCutoffActive
  | driveCutoffRelease
  | closeAllChange (active : Bool)
  | syncInEdge
  | trimStep
  | saveCompletion
  | consoleStartByte (p : PortId)
  | consoleLengthOver256 (p : PortId)
  | branchStartByte (b : BranchId)
  | branchDataLengthOver8 (b : BranchId)
  | lossOfSupply
  deriving DecidableEq, Repr

end Sys2Proof
end

