-- ==== Sys2Proof/WellFormed.lean ====
section
/-! DEFINITION. Well-formed commands: every operand that a request frame carries fits the field that carries it
(section 12.3). The machine answers every command, well-formed or not; a well-formed item is one a frame can hold. -/

namespace Sys2Proof

/-- A number that fits a field of `bytes` bytes. -/
def fits (bytes n : Nat) : Bool := n < 256 ^ bytes

/-- R188: the target value takes 2 bytes; a form outside 0..9 still takes one byte. -/
def Target.wellFormed : Target → Bool
  | .none => true
  | .door n => fits 2 n
  | .zone n => fits 2 n
  | .all => true
  | .unit n => fits 2 n
  | .branch n => fits 2 n
  | .port n => fits 2 n
  | .holder n => fits 2 n
  | .zoneSet _ => true
  | .device => true
  | .other form value => decide (10 ≤ form) && fits 1 form && fits 2 value

/-- Section 12.3: day in 2 bytes, ms in 4, a signed delta in 4, a yes/no parameter in 1. -/
def OrderOp.wellFormed : OrderOp → Bool
  | .close => true
  | .openDoor => true
  | .stop => true
  | .service v => fits 1 v
  | .holdZones => true
  | .releaseZones => true
  | .releaseForeign => true
  | .resetFaults => true
  | .settingsHold v => fits 1 v
  | .signalTest => true
  | .resetUnit => true
  | .ack => true
  | .ackPort => true
  | .ackUnit => true
  | .clockLoad day ms => fits 2 day && fits 4 ms
  | .clockAdjust delta => decide (-2147483648 ≤ delta) && decide (delta ≤ 2147483647)
  | .clockArm day ms => fits 2 day && fits 4 ms
  | .clockDisarm => true
  | .save => true
  | .lock => true
  | .restart => true

/-- The orders that take a target (R162); for the others the target form is ignored (R188). -/
def OrderOp.takesTarget : OrderOp → Bool
  | .close => true
  | .openDoor => true
  | .stop => true
  | .service _ => true
  | .holdZones => true
  | .releaseZones => true
  | .releaseForeign => true
  | .resetFaults => true
  | .settingsHold _ => false
  | .signalTest => true
  | .resetUnit => true
  | .ack => true
  | .ackPort => true
  | .ackUnit => true
  | .clockLoad _ _ => false
  | .clockAdjust _ => false
  | .clockArm _ _ => false
  | .clockDisarm => false
  | .save => false
  | .lock => false
  | .restart => false

/-- Section 12.3: numeric values take 2 bytes, a text value has a one-byte length. -/
def SettingWrite.wellFormed : SettingWrite → Bool
  | .op _ v => fits 2 v
  | .installed v => fits 2 v
  | .branch v => fits 2 v
  | .drop v => fits 2 v
  | .zone v => fits 2 v
  | .unit v => fits 2 v
  | .geometry c o => fits 2 c && fits 2 o
  | .label text => fits 1 text.length
  | .slotLimit v => fits 2 v
  | .startTime v => fits 2 v
  | .holdoff v => fits 2 v
  | .ageTime v => fits 2 v
  | .urgentCount v => fits 2 v
  | .enable v => fits 2 v
  | .roundPeriod v => fits 2 v
  | .replyTimeout v => fits 2 v
  | .lostThreshold v => fits 2 v
  | .portRole v => fits 2 v
  | .silenceTime v => fits 2 v
  | .reportsEnabled v => fits 2 v
  | .reportSpacing v => fits 2 v
  | .refreshPeriod v => fits 2 v
  | .startClosed v => fits 2 v
  | .faultAlarmMask _ => true
  | .vesselIdentity text => fits 1 text.length
  | .clockTrim i _ => fits 2 i

/-- An item whose every operand fits its field, so that a request frame can carry it. An item that cannot be
decoded is no well-formed item. -/
def Item.wellFormed : Item → Bool
  | .fetch _ a => fits 1 a
  | .order o t => o.wellFormed && t.wellFormed
  | .set w t => w.wellFormed && t.wellFormed
  | .marker _ => true
  | .delay ms => fits 2 ms
  | .direct b d k => fits 1 b && fits 1 d && fits 1 k
  | .undecodable _ => false

/-- The issuing port and the request item that an item command stands for; no item for an event.
An order that takes no target is carried with target form NONE. -/
def Instr.item : Instr → Option (PortId × Item)
  | .powerOn _ _ _ _ _ => none
  | .consoleFrame _ _ => none
  | .consoleReceiveTimeout _ => none
  | .responseSend _ => none
  | .responseSent _ => none
  | .reportSend _ => none
  | .reportSent _ => none
  | .silenceTimeout _ => none
  | .refreshDue _ => none
  | .fetchDoorRecord p n => some (p, .fetch .doorRecord n)
  | .fetchDoorSettings p n => some (p, .fetch .doorSettings n)
  | .fetchDoorPending p n => some (p, .fetch .doorPending n)
  | .fetchZoneSummary p n => some (p, .fetch .zoneSummary n)
  | .fetchUnit p n => some (p, .fetch .unit n)
  | .fetchHolds p => some (p, .fetch .holds 0)
  | .fetchClock p => some (p, .fetch .clock 0)
  | .fetchPortStatus p n => some (p, .fetch .portStatus n)
  | .fetchIdentity p => some (p, .fetch .identity 0)
  | .close p t => some (p, .order .close t)
  | .openDoor p t => some (p, .order .openDoor t)
  | .stop p t => some (p, .order .stop t)
  | .service p t v => some (p, .order (.service v) t)
  | .holdZones p t => some (p, .order .holdZones t)
  | .releaseZones p t => some (p, .order .releaseZones t)
  | .releaseForeign p t => some (p, .order .releaseForeign t)
  | .resetFaults p t => some (p, .order .resetFaults t)
  | .settingsHold p v => some (p, .order (.settingsHold v) .none)
  | .signalTest p t => some (p, .order .signalTest t)
  | .resetUnit p t => some (p, .order .resetUnit t)
  | .ack p t => some (p, .order .ack t)
  | .ackPort p t => some (p, .order .ackPort t)
  | .ackUnit p t => some (p, .order .ackUnit t)
  | .clockLoad p day ms => some (p, .order (.clockLoad day ms) .none)
  | .clockAdjust p delta => some (p, .order (.clockAdjust delta) .none)
  | .clockArm p day ms => some (p, .order (.clockArm day ms) .none)
  | .clockDisarm p => some (p, .order .clockDisarm .none)
  | .save p => some (p, .order .save .none)
  | .lock p => some (p, .order .lock .none)
  | .restart p => some (p, .order .restart .none)
  | .marker p w => some (p, .marker w)
  | .delay p ms => some (p, .delay ms)
  | .delayExpiry _ => none
  | .direct p b d k => some (p, .direct b d k)
  | .setLeadInTime p t v => some (p, .set (.op .leadInTime v) t)
  | .setRecloseDelay p t v => some (p, .set (.op .recloseDelay v) t)
  | .setStrokeLimit p t v => some (p, .set (.op .strokeLimit v) t)
  | .setDeadTime p t v => some (p, .set (.op .deadTime v) t)
  | .setClosedBand p t v => some (p, .set (.op .closedBand v) t)
  | .setOpenBand p t v => some (p, .set (.op .openBand v) t)
  | .setStallWindow p t v => some (p, .set (.op .stallWindow v) t)
  | .setStallDelta p t v => some (p, .set (.op .stallDelta v) t)
  | .setConfirmCount p t v => some (p, .set (.op .confirmCount v) t)
  | .setTailTime p t v => some (p, .set (.op .tailTime v) t)
  | .setInstalled p t v => some (p, .set (.installed v) t)
  | .setBranch p t v => some (p, .set (.branch v) t)
  | .setDrop p t v => some (p, .set (.drop v) t)
  | .setZone p t v => some (p, .set (.zone v) t)
  | .setUnit p t v => some (p, .set (.unit v) t)
  | .setGeometry p t c o => some (p, .set (.geometry c o) t)
  | .setLabel p t x => some (p, .set (.label x) t)
  | .setSlotLimit p t v => some (p, .set (.slotLimit v) t)
  | .setStartTime p t v => some (p, .set (.startTime v) t)
  | .setHoldoff p t v => some (p, .set (.holdoff v) t)
  | .setAgeTime p t v => some (p, .set (.ageTime v) t)
  | .setUrgentCount p t v => some (p, .set (.urgentCount v) t)
  | .setEnable p t v => some (p, .set (.enable v) t)
  | .setRoundPeriod p t v => some (p, .set (.roundPeriod v) t)
  | .setReplyTimeout p t v => some (p, .set (.replyTimeout v) t)
  | .setLostThreshold p t v => some (p, .set (.lostThreshold v) t)
  | .setPortRole p t v => some (p, .set (.portRole v) t)
  | .setSilenceTime p t v => some (p, .set (.silenceTime v) t)
  | .setReportsEnabled p t v => some (p, .set (.reportsEnabled v) t)
  | .setReportSpacing p t v => some (p, .set (.reportSpacing v) t)
  | .setRefreshPeriod p t v => some (p, .set (.refreshPeriod v) t)
  | .setStartClosed p t v => some (p, .set (.startClosed v) t)
  | .setFaultAlarmMask p t m => some (p, .set (.faultAlarmMask m) t)
  | .setVesselIdentity p t x => some (p, .set (.vesselIdentity x) t)
  | .setClockTrim p t i d => some (p, .set (.clockTrim i d) t)
  | .roundTimerExpiry _ => none
  | .stationReplyFrame _ _ => none
  | .replyDeadline _ => none
  | .branchReceiveTimeout _ => none
  | .reversalInstant _ => none
  | .leadInExpiry _ => none
  | .recloseTimerExpiry _ => none
  | .tailExpiry _ => none
  | .signalTestExpiry _ => none
  | .ageTimerExpiry _ => none
  | .startTimerExpiry _ => none
  | .holdoffTimerExpiry _ => none
  | .pressLowChange _ _ => none
  | .driveCutoffActive => none
  | .driveCutoffRelease => none
  | .closeAllChange _ => none
  | .syncInEdge => none
  | .trimStep => none
  | .saveCompletion => none
  | .consoleStartByte _ => none
  | .consoleLengthOver256 _ => none
  | .branchStartByte _ => none
  | .branchDataLengthOver8 _ => none
  | .lossOfSupply => none

/-- A well-formed command: an item command whose item fits a frame; every event is well-formed, since the types of
its operands bound them (a frame received is any list of bytes). -/
def Instr.wellFormed (c : Instr) : Bool :=
  match c.item with
  | some (_, it) => it.wellFormed
  | none => true

end Sys2Proof
end

