-- ==== Sys2Proof/Machine/State.lean ====
section
/-! DEFINITION. The state of the D48 as plain data: the eleven blocks of section 1.3 of the manual's first file, the
cabinet lines, the queue of waiting commands, and the state after reset. -/

namespace Sys2Proof.Machine

/-- The D48 raises no fault that ends a step: every command of the manual has an effect or none. Nothing builds a
value of this type, so a claim that no step faults is safe. -/
inductive Fault where
  deriving DecidableEq, Repr

/-- Why a step is refused. -/
inductive Refusal where
  /-- Raised by an arm of `exec` for a command without a meaning (none is left). Safe: the run stops. -/
  | notModelled (mnemonic : String)
  deriving DecidableEq, Repr

/-! ### The Door Table -/

/-- The two directions of a stroke (R20). -/
inductive Dir where
  | close | opening
  deriving DecidableEq, Repr

def Dir.opposite : Dir → Dir
  | .close => .opening
  | .opening => .close

/-- The cause of a stroke, an admission list entry or a lead-in (R20, R102, R120). -/
inductive Cause where
  | console (p : PortId) | localControl | closure | reclose
  deriving DecidableEq, Repr

/-- The states of a door (R19, R51); QUEUED and REVERSING carry their direction. -/
inductive DoorState where
  | unknown | opened | closed | halted | warning
  | queued (d : Dir) | reversing (d : Dir)
  | closing | opening | recloseWait
  deriving DecidableEq, Repr

/-- R51: the rest states. -/
def DoorState.isRest : DoorState → Bool
  | .unknown | .opened | .closed | .halted => true
  | _ => false

/-- R20, R127: the states in which a door has a stroke record and holds a slot. -/
def DoorState.hasStroke : DoorState → Bool
  | .reversing _ | .closing | .opening => true
  | _ => false

/-- R40: what the consoles are shown. -/
inductive Indication where
  | closed | opened | partly | unknown
  deriving DecidableEq, Repr

/-- The fault kinds of R22, in the order of R186. -/
inductive FaultKind where
  | linkLost | branchOff | switchConflict | sensorDisagree | positionRange | signalFault | stationSupply
  | notControlled | strokeTimeout | stall | noPower | cutOff
  deriving DecidableEq, Repr

/-- R36: how far a door's reports are believed. -/
inductive Phase where
  | awaiting | settling | settled
  deriving DecidableEq, Repr

/-- R25: the values of the last order source. -/
inductive Source where
  | port (p : PortId) | localControl | closure | reclose
  deriving DecidableEq, Repr

/-- A Vessel Clock value: day count 0..65535 and ms of day 0..86,399,999 (R175). -/
structure Stamp where
  day : Nat
  ms : Nat
  deriving DecidableEq, Repr

/-- One value for each of the ten operational settings of R11, each in its carried steps. -/
structure OpRow (α : Type) where
  leadInTime : α
  recloseDelay : α
  strokeLimit : α
  deadTime : α
  closedBand : α
  openBand : α
  stallWindow : α
  stallDelta : α
  confirmCount : α
  tailTime : α
  deriving DecidableEq, Repr

/-- R20: the progress mark of a stroke. -/
structure Mark where
  position : Nat
  instant : Nat
  deriving DecidableEq, Repr

/-- R20: a door's stroke record. -/
structure Stroke where
  direction : Dir
  cause : Cause
  cls : Nat
  driveIssued : Option Nat
  startPosition : Option Nat
  mark : Option Mark
  estimate : Option Nat
  lateForecast : Bool
  deriving DecidableEq, Repr

/-- R102: a door's lead-in record. -/
structure LeadIn where
  cause : Cause
  expiry : Nat
  deriving DecidableEq, Repr

/-- One record of the Door Table, with what the Indication Unit, the Door Motion Controller and the Warning Signal
Generator hold for the door (R4, R11, R13, R19, R29, R102). -/
structure Door where
  installed : Bool
  branch : BranchId
  drop : DropId
  zone : ZoneId
  unit : UnitId
  closedCount : Nat
  openCount : Nat
  /-- R4: the label; the empty list is an absent label. -/
  label : List Byte
  settings : OpRow Nat
  pending : OpRow (Option Nat)
  inService : Bool
  state : DoorState
  indication : Indication
  position : Option Nat
  closedSwitch : Bool
  openSwitch : Bool
  localOpen : Bool
  localClose : Bool
  closedSwitchCount : Nat
  openSwitchCount : Nat
  localOpenCount : Nat
  localCloseCount : Nat
  phase : Phase
  settlingCount : Nat
  disagreeCount : Nat
  lastCount : Option Nat
  lastRaw : Option Int
  faults : FaultSet
  unacked : FaultSet
  stroke : Option Stroke
  /-- R23: NONE is `none`. -/
  lastDriven : Option Dir
  driveOff : Option Nat
  /-- R19: the reclose timer's expiry instant while it runs. -/
  reclose : Option Nat
  lastStrokeTime : Option Nat
  strokeCount : Nat
  lastClosed : Option Stamp
  lastFault : Option Stamp
  lastSource : Option Source
  leadIn : Option LeadIn
  /-- R108: the tail timer's expiry instant while it runs. -/
  tail : Option Nat
  /-- R111: the signal test timer's expiry instant while it runs. -/
  test : Option Nat
  deriving DecidableEq, Repr

/-! ### Power units -/

/-- R117: the states of a power unit. -/
inductive UnitState where
  | stopped | gathering | starting | running | idling | failed
  deriving DecidableEq, Repr

/-- R120: one waiting stroke request. -/
structure Entry where
  door : DoorId
  direction : Dir
  cls : Nat
  cause : Cause
  arrival : Nat
  deriving DecidableEq, Repr

/-- A cabinet input debounced by time (R80, R119, R135): the level on the line, the debounced value, and, while the
samples find the line at the other level, the instant of the first of them. -/
structure Input where
  line : Bool
  value : Bool
  since : Option Nat
  deriving DecidableEq, Repr

/-- A power unit: its five settings (R115), its state (R117) and its attention (R167). -/
structure PowerUnit where
  slotLimit : Nat
  startTime : Nat
  holdoff : Nat
  ageTime : Nat
  urgentCount : Nat
  state : UnitState
  /-- The age, start or holdoff timer's expiry instant while it runs. -/
  timer : Option Nat
  /-- The doors that hold a slot, in ascending door number. -/
  holders : List DoorId
  list : List Entry
  pressLow : Input
  attention : Bool
  deriving DecidableEq, Repr

/-! ### Station branches -/

/-- R142, R150: the kinds of a station exchange. -/
inductive ExchangeKind where
  | regular | ident | lampTest
  deriving DecidableEq, Repr

/-- R107: the beacon. -/
inductive Beacon where
  | off | steady | flash
  deriving DecidableEq, Repr

/-- R102: a door's signal command. -/
structure Signals where
  sounder : Bool
  beacon : Beacon
  lamp : Bool
  deriving DecidableEq, Repr

/-- R51: the drive command; OFF is `none`. -/
abbrev Drive := Option Dir

/-- R142, R151: a command frame sent on a branch. -/
structure CommandFrame where
  drop : DropId
  kind : ExchangeKind
  sequence : Nat
  drive : Drive
  signals : Signals
  deriving DecidableEq, Repr

/-- R139: the exchange in flight. -/
structure Exchange where
  drop : DropId
  kind : ExchangeKind
  sequence : Nat
  deadline : Nat
  deriving DecidableEq, Repr

/-- R139: a pending direct exchange, with the port whose DIRECT item waits for it. -/
structure PendingDirect where
  drop : DropId
  kind : ExchangeKind
  port : PortId
  deriving DecidableEq, Repr

/-- R139: what belongs to one (branch, drop) pair. -/
structure DropLink where
  missCount : Nat
  lost : Bool
  deriving DecidableEq, Repr

/-- A station branch (R138, R139). -/
structure Branch where
  enable : Bool
  roundPeriod : Nat
  replyTimeout : Nat
  lostThreshold : Nat
  roundCounter : Nat
  roundTimer : Option Nat
  /-- The drops still to be polled in the current round, in ascending order. -/
  members : List DropId
  exchange : Option Exchange
  sequence : Nat
  pendingDirect : Option PendingDirect
  drops : Vector DropLink 12
  /-- R143: the branch receiver collects a frame. -/
  collecting : Bool
  /-- R147, R149, R152: drop and sequence of each exchange that ended without a result and has had no frame since; a
  frame for one of them is discarded (assumption 16). -/
  broken : List (DropId × Nat)
  /-- The model's own record of the command frame last sent on the branch. -/
  lastSent : Option CommandFrame
  deriving DecidableEq, Repr

/-! ### Console ports and reports -/

/-- R83: the role of a port. -/
inductive Role where
  | command | monitor
  deriving DecidableEq, Repr

/-- R163, R164: what the item executing waits for. -/
inductive Wait where
  | delay (expiry : Nat)
  | direct (branch : BranchId)
  deriving DecidableEq, Repr

/-- R154: the request in execution, with the entries its items have given. -/
structure Request where
  token : Nat
  items : List Item
  index : Nat
  entries : List (List Byte)
  wait : Option Wait
  deriving DecidableEq, Repr

/-- R157: a response in the transmit queue. -/
structure Response where
  token : Nat
  busy : Bool
  entries : List (List Byte)
  /-- The response of the request whose RESTART order is pending (R185). -/
  carriesRestart : Bool
  deriving DecidableEq, Repr

/-- R170: the content of a report. -/
structure Report where
  sequence : Nat
  stamp : Stamp
  summary : List Byte
  entries : List (List Byte)
  deriving DecidableEq, Repr

/-- R166: the frame a port's transmitter is sending. -/
inductive Sending where
  | response (r : Response)
  | report (r : Report)
  deriving DecidableEq, Repr

/-- A console port (R154) with its report state (R167). -/
structure Port where
  role : Role
  silenceTime : Nat
  active : Bool
  silenceTimer : Option Nat
  /-- R155: the receiver collects a frame. -/
  collecting : Bool
  request : Option Request
  /-- Responses waiting to be sent, in the order in which they joined. -/
  queue : List Response
  sending : Option Sending
  reportsEnabled : Bool
  reportSpacing : Nat
  /-- R169: the spacing of the report that was due already when a new spacing was written (assumption 27). -/
  dueSpacing : Option Nat
  refreshPeriod : Nat
  /-- The changed-door set, in ascending door number. -/
  changed : List DoorId
  lastReported : Vector (Option Nat) 48
  summaryChanged : Bool
  lastReport : Option Nat
  refreshCycle : Option (List DoorId)
  refreshStart : Option Nat
  reportSequence : Nat
  attention : Bool
  deriving DecidableEq, Repr

/-! ### Holds, clock, store, lines -/

/-- R79, R81: the holds map. -/
structure Holds where
  console : Vector ZoneSet 3
  line : ZoneSet
  start : ZoneSet
  deriving DecidableEq, Repr

/-- R79: the union of the five zone sets. -/
def Holds.union (h : Holds) : ZoneSet := h.console[0] ||| h.console[1] ||| h.console[2] ||| h.line ||| h.start

/-- R175: the Vessel Clock. -/
structure Clock where
  time : Stamp
  trimInterval : Nat
  /-- The trim direction is +1 ms; otherwise it is −1 ms. -/
  trimForward : Bool
  trimTimer : Option Nat
  capture : Option Stamp
  armed : Option Stamp
  deriving DecidableEq, Repr

/-- R180: what the image holds of a door. -/
structure DoorImage where
  installed : Bool
  branch : BranchId
  drop : DropId
  zone : ZoneId
  unit : UnitId
  closedCount : Nat
  openCount : Nat
  label : List Byte
  settings : OpRow Nat
  deriving DecidableEq, Repr

/-- R180: what the image holds of a power unit. -/
structure UnitImage where
  slotLimit : Nat
  startTime : Nat
  holdoff : Nat
  ageTime : Nat
  urgentCount : Nat
  deriving DecidableEq, Repr

/-- R180: what the image holds of a branch. -/
structure BranchImage where
  enable : Bool
  roundPeriod : Nat
  replyTimeout : Nat
  lostThreshold : Nat
  deriving DecidableEq, Repr

/-- R180: the content of the image. -/
structure Image where
  doors : Vector DoorImage 48
  units : Vector UnitImage 4
  branches : Vector BranchImage 4
  roles : Vector Role 3
  startClosed : Bool
  alarmMask : FaultSet
  identity : List Byte
  deriving DecidableEq, Repr

/-- R181: a save in progress: the copy taken at the order and the instant of its completion. -/
structure Saving where
  copy : Image
  completion : Nat
  deriving DecidableEq, Repr

/-- The Settings Store (R179). -/
structure Store where
  /-- The nonvolatile image; `none` is an image whose check fails. -/
  image : Option Image
  imageFault : Bool
  lockOpen : Bool
  identity : List Byte
  /-- The save state: `none` is IDLE. -/
  saving : Option Saving
  restartPending : Option PortId
  startClosed : Bool
  alarmMask : FaultSet
  deriving DecidableEq, Repr

/-- SYNC_IN (R177): the level on the line, the level the last sample found, and an edge found and not yet taken. A pulse
has left the line by the sample after the one that found it (assumption 34). -/
structure SyncInput where
  line : Bool
  sampled : Bool
  edge : Bool
  deriving DecidableEq, Repr

/-- R173: the three indication outputs. -/
structure Outputs where
  fault : Bool
  closure : Bool
  allClosed : Bool
  deriving DecidableEq, Repr

/-- The state of the D48. -/
structure State where
  /-- The model's own: supply is applied. -/
  powered : Bool
  /-- R18: the run count, in ms. -/
  runCount : Nat
  doors : Vector Door 48
  settingsHold : Bool
  holds : Holds
  units : Vector PowerUnit 4
  branches : Vector Branch 4
  ports : Vector Port 3
  clock : Clock
  store : Store
  closeAll : Input
  cutoff : Input
  sync : SyncInput
  /-- The level of COMMISSION_KEY_IN at the last power-on. -/
  keyLine : Bool
  outputs : Outputs
  /-- The model's own: the counter the free values of a FETCH are taken at. -/
  freeCount : Nat
  /-- The model's own: choices yet to be made among the items and events that may be taken at one instant
  (assumption 2). -/
  schedule : List Nat
  /-- The commands that wait, first in, first out. -/
  pending : List Instr
  deriving DecidableEq, Repr

/-! ### Defaults and reset -/

/-- R11: the default operational settings, in carried steps. -/
def OpRow.defaults : OpRow Nat :=
  { leadInTime := 50, recloseDelay := 100, strokeLimit := 400, deadTime := 500, closedBand := 15
    openBand := 30, stallWindow := 30, stallDelta := 10, confirmCount := 2, tailTime := 3 }

/-- R13: an empty pending record. -/
def OpRow.noPending : OpRow (Option Nat) :=
  { leadInTime := none, recloseDelay := none, strokeLimit := none, deadTime := none, closedBand := none
    openBand := none, stallWindow := none, stallDelta := none, confirmCount := none, tailTime := none }

/-- R4, R11: a door's part of the image's defaults. -/
def DoorImage.defaults : DoorImage :=
  { installed := false, branch := 0, drop := 0, zone := 0, unit := 0, closedCount := 0, openCount := 4095
    label := [], settings := OpRow.defaults }

/-- R115: the defaults of a power unit. -/
def UnitImage.defaults : UnitImage :=
  { slotLimit := 2, startTime := 5000, holdoff := 120, ageTime := 2000, urgentCount := 2 }

/-- R138: the defaults of a branch. -/
def BranchImage.defaults : BranchImage :=
  { enable := true, roundPeriod := 100, replyTimeout := 10, lostThreshold := 3 }

/-- R83, R179, R180: what every setting takes when the image is bad. -/
def Image.defaults : Image :=
  { doors := Vector.replicate 48 DoorImage.defaults, units := Vector.replicate 4 UnitImage.defaults
    branches := Vector.replicate 4 BranchImage.defaults
    roles := ⟨#[.command, .command, .monitor], rfl⟩
    startClosed := false, alarmMask := 0xFFF#12, identity := [] }

/-- R19, R23 to R25, R27, R29, R77, R102: a door after power-on, with what the image gives it. -/
def Door.powerOn (m : DoorImage) : Door :=
  { installed := m.installed, branch := m.branch, drop := m.drop, zone := m.zone, unit := m.unit
    closedCount := m.closedCount, openCount := m.openCount, label := m.label, settings := m.settings
    pending := OpRow.noPending, inService := true, state := .unknown, indication := .unknown, position := none
    closedSwitch := false, openSwitch := false, localOpen := false, localClose := false
    closedSwitchCount := 0, openSwitchCount := 0, localOpenCount := 0, localCloseCount := 0
    phase := .awaiting, settlingCount := 0, disagreeCount := 0, lastCount := none, lastRaw := none
    faults := 0, unacked := 0, stroke := none, lastDriven := none, driveOff := none, reclose := none
    lastStrokeTime := none, strokeCount := 0, lastClosed := none, lastFault := none, lastSource := none
    leadIn := none, tail := none, test := none }

/-- An input sampled at a level without a debounce wait (R184, step 1). -/
def Input.sampled (level : Bool) : Input := { line := level, value := level, since := none }

/-- R117, R167: a power unit after power-on. -/
def PowerUnit.powerOn (m : UnitImage) (pressLow : Bool) : PowerUnit :=
  { slotLimit := m.slotLimit, startTime := m.startTime, holdoff := m.holdoff, ageTime := m.ageTime
    urgentCount := m.urgentCount, state := .stopped, timer := none, holders := [], list := []
    pressLow := Input.sampled pressLow, attention := false }

/-- R139: a branch after power-on, before its first round starts. Its receiver hunts (assumption 37). -/
def Branch.powerOn (m : BranchImage) : Branch :=
  { enable := m.enable, roundPeriod := m.roundPeriod, replyTimeout := m.replyTimeout
    lostThreshold := m.lostThreshold, roundCounter := 0, roundTimer := none, members := [], exchange := none
    sequence := 0, pendingDirect := none, drops := Vector.replicate 12 { missCount := 0, lost := false }
    collecting := false, broken := [], lastSent := none }

/-- R154, R167: a port after power-on, its silence timer running. -/
def Port.powerOn (role : Role) : Port :=
  { role := role, silenceTime := 10, active := true, silenceTimer := some 10000, collecting := false
    request := none, queue := [], sending := none, reportsEnabled := false, reportSpacing := 250
    dueSpacing := none, refreshPeriod := 5, changed := [], lastReported := Vector.replicate 48 none, summaryChanged := false
    lastReport := none, refreshCycle := none, refreshStart := none, reportSequence := 0, attention := false }

/-- R175: the Vessel Clock after power-on. -/
def Clock.powerOn : Clock :=
  { time := { day := 0, ms := 0 }, trimInterval := 0, trimForward := true, trimTimer := none, capture := none
    armed := none }

/-- The D48 right after a power-on reset (R184) with an image that was never written, which is a bad image (R180),
every cabinet input inactive and nothing waiting (assumption 6). The four branches have run their first, empty round
(R140, R153): their round timers run and their counters stand at 1, which, with FAULT_OUT asserted for the image
fault, has set the summary changed flags (R168). -/
def State.reset : State :=
  { powered := true, runCount := 0
    doors := Vector.replicate 48 (Door.powerOn DoorImage.defaults)
    settingsHold := false
    holds := { console := Vector.replicate 3 0, line := 0, start := 0 }
    units := Vector.replicate 4 (PowerUnit.powerOn UnitImage.defaults false)
    branches := Vector.replicate 4
      { Branch.powerOn BranchImage.defaults with roundCounter := 1, roundTimer := some 100 }
    ports := ⟨#[{ Port.powerOn .command with summaryChanged := true },
                { Port.powerOn .command with summaryChanged := true },
                { Port.powerOn .monitor with summaryChanged := true }], rfl⟩
    clock := Clock.powerOn
    store := { image := none, imageFault := true, lockOpen := false, identity := [], saving := none
               restartPending := none, startClosed := false, alarmMask := 0xFFF#12 }
    closeAll := Input.sampled false, cutoff := Input.sampled false
    sync := { line := false, sampled := false, edge := false }
    keyLine := false
    outputs := { fault := true, closure := false, allClosed := false }
    freeCount := 0, schedule := [], pending := [] }

end Sys2Proof.Machine
end

