-- ==== Sys2Proof/Machine/Flags.lean ====
section
/-! DEFINITION. What the manual computes from values alone: fault sets, zone sets, ranges of the settings, the raw
position, debounce, the indication, the dead-time test, the estimate, the drive and signal commands, and clock
arithmetic. -/

namespace Sys2Proof.Machine

/-! ### Fault and zone sets -/

/-- R186: the place of a fault kind in a fault set. -/
def FaultKind.bit : FaultKind → Nat
  | .linkLost => 0
  | .branchOff => 1
  | .switchConflict => 2
  | .sensorDisagree => 3
  | .positionRange => 4
  | .signalFault => 5
  | .stationSupply => 6
  | .notControlled => 7
  | .strokeTimeout => 8
  | .stall => 9
  | .noPower => 10
  | .cutOff => 11

/-- The set that holds one fault kind. -/
def FaultKind.only (k : FaultKind) : FaultSet := 1#12 <<< k.bit

def hasFault (f : FaultSet) (k : FaultKind) : Bool := f.getLsbD k.bit
def addFault (f : FaultSet) (k : FaultKind) : FaultSet := f ||| k.only
def removeFault (f : FaultSet) (k : FaultKind) : FaultSet := f &&& ~~~k.only

/-- R22: the event faults STROKE_TIMEOUT, STALL, NO_POWER and CUT_OFF. -/
def eventFaults : FaultSet := 0xF00#12

/-- R22: a door whose fault set holds at least one event fault. -/
def Door.eventFaulted (d : Door) : Bool := d.faults &&& eventFaults != 0

/-- R79: the set contains the zone. -/
def zoneIn (m : ZoneSet) (z : ZoneId) : Bool := m.getLsbD z.val

/-- R80, R184: all 16 zones. -/
def allZones : ZoneSet := 0xFFFF#16

/-! ### Operational settings (R11 to R13) -/

def OpRow.get {α : Type} (r : OpRow α) : OpSetting → α
  | .leadInTime => r.leadInTime
  | .recloseDelay => r.recloseDelay
  | .strokeLimit => r.strokeLimit
  | .deadTime => r.deadTime
  | .closedBand => r.closedBand
  | .openBand => r.openBand
  | .stallWindow => r.stallWindow
  | .stallDelta => r.stallDelta
  | .confirmCount => r.confirmCount
  | .tailTime => r.tailTime

def OpRow.set {α : Type} (r : OpRow α) (k : OpSetting) (v : α) : OpRow α :=
  match k with
  | .leadInTime => { r with leadInTime := v }
  | .recloseDelay => { r with recloseDelay := v }
  | .strokeLimit => { r with strokeLimit := v }
  | .deadTime => { r with deadTime := v }
  | .closedBand => { r with closedBand := v }
  | .openBand => { r with openBand := v }
  | .stallWindow => { r with stallWindow := v }
  | .stallDelta => { r with stallDelta := v }
  | .confirmCount => { r with confirmCount := v }
  | .tailTime => { r with tailTime := v }

/-- The settings in the order of R11. -/
def OpSetting.all : List OpSetting :=
  [.leadInTime, .recloseDelay, .strokeLimit, .deadTime, .closedBand, .openBand, .stallWindow, .stallDelta,
   .confirmCount, .tailTime]

/-- R11: the lowest value of a setting, in carried steps. -/
def OpSetting.low : OpSetting → Nat
  | .leadInTime => 20
  | .recloseDelay => 30
  | .strokeLimit => 100
  | .deadTime => 200
  | .closedBand => 5
  | .openBand => 10
  | .stallWindow => 10
  | .stallDelta => 2
  | .confirmCount => 1
  | .tailTime => 0

/-- R11: the highest value of a setting, in carried steps. -/
def OpSetting.high : OpSetting → Nat
  | .leadInTime => 200
  | .recloseDelay => 600
  | .strokeLimit => 900
  | .deadTime => 2000
  | .closedBand => 50
  | .openBand => 80
  | .stallWindow => 100
  | .stallDelta => 50
  | .confirmCount => 4
  | .tailTime => 10

/-- A value outside a range goes to the nearer bound (R12, R161, R169). -/
def clamp (low high v : Nat) : Nat := if v < low then low else if high < v then high else v

/-- R13: applying a pending record copies every present slot into the setting of the same name. -/
def OpRow.applied (r : OpRow Nat) (p : OpRow (Option Nat)) : OpRow Nat :=
  { leadInTime := p.leadInTime.getD r.leadInTime, recloseDelay := p.recloseDelay.getD r.recloseDelay
    strokeLimit := p.strokeLimit.getD r.strokeLimit, deadTime := p.deadTime.getD r.deadTime
    closedBand := p.closedBand.getD r.closedBand, openBand := p.openBand.getD r.openBand
    stallWindow := p.stallWindow.getD r.stallWindow, stallDelta := p.stallDelta.getD r.stallDelta
    confirmCount := p.confirmCount.getD r.confirmCount, tailTime := p.tailTime.getD r.tailTime }

/-! ### Position and indication -/

/-- R1, R31: the raw position, with the quotient truncated toward zero. -/
def rawPosition (count closedCount openCount : Nat) : Int :=
  Int.tdiv (((count : Int) - closedCount) * 1000) ((openCount : Int) - closedCount)

/-- R33: the raw position lies within −50..1050. -/
def rawInRange (raw : Int) : Bool := Config.rawLow ≤ raw && raw ≤ Config.rawHigh

/-- R33: the raw position clamped to 0..1000. -/
def clampPosition (raw : Int) : Nat := if raw < 0 then 0 else if 1000 < raw then 1000 else raw.toNat

/-- R34: one input debounced by one reply: the debounced value and the change count after it. -/
def debounce (confirm : Nat) (value : Bool) (count : Nat) (reply : Bool) : Bool × Nat :=
  if reply = value then (value, 0)
  else
    let n := min (count + 1) Config.maxConfirm
    if confirm ≤ n then (reply, 0) else (value, n)

/-- R40: the indication of a door, given whether its drop is LOST or its branch disabled. -/
def Door.derivedIndication (d : Door) (lostOrOff : Bool) : Indication :=
  if d.phase ≠ .settled || hasFault d.faults .positionRange || lostOrOff then .unknown
  else if d.closedSwitch && d.openSwitch then .partly
  else if d.closedSwitch && d.position.any (fun p => p ≤ d.settings.closedBand) then .closed
  else if d.openSwitch && d.position.any (fun p => 1000 ≤ p + d.settings.openBand) then .opened
  else .partly

/-- R43: a reply that left the door with a made switch outside its band. -/
def Door.disagrees (d : Door) : Bool :=
  (d.closedSwitch && d.position.any (fun p => d.settings.closedBand < p))
    || (d.openSwitch && d.position.any (fun p => p + d.settings.openBand < 1000))

/-- R53: the rest state an indication gives. -/
def Indication.restState : Indication → DoorState
  | .closed => .closed
  | .opened => .opened
  | .partly => .halted
  | .unknown => .unknown

/-! ### Drive, dead time and estimate -/

/-- R51: the drive command of a state. -/
def DoorState.drive : DoorState → Drive
  | .closing => some .close
  | .opening => some .opening
  | _ => none

/-- R58: the state that drives in a direction. -/
def Dir.driving : Dir → DoorState
  | .close => .closing
  | .opening => .opening

/-- R58: a door to be driven in direction `dir` must first wait in REVERSING. -/
def Door.mustWait (d : Door) (dir : Dir) (now : Nat) : Bool :=
  d.lastDriven = some dir.opposite &&
    (match d.driveOff with
     | none => true
     | some off => now < off + d.settings.deadTime)

/-- R66: the advance of a stroke since its mark. -/
def advance (dir : Dir) (mark p : Nat) : Int :=
  match dir with
  | .close => (mark : Int) - p
  | .opening => (p : Int) - mark

/-- R67: the remaining distance of a stroke. -/
def remaining (dir : Dir) (p : Nat) : Nat :=
  match dir with
  | .close => p
  | .opening => 1000 - p

/-- R67: the estimate after `e` ms of driving from `start` to `p`, absent below a travel of 20. -/
def estimateOf (dir : Dir) (start p e : Nat) : Option Nat :=
  let d := advance dir start p
  if d < Config.minTravel then none
  else some (min (remaining dir p * e / d.toNat) Config.maxStrokeMs)

/-- R67: the late-forecast flag after a step. -/
def lateAfter (old : Bool) (e limitMs : Nat) : Option Nat → Bool
  | some est => limitMs < e + est
  | none => old

/-! ### Pump outputs -/

/-- R118: RUN_OUTn, which the unit's state fixes. -/
def UnitState.runOut : UnitState → Bool
  | .stopped => false
  | .gathering => false
  | .starting => true
  | .running => true
  | .idling => true
  | .failed => false

/-! ### Signals (R106 to R110) -/

/-- R106: the cause of a lead-in, entry or stroke sounds by itself. -/
def Cause.remote : Cause → Bool
  | .localControl => false
  | _ => true

/-- R106: the sounder, given the cause of the door's entry in QUEUED and whether its zone is held. -/
def Door.sounder (d : Door) (entryCause : Option Cause) (held : Bool) : Bool :=
  d.test.isSome ||
    (match d.state with
     | .warning => true
     | .queued .close => (entryCause.any Cause.remote) || held
     | .reversing .close => (d.stroke.any (fun r => r.cause.remote)) || held
     | .closing => (d.stroke.any (fun r => r.cause.remote)) || held
     | _ => false)

/-- R110, R146, R147: the door's drop is LOST or its branch disabled, as LINK_LOST or BRANCH_OFF in its fault set shows. -/
def Door.cutFromStation (d : Door) : Bool := hasFault d.faults .linkLost || hasFault d.faults .branchOff

/-- R107: the beacon by the first row that holds; but the beacon of a door whose drop is LOST or whose branch is disabled
is off, except during a signal test (R110, R146). After a warm restart, which R102 calls off, the table alone decides, so
that the fourth row holds for a door of a held zone that has kept CUT_OFF (assumption 30). -/
def Door.beacon (d : Door) (sounder held : Bool) : Beacon :=
  if sounder then .flash
  else if d.cutFromStation then .off
  else if d.state = .opening && held then .flash
  else if d.tail.isSome then .steady
  else if hasFault d.faults .cutOff && held then .steady
  else .off

/-- R110: the signal command composed from R106, R107 and R109. -/
def Door.signals (d : Door) (entryCause : Option Cause) (held : Bool) : Signals :=
  { sounder := d.sounder entryCause held, beacon := d.beacon (d.sounder entryCause held) held, lamp := held }

/-! ### The clock (R175, R176) -/

/-- R175: one millisecond forward, with the carry into the day count. -/
def Stamp.next (t : Stamp) : Stamp :=
  if Config.dayMs ≤ t.ms + 1 then { day := (t.day + 1) % Config.dayCount, ms := 0 } else { t with ms := t.ms + 1 }

/-- R175: one millisecond back, with the borrow from the day count. -/
def Stamp.prev (t : Stamp) : Stamp :=
  if t.ms = 0 then { day := (t.day + Config.dayCount - 1) % Config.dayCount, ms := Config.dayMs - 1 }
  else { t with ms := t.ms - 1 }

/-- R176: a delta of at most a day added, with one carry or one borrow. -/
def Stamp.adjust (t : Stamp) (delta : Int) : Stamp :=
  let sum := (t.ms : Int) + delta
  if (Config.dayMs : Int) ≤ sum then
    { day := (t.day + 1) % Config.dayCount, ms := (sum - Config.dayMs).toNat }
  else if sum < 0 then
    { day := (t.day + Config.dayCount - 1) % Config.dayCount, ms := (sum + Config.dayMs).toNat }
  else { t with ms := sum.toNat }

/-! ### Text (R4) -/

/-- R4: a printable character is a byte of value 0x20 to 0x7E. -/
def printable (b : Byte) : Bool := 0x20 ≤ b.toNat && b.toNat ≤ 0x7E

end Sys2Proof.Machine
end

