-- ==== Sys2Proof/Machine/Ops.lean ====
section
/-! DEFINITION. The named operations over the state: reading and writing a door, unit, branch or port, with the
change marks of R168 made where the write is made; faults (R21); timers; and the indication outputs (R173). -/

namespace Sys2Proof.Machine

def State.door (s : State) (i : DoorId) : Door := s.doors[i]
def State.unit (s : State) (u : UnitId) : PowerUnit := s.units[u]
def State.branch (s : State) (b : BranchId) : Branch := s.branches[b]
def State.port (s : State) (p : PortId) : Port := s.ports[p]

/-- R118: the pump output RUN_OUTn of a unit. -/
def State.runOut (s : State) (u : UnitId) : Bool := (s.unit u).state.runOut

/-- Every door number, ascending. -/
def doorIds : List DoorId := List.finRange 48
def unitIds : List UnitId := List.finRange 4
def branchIds : List BranchId := List.finRange 4
def portIds : List PortId := List.finRange 3
def dropIds : List DropId := List.finRange 12

/-- A door number joins an ascending list of door numbers, once. -/
def insertDoor (i : DoorId) : List DoorId → List DoorId
  | [] => [i]
  | j :: r => if i < j then i :: j :: r else if i = j then j :: r else j :: insertDoor i r

/-! ### Ports and their change marks -/

/-- Every port rewritten. -/
def State.mapPorts (s : State) (f : PortId → Port → Port) : State :=
  { s with ports := ⟨#[f 0 (s.port 0), f 1 (s.port 1), f 2 (s.port 2)], rfl⟩ }

/-- R168: every port's summary changed flag is set. -/
def State.touchSummary (s : State) : State := s.mapPorts fun _ q => { q with summaryChanged := true }

/-- The summary changed flags are set when `changed` holds. -/
def State.touchIf (s : State) (changed : Bool) : State := if changed then s.touchSummary else s

/-- One port rewritten; a change of its activity or attention sets every summary changed flag (R168). -/
def State.modPort (s : State) (p : PortId) (f : Port → Port) : State :=
  let q := s.port p
  let q' := f q
  { s with ports := s.ports.set p q' }.touchIf (q.active != q'.active || q.attention != q'.attention)

/-! ### Doors -/

/-- R67, R20: the late-forecast flag, clear when the stroke record is absent. -/
def Door.lateForecast (d : Door) : Bool := d.stroke.any (fun r => r.lateForecast)

/-- R168: what a door's entry in the changed-door sets answers for, but for its position. -/
def Door.sameReport (d e : Door) : Bool :=
  d.installed == e.installed && d.inService == e.inService && d.state == e.state && d.indication == e.indication
    && d.faults == e.faults && d.unacked == e.unacked && d.lateForecast == e.lateForecast
    && d.branch == e.branch && d.drop == e.drop && d.zone == e.zone && d.unit == e.unit
    && d.closedCount == e.closedCount && d.openCount == e.openCount

/-- R168: a changed position joins a port's set, judged against the position last reported to that port. -/
def positionJoins (reported new : Option Nat) : Bool :=
  match reported, new with
  | none, _ => true
  | some _, none => true
  | some r, some p => r + 5 ≤ p || p + 5 ≤ r || ((p == 0 || p == 1000) && !(r == 0 || r == 1000))

/-- R168: the door joins the changed-door set of every port for which its change counts. -/
def State.noteDoor (s : State) (i : DoorId) (d e : Door) : State :=
  if d.installed || e.installed then
    if d.sameReport e && d.position == e.position then s
    else s.mapPorts fun _ q =>
      if !d.sameReport e || positionJoins q.lastReported[i] e.position then
        { q with changed := insertDoor i q.changed }
      else q
  else s

/-- One door rewritten, its change noted for the reports (R168). -/
def State.modDoor (s : State) (i : DoorId) (f : Door → Door) : State :=
  { s with doors := s.doors.set i (f (s.door i)) }.noteDoor i (s.door i) (f (s.door i))

/-- An operation carried out for each door of a list, one after another. -/
def State.forDoors (s : State) (l : List DoorId) (f : DoorId → State → State) : State :=
  l.foldl (fun t i => f i t) s

/-- The installed doors that a condition picks, in ascending door number. -/
def State.doorsWhere (s : State) (c : Door → Bool) : List DoorId :=
  doorIds.filter fun i => (s.door i).installed && c (s.door i)

/-- R54: a door takes a state. Its lead-in record belongs to WARNING (R102), its reclose timer to RECLOSE_WAIT (R51),
its tail to CLOSED (R108) and its signal test to the rest states (R112). -/
def State.setState (s : State) (i : DoorId) (st : DoorState) : State :=
  s.modDoor i fun d =>
    { d with
      state := st
      leadIn := if st = .warning then d.leadIn else none
      reclose := if st = .recloseWait then d.reclose else none
      tail := if st = .closed then d.tail else none
      test := if st.isRest then d.test else none }

/-- R25: the last order source. -/
def State.setSource (s : State) (i : DoorId) (src : Source) : State :=
  s.modDoor i fun d => { d with lastSource := some src }

/-- R23: when the drive command goes OFF, the drive-off instant takes the instant of the change, if the door's last
driven direction is OPEN or CLOSE. A drive that is OFF already leaves it. -/
def State.driveOffNow (s : State) (i : DoorId) : State :=
  if (s.door i).state.drive.isSome && (s.door i).lastDriven.isSome then
    s.modDoor i fun d => { d with driveOff := some s.runCount }
  else s

/-! ### Faults (R21) -/

/-- R21, R178: raising a fault kind: it joins both sets, and the last-fault stamp takes the clock's value. -/
def State.raiseFault (s : State) (i : DoorId) (k : FaultKind) : State :=
  s.modDoor i fun d =>
    { d with faults := addFault d.faults k, unacked := addFault d.unacked k, lastFault := some s.clock.time }

/-- R21: a condition fault is raised when its condition becomes true, and not again while it stays true. -/
def State.raiseCondition (s : State) (i : DoorId) (k : FaultKind) : State :=
  if hasFault (s.door i).faults k then s else s.raiseFault i k

/-- R21: clearing a condition fault: the kind leaves both sets. -/
def State.clearFault (s : State) (i : DoorId) (k : FaultKind) : State :=
  s.modDoor i fun d => { d with faults := removeFault d.faults k, unacked := removeFault d.unacked k }

/-- A condition fault brought up to date with its condition (R21). -/
def State.followCondition (s : State) (i : DoorId) (k : FaultKind) (holds : Bool) : State :=
  if holds then s.raiseCondition i k else s.clearFault i k

/-! ### Units, branches, inputs -/

/-- One power unit rewritten; a change of its state, attention or debounced input sets the summary flags (R168). -/
def State.modUnit (s : State) (u : UnitId) (f : PowerUnit → PowerUnit) : State :=
  let x := s.unit u
  let y := f x
  { s with units := s.units.set u y }.touchIf
    (x.state != y.state || x.attention != y.attention || x.pressLow.value != y.pressLow.value)

/-- One branch rewritten; a change of its round counter sets the summary flags (R141). -/
def State.modBranch (s : State) (b : BranchId) (f : Branch → Branch) : State :=
  let x := s.branch b
  let y := f x
  { s with branches := s.branches.set b y }.touchIf (x.roundCounter != y.roundCounter)

/-- The drop of a branch that a door has. -/
def State.link (s : State) (b : BranchId) (d : DropId) : DropLink := (s.branch b).drops[d]

/-- One (branch, drop) pair rewritten (R139). -/
def State.modLink (s : State) (b : BranchId) (d : DropId) (f : DropLink → DropLink) : State :=
  s.modBranch b fun x => { x with drops := x.drops.set d (f x.drops[d]) }

/-- An input whose debounced value takes a new level (R80, R119, R135); the line has stood at that level. -/
def Input.settledAt (level : Bool) : Input := { line := level, value := level, since := none }

/-! ### Holds -/

/-- R79: the zone is held. -/
def State.held (s : State) (z : ZoneId) : Bool := zoneIn s.holds.union z

/-- The door's zone is held. -/
def State.doorHeld (s : State) (i : DoorId) : Bool := s.held (s.door i).zone

/-! ### Outputs (R173) -/

/-- R173: FAULT_OUT. -/
def State.faultOut (s : State) : Bool :=
  doorIds.any (fun i => (s.door i).installed && (s.door i).unacked &&& s.store.alarmMask != 0)
    || unitIds.any (fun u => (s.unit u).attention)
    || portIds.any (fun p => (s.port p).attention && (s.port p).role = .command)
    || s.store.imageFault

/-- R173: CLOSURE_OUT. -/
def State.closureOut (s : State) : Bool := s.holds.union != 0

/-- R173: ALL_CLOSED_OUT. -/
def State.allClosedOut (s : State) : Bool :=
  s.closureOut &&
    doorIds.all fun i => !((s.door i).installed && s.doorHeld i) || (s.door i).indication = .closed

/-- R173: the outputs take their values within the event; a change of one sets the summary flags (R168). -/
def State.evalOutputs (s : State) : State :=
  let o : Outputs := { fault := s.faultOut, closure := s.closureOut, allClosed := s.allClosedOut }
  { s with outputs := o }.touchIf (s.outputs != o)

end Sys2Proof.Machine
end

