-- ==== Sys2Proof/Machine/Rest.lean ====
section
/-! DEFINITION. Coming to rest and entering WARNING: pending settings (R13, R14), the lead-in (R103), the closure
demand (R87) and the rest-state entry (R54). -/

namespace Sys2Proof.Machine

/-- R13: the pending record of a door is applied and left empty. -/
def State.applyPending (s : State) (i : DoorId) : State :=
  s.modDoor i fun d => { d with settings := d.settings.applied d.pending, pending := OpRow.noPending }

/-- R103: a door enters WARNING with a lead-in of the given cause, timed with the lead-in time in force. -/
def State.enterWarning (s : State) (i : DoorId) (c : Cause) : State :=
  (s.setState i .warning).modDoor i fun d =>
    { d with leadIn := some { cause := c, expiry := s.runCount + d.settings.leadInTime * 100 } }

/-- R87: the door is demanded closed. -/
def State.demanded (s : State) (i : DoorId) : Bool :=
  let d := s.door i
  d.installed && d.inService && s.doorHeld i && (d.state = .opened || d.state = .halted) && !d.eventFaulted
    && !d.localOpen

/-- R87, R88: the closure demand is evaluated for a door. -/
def State.closureDemand (s : State) (i : DoorId) : State :=
  if s.demanded i then (s.enterWarning i .closure).setSource i .closure else s

/-- R14, R54: the pending record is applied as a rest state is entered, if the settings hold is off. -/
def State.applyAtRest (s : State) (i : DoorId) : State := if s.settingsHold then s else s.applyPending i

/-- R54: a rest-state entry: the state, then the pending record, then the closure demand. -/
def State.enterRest (s : State) (i : DoorId) (st : DoorState) : State :=
  ((s.setState i st).applyAtRest i).closureDemand i

/-- The rest state that the door's indication gives, entered (R54). -/
def State.enterIndicated (s : State) (i : DoorId) : State := s.enterRest i (s.door i).indication.restState

/-- R53: a door at rest follows its indication. -/
def State.followIndication (s : State) (i : DoorId) : State :=
  if (s.door i).state = (s.door i).indication.restState then s else s.enterIndicated i

end Sys2Proof.Machine
end

