-- ==== Sys2Proof/Machine/Admission.lean ====
section
/-! DEFINITION. Admission lists and slots (R120 to R129): joining, leaving, admission runs, and what each does to the
state of the unit. -/

namespace Sys2Proof.Machine

/-- R121: an entry is placed at the end of its class. -/
def insertEntry (e : Entry) (l : List Entry) : List Entry :=
  l.takeWhile (fun x => x.cls ≤ e.cls) ++ e :: l.dropWhile (fun x => x.cls ≤ e.cls)

/-- R122: a door's entry leaves a list; the entries behind it close up. -/
def removeEntry (i : DoorId) (l : List Entry) : List Entry := l.filter fun x => x.door ≠ i

/-- The door's entry in the admission list of its own unit (R120). -/
def State.entryOf (s : State) (i : DoorId) : Option Entry :=
  (s.unit (s.door i).unit).list.find? fun x => x.door = i

/-- R110: the signal command of a door. -/
def State.signalCommand (s : State) (i : DoorId) : Signals :=
  (s.door i).signals ((s.entryOf i).map (fun e => e.cause)) (s.doorHeld i)

/-- R51: the drive command of a door. -/
def State.driveCommand (s : State) (i : DoorId) : Drive := (s.door i).state.drive

/-- R58, R59, R61: the door enters REVERSING in a direction if it must wait for its dead time, and the driving state
of that direction otherwise. -/
def State.deadTimeTest (s : State) (i : DoorId) (dir : Dir) : State :=
  s.setState i (if (s.door i).mustWait dir s.runCount then .reversing dir else dir.driving)

/-- R59: the stroke record of a door just admitted. -/
def Entry.stroke (e : Entry) : Stroke :=
  { direction := e.direction, cause := e.cause, cls := e.cls, driveIssued := none, startPosition := none, mark := none
    estimate := none, lateForecast := false }

/-- R126, R59: the head of a unit's list is admitted. -/
def State.admitHead (s : State) (u : UnitId) (e : Entry) : State :=
  ((s.modUnit u fun x => { x with list := x.list.tail, holders := insertDoor e.door x.holders }).modDoor e.door
    fun d => { d with stroke := some e.stroke }).deadTimeTest e.door e.direction

/-- R126: an admission run takes heads of the list while a slot is free and the drive cutoff is inactive; `n` bounds
the number of admissions. -/
def State.admitUpTo (s : State) (u : UnitId) : Nat → State
  | 0 => s
  | n + 1 =>
    match (s.unit u).list with
    | [] => s
    | e :: _ =>
      if (s.unit u).holders.length < (s.unit u).slotLimit && !s.cutoff.value then (s.admitHead u e).admitUpTo u n else s

/-- R126: an admission run of a RUNNING unit. -/
def State.admissionRun (s : State) (u : UnitId) : State :=
  if (s.unit u).state = .running then s.admitUpTo u (s.unit u).list.length else s

/-- R126, R128: a RUNNING unit that holds no slot and whose list is empty goes to IDLING. -/
def State.idleIfDone (s : State) (u : UnitId) : State :=
  let x := s.unit u
  if x.state = .running && x.holders.isEmpty && x.list.isEmpty then
    s.modUnit u fun x => { x with state := .idling, timer := some (s.runCount + x.holdoff * 1000) }
  else s

/-- R128: a door leaves the slot holders of its unit; an admission run follows, and IDLING if nothing is left. -/
def State.freeSlot (s : State) (i : DoorId) : State :=
  let u := (s.door i).unit
  ((s.modUnit u fun x => { x with holders := x.holders.filter fun j => j ≠ i }).admissionRun u).idleIfDone u

/-- R122: a door's entry leaves its unit's list, and the unit takes the new length. -/
def State.leaveList (s : State) (i : DoorId) : State :=
  let u := (s.door i).unit
  let t := s.modUnit u fun x => { x with list := removeEntry i x.list }
  let x := t.unit u
  if x.state = .gathering && x.list.isEmpty then t.modUnit u fun x => { x with state := .stopped, timer := none }
  else t.idleIfDone u

/-- R125: a unit enters STARTING. -/
def State.startUnit (s : State) (u : UnitId) : State :=
  s.modUnit u fun x => { x with state := .starting, timer := some (s.runCount + x.startTime) }

/-- R123, R124, R126, R129: the unit takes an entry of class `cls` that has joined its list. -/
def State.unitJoined (s : State) (u : UnitId) (cls : Nat) : State :=
  let x := s.unit u
  match x.state with
  | .stopped =>
    if cls = 0 || x.urgentCount ≤ x.list.length || x.ageTime = 0 then s.startUnit u
    else s.modUnit u fun x => { x with state := .gathering, timer := some (s.runCount + x.ageTime) }
  | .gathering => if cls = 0 || x.urgentCount ≤ x.list.length then s.startUnit u else s
  | .starting => s
  | .running => s.admissionRun u
  | .idling => (s.modUnit u fun x => { x with state := .running, timer := none }).admissionRun u
  | .failed => s

end Sys2Proof.Machine
end

