-- ==== Sys2Proof/Machine/Strokes.lean ====
section
/-! DEFINITION. Strokes: requests and replacements (R55, R57), halts, cuts, cancellations and losses (R56, R68 to R71),
direction changes (R61, R62), the issue of a drive (R52) and the supervision of a driven stroke (R63 to R67). -/

namespace Sys2Proof.Machine

/-- R55: what a stroke request asks for. -/
structure StrokeRequest where
  direction : Dir
  cause : Cause
  cls : Nat
  arrival : Nat
  deriving DecidableEq, Repr

/-- R132: the door's unit is FAILED. -/
def State.unitFailed (s : State) (i : DoorId) : Bool := (s.unit (s.door i).unit).state = .failed

/-- R55: a request that meets a FAILED unit: NO_POWER is raised, and the door takes the rest state of its
indication. -/
def State.refusePower (s : State) (i : DoorId) : State := (s.raiseFault i .noPower).enterIndicated i

/-- R55, R57, R121: the request of a door whose unit is not FAILED: its old entry, if any, leaves the list and the new
one joins at the end of its class, the door enters QUEUED, and the unit takes the join. -/
def State.listRequest (s : State) (i : DoorId) (r : StrokeRequest) : State :=
  let u := (s.door i).unit
  let e : Entry := { door := i, direction := r.direction, cls := r.cls, cause := r.cause, arrival := r.arrival }
  (((s.modUnit u fun x => { x with list := insertEntry e (removeEntry i x.list) }).setState i
    (.queued r.direction)).unitJoined u r.cls)

/-- R55, R57: a stroke request or replacement. -/
def State.request (s : State) (i : DoorId) (r : StrokeRequest) : State :=
  if s.unitFailed i then s.refusePower i else s.listRequest i r

/-- The steps of a halt before the door takes its next state (R68, steps 1 to 3): drive off, slot freed, stroke record
absent. -/
def State.endStroke (s : State) (i : DoorId) : State :=
  ((s.driveOffNow i).freeSlot i).modDoor i fun d => { d with stroke := none }

/-- R68: a halt into the rest state of the door's indication. -/
def State.haltToRest (s : State) (i : DoorId) : State := (s.endStroke i).enterIndicated i

/-- R69, R71: a cut of a door that holds a slot: the fault is raised, then the door is halted. -/
def State.cut (s : State) (i : DoorId) (k : FaultKind) : State :=
  if (s.door i).state.hasStroke then (s.raiseFault i k).haltToRest i else s

/-- What a door in WARNING, QUEUED, a stroke or RECLOSE_WAIT has in flight ends (R56, R68, R70): its entry leaves the
list, or its stroke ends; its lead-in and reclose timer end with the state. -/
def State.endWork (s : State) (i : DoorId) : State :=
  match (s.door i).state with
  | .queued _ => s.leaveList i
  | .reversing _ | .closing | .opening => s.endStroke i
  | _ => s

/-- R56, R68, R99: a cancellation or halt into the rest state of the door's indication. -/
def State.stopToRest (s : State) (i : DoorId) : State := (s.endWork i).enterIndicated i

/-- R54: a pass-through into WARNING. -/
def State.passToWarning (s : State) (i : DoorId) (c : Cause) : State := (s.endWork i).enterWarning i c

/-- R53, R70: the Door Motion Controller takes an indication: a door at rest follows it, and a door not at rest whose
indication is UNKNOWN loses what it has in flight. -/
def State.takeIndication (s : State) (i : DoorId) : State :=
  if (s.door i).state.isRest then s.followIndication i
  else if (s.door i).indication = .unknown then s.stopToRest i
  else s

/-- R61, R62: a direction change of a driving or reversing door: the drive goes OFF, the stroke record takes the new
direction, cause and class, and the dead-time test is made. -/
def State.changeDirection (s : State) (i : DoorId) (dir : Dir) (c : Cause) (cls : Nat) : State :=
  ((s.driveOffNow i).modDoor i fun d =>
    { d with stroke := some { direction := dir, cause := c, cls := cls, driveIssued := none, startPosition := none
                              mark := none, estimate := none, lateForecast := false } }).deadTimeTest i dir

/-- R52, R23: the issue of a drive: the first poll that carries the drive command of the door. -/
def State.issueDrive (s : State) (i : DoorId) : State :=
  match (s.door i).state.drive, (s.door i).stroke with
  | some dir, some r =>
    if r.driveIssued.isSome then s
    else s.modDoor i fun d =>
      { d with
        stroke := some { r with
          driveIssued := some s.runCount
          startPosition := d.position
          mark := d.position.map fun p => { position := p, instant := s.runCount } }
        lastDriven := some dir
        driveOff := none }
  | _, _ => s

/-- R108: a completed closing stroke starts the beacon tail, unless its cause is LOCAL or the tail time is 0. -/
def State.startTail (s : State) (i : DoorId) (c : Cause) : State :=
  if c.remote && (s.door i).settings.tailTime ≠ 0 && (s.door i).state = .closed then
    s.modDoor i fun d => { d with tail := some (s.runCount + d.settings.tailTime * 1000) }
  else s

/-- R64, R24: the statistics of a completed stroke that was driven for `e` ms. -/
def Door.completed (d : Door) (dir : Dir) (e : Nat) (stamp : Stamp) : Door :=
  { d with
    lastStrokeTime := some (min e Config.maxStrokeMs)
    strokeCount := min (d.strokeCount + 1) Config.maxStrokeCount
    lastClosed := if dir = .close then some stamp else d.lastClosed
    stroke := none }

/-- R64: completion of a stroke that was driven for `e` ms. -/
def State.complete (s : State) (i : DoorId) (r : Stroke) (e : Nat) : State :=
  let t := (((s.driveOffNow i).freeSlot i).modDoor i fun d => d.completed r.direction e s.clock.time).enterIndicated i
  if r.direction = .close then t.startTail i r.cause else t

/-- R64: the indication completes a stroke in this direction. -/
def Dir.completedBy : Dir → Indication → Bool
  | .close, .closed => true
  | .opening, .opened => true
  | _, _ => false

/-- R66: the advance reaches the stall delta. -/
def Door.progresses (d : Door) (r : Stroke) (p : Nat) : Bool :=
  match r.mark with
  | some m => (d.settings.stallDelta : Int) ≤ advance r.direction m.position p
  | none => true

/-- R66: the stall window has run out since the mark. -/
def Door.stalled (d : Door) (r : Stroke) (now : Nat) : Bool :=
  match r.mark with
  | some m => m.instant + d.settings.stallWindow * 100 ≤ now
  | none => false

/-- R66, R67: the stroke record after a step that the stroke survives at position `p` after `e` ms. -/
def Door.supervised (d : Door) (r : Stroke) (p e now : Nat) : Stroke :=
  let est := r.startPosition.bind fun start => estimateOf r.direction start p e
  { r with
    mark := if d.progresses r p then some { position := p, instant := now } else r.mark
    estimate := est
    lateForecast := lateAfter r.lateForecast e (d.settings.strokeLimit * 100) est }

/-- R63, R65: the checks of a supervision step, `e` ms after the drive was issued: completion, stroke timeout, progress,
estimate. -/
def State.supervise (s : State) (i : DoorId) (r : Stroke) (e : Nat) : State :=
  let d := s.door i
  if r.direction.completedBy d.indication then s.complete i r e
  else if d.settings.strokeLimit * 100 < e then s.cut i .strokeTimeout
  else
    match d.position with
    | none => s
    | some p =>
      if !d.progresses r p && d.stalled r s.runCount then s.cut i .stall
      else s.modDoor i fun d => { d with stroke := some (d.supervised r p e s.runCount) }

/-- R63: the result of a reply is a supervision step of a CLOSING or OPENING door whose drive was issued before the
result's instant; a result whose indication is UNKNOWN ends the stroke under R70 instead. -/
def State.takeResult (s : State) (i : DoorId) : State :=
  let d := s.door i
  if d.state.isRest || d.indication = .unknown then s.takeIndication i
  else
    match d.state.drive, d.stroke.bind fun r => r.driveIssued.map fun t => (r, t) with
    | some _, some (r, t) => if t < s.runCount then s.supervise i r (s.runCount - t) else s
    | _, _ => s

end Sys2Proof.Machine
end

