-- ==== Sys2Proof/Machine/Controls.lean ====
section
/-! DEFINITION. The local controls at a door: presses in a free zone (R73, R74), and hold-to-run in a held zone (R92 to
R94). -/

namespace Sys2Proof.Machine

/-- R72: the edges of a door out of service or in UNKNOWN move nothing. -/
def Door.controlsMove (d : Door) : Bool := d.inService && d.state ≠ .unknown

/-- R25: the last order source becomes LOCAL where the door's state has changed from `old`. -/
def State.localSource (s : State) (i : DoorId) (old : DoorState) : State :=
  if (s.door i).state = old then s else s.setSource i .localControl

/-- R73, R92: what a press of local open does in each state. -/
def State.openPressed (s : State) (i : DoorId) : State :=
  let r : StrokeRequest := { direction := .opening, cause := .localControl, cls := 2, arrival := s.runCount }
  match (s.door i).state with
  | .closed | .halted | .warning | .queued .close => s.request i r
  | .recloseWait => if s.doorHeld i then s.request i r else s
  | .reversing .close | .closing => s.changeDirection i .opening .localControl 2
  | .unknown | .opened | .queued .opening | .reversing .opening | .opening => s

/-- R74, R94: what a press of local close does in each state; the class is 0 in a held zone and 1 in a free one. -/
def State.closePressed (s : State) (i : DoorId) : State :=
  let cls := if s.doorHeld i then 0 else 1
  let r : StrokeRequest := { direction := .close, cause := .localControl, cls := cls, arrival := s.runCount }
  match (s.door i).state with
  | .opened | .halted | .queued .opening => s.request i r
  | .recloseWait => if s.doorHeld i then s.request i r else s
  | .reversing .opening | .opening => s.changeDirection i .close .localControl cls
  | .unknown | .closed | .warning | .queued .close | .reversing .close | .closing => s

/-- R93: a door enters RECLOSE_WAIT, and its reclose timer runs for the reclose delay in force. -/
def State.enterRecloseWait (s : State) (i : DoorId) : State :=
  (s.setState i .recloseWait).modDoor i fun d =>
    { d with reclose := some (s.runCount + d.settings.recloseDelay * 100) }

/-- R93: a let-go of local open at a door in a held zone. -/
def State.openLetGo (s : State) (i : DoorId) : State :=
  match (s.door i).state with
  | .queued .opening | .reversing .opening | .opening =>
    if (s.door i).eventFaulted then s.stopToRest i
    else (s.endWork i).enterRecloseWait i
  | .opened | .halted => if (s.door i).eventFaulted then s else s.enterRecloseWait i
  | _ => s

/-- The edges that one reply has confirmed (R35). -/
structure Edges where
  openPress : Bool
  openLetGo : Bool
  closePress : Bool
  deriving DecidableEq, Repr

def Edges.none : Edges := { openPress := false, openLetGo := false, closePress := false }

/-- R72, R25: an edge acts through `f` on a door that its controls move, and names LOCAL where the state changed. -/
def State.takeEdge (s : State) (i : DoorId) (edge : Bool) (f : State → State) : State :=
  if edge && (s.door i).controlsMove then (f s).localSource i (s.door i).state else s

/-- R75: the let-go of local open acts in a held zone alone. -/
def State.takeLetGo (s : State) (i : DoorId) (edge : Bool) : State :=
  s.takeEdge i (edge && s.doorHeld i) fun t => t.openLetGo i

/-- R72 to R75, R92 to R94: local open's edge is taken first, then local close's. -/
def State.takeEdges (s : State) (i : DoorId) (e : Edges) : State :=
  ((s.takeEdge i e.openPress fun t => t.openPressed i).takeLetGo i e.openLetGo).takeEdge i e.closePress
    fun t => t.closePressed i

end Sys2Proof.Machine
end

