-- ==== Sys2Proof/Machine/Indicating.lean ====
section
/-! DEFINITION. The Indication Unit: unsettling events (R36), and the stages in which a good reply of a station is
taken and handed on (R30 to R50). -/

namespace Sys2Proof.Machine

/-- R30: the fields of a station's reply that the Indication Unit takes. -/
structure Reply where
  closedSwitch : Bool
  openSwitch : Bool
  count : Nat
  localOpen : Bool
  localClose : Bool
  supplyLow : Bool
  sounderFault : Bool
  deriving DecidableEq, Repr

/-- R36, R39, R46: what an unsettling event writes. -/
def Door.unsettled (d : Door) : Door :=
  { d with
    phase := .awaiting, settlingCount := 0, disagreeCount := 0, closedSwitchCount := 0, openSwitchCount := 0
    localOpenCount := 0, localCloseCount := 0, indication := .unknown }

/-- R36, R48: an unsettling event of a door, handed on at once. -/
def State.unsettle (s : State) (i : DoorId) : State := (s.modDoor i Door.unsettled).takeIndication i

/-- R31, R32: stage 1: the last count and the last raw position. -/
def Door.countTaken (d : Door) (count : Nat) : Door :=
  { d with lastCount := some count, lastRaw := some (rawPosition count d.closedCount d.openCount) }

/-- R33: stage 2: the range check and the clamp. -/
def State.rangeCheck (s : State) (i : DoorId) (raw : Int) : State :=
  if rawInRange raw then
    (s.modDoor i fun d => { d with position := some (clampPosition raw) }).clearFault i .positionRange
  else s.raiseCondition i .positionRange

/-- R44: stage 3: the faults the station reports. -/
def State.stationFaults (s : State) (i : DoorId) (r : Reply) : State :=
  (s.followCondition i .signalFault r.sounderFault).followCondition i .stationSupply r.supplyLow

/-- R37: the initial take of a door in AWAITING. -/
def Door.initialTake (d : Door) (r : Reply) : Door :=
  { d with
    closedSwitch := r.closedSwitch, openSwitch := r.openSwitch, localOpen := r.localOpen, localClose := r.localClose
    closedSwitchCount := 0, openSwitchCount := 0, localOpenCount := 0, localCloseCount := 0
    settlingCount := 1
    phase := if d.settings.confirmCount ≤ 1 then .settled else .settling }

/-- R34, R47: the four inputs debounced, each with its own count. -/
def Door.debounced (d : Door) (r : Reply) : Door :=
  let c := d.settings.confirmCount
  let cs := debounce c d.closedSwitch d.closedSwitchCount r.closedSwitch
  let os := debounce c d.openSwitch d.openSwitchCount r.openSwitch
  let lo := debounce c d.localOpen d.localOpenCount r.localOpen
  let lc := debounce c d.localClose d.localCloseCount r.localClose
  { d with
    closedSwitch := cs.1, closedSwitchCount := cs.2, openSwitch := os.1, openSwitchCount := os.2
    localOpen := lo.1, localOpenCount := lo.2, localClose := lc.1, localCloseCount := lc.2 }

/-- R38: a door in SETTLING advances its settling count, and settles when it reaches the confirm count. -/
def Door.settlingAdvanced (d : Door) : Door :=
  if d.phase = .settling then
    let n := min (d.settlingCount + 1) Config.maxConfirm
    { d with settlingCount := n, phase := if d.settings.confirmCount ≤ n then .settled else .settling }
  else d

/-- R34, R37, R38: stage 4: debounce and intake phase. -/
def Door.intake (d : Door) (r : Reply) : Door :=
  if d.phase = .awaiting then d.initialTake r else (d.debounced r).settlingAdvanced

/-- R35: the edges of the local controls between the door before and after stage 4; an initial take gives none. -/
def edgesOf (d e : Door) : Edges :=
  if d.phase = .awaiting then Edges.none
  else
    { openPress := !d.localOpen && e.localOpen, openLetGo := d.localOpen && !e.localOpen
      closePress := !d.localClose && e.localClose }

/-- R40: the door's drop is LOST or its branch disabled. -/
def State.lostOrOff (s : State) (i : DoorId) : Bool :=
  let d := s.door i
  (s.link d.branch d.drop).lost || !(s.branch d.branch).enable

/-- R40, R41: stage 5: the indication is derived anew. -/
def State.indicate (s : State) (i : DoorId) : State :=
  s.modDoor i fun d => { d with indication := d.derivedIndication (s.lostOrOff i) }

/-- R42: SWITCH_CONFLICT follows the debounced switches whenever one of them has changed, and at an initial take. -/
def State.switchConflict (s : State) (i : DoorId) (tested : Bool) : State :=
  if tested then s.followCondition i .switchConflict ((s.door i).closedSwitch && (s.door i).openSwitch) else s

/-- R43: SENSOR_DISAGREE is judged at each reply in range. -/
def State.sensorDisagree (s : State) (i : DoorId) : State :=
  if (s.door i).disagrees then
    let t := s.modDoor i fun d => { d with disagreeCount := min (d.disagreeCount + 1) Config.maxConfirm }
    if (t.door i).settings.confirmCount ≤ (t.door i).disagreeCount then t.raiseCondition i .sensorDisagree else t
  else (s.modDoor i fun d => { d with disagreeCount := 0 }).clearFault i .sensorDisagree

/-- R30: the stages before the intake: raw position, range check, station faults. -/
def State.takeCount (s : State) (i : DoorId) (r : Reply) : State :=
  ((s.modDoor i fun d => d.countTaken r.count).rangeCheck i
    (rawPosition r.count (s.door i).closedCount (s.door i).openCount)).stationFaults i r

/-- R42: the switches changed between the door before and after the intake, or the intake was an initial take. -/
def switchesTested (d e : Door) : Bool :=
  d.phase = .awaiting || d.closedSwitch != e.closedSwitch || d.openSwitch != e.openSwitch

/-- R30: the six stages of a good reply, in their order. -/
def State.reply (s : State) (i : DoorId) (r : Reply) : State :=
  let raw := rawPosition r.count (s.door i).closedCount (s.door i).openCount
  let t := s.takeCount i r
  let u := ((t.modDoor i fun d => d.intake r).indicate i).switchConflict i
    (switchesTested (t.door i) ((t.door i).intake r))
  if rawInRange raw then u.sensorDisagree i else u

/-- R30, R48, R49: a good reply to a regular poll is taken: the Indication Unit's stages, then the Door Motion
Controller's supervision, then the edges of the local controls. A door at rest, or settled by this very reply, follows
its indication first, and its edges then act on the state so reached (assumption 36). -/
def State.takeReply (s : State) (i : DoorId) (r : Reply) : State :=
  let t := s.takeCount i r
  ((s.reply i r).takeResult i).takeEdges i (edgesOf (t.door i) ((t.door i).intake r))

end Sys2Proof.Machine
end

