-- ==== Sys2Proof/Machine/Operands.lean ====
section
/-! DEFINITION. What the items of a request share: result codes (section 8.7), the role and lock checks, and the forms
of target (section 12.3). -/

namespace Sys2Proof.Machine

/-- R2: the result codes, in the order of section 12.3. -/
inductive Result where
  | ok | clamped | range | locked | refusedRole | refusedMode | refusedState | refusedService | refusedPower
  | noDoor | unclaimed | branchOff | timeout | busy | badItem
  deriving DecidableEq, Repr

/-- Section 12.3: the code of a result. -/
def Result.code : Result → Nat
  | .ok => 0
  | .clamped => 1
  | .range => 2
  | .locked => 3
  | .refusedRole => 4
  | .refusedMode => 5
  | .refusedState => 6
  | .refusedService => 7
  | .refusedPower => 8
  | .noDoor => 9
  | .unclaimed => 10
  | .branchOff => 11
  | .timeout => 12
  | .busy => 13
  | .badItem => 14

/-- What an item's owner answers: the state after it, the result, and the count that an ORDER entry carries
(R96, R162). -/
structure Answer where
  state : State
  result : Result
  count : Nat
  deriving Repr

/-- An answer without a count. -/
def State.answer (s : State) (r : Result) : Answer := { state := s, result := r, count := 0 }

/-- R83: the port is a COMMAND port. -/
def State.commands (s : State) (p : PortId) : Bool := (s.port p).role = .command

/-- R83: a MONITOR port is answered REFUSED_ROLE before any other check. -/
def State.asCommand (s : State) (p : PortId) (k : Answer) : Answer :=
  if s.commands p then k else s.answer .refusedRole

/-- R182: with the commissioning lock closed the SET is answered LOCKED. -/
def State.asUnlocked (s : State) (k : Answer) : Answer :=
  if s.store.lockOpen then k else s.answer .locked

/-- A number of the manual counted from 1 as an index: `none` outside 1..n. -/
def numbered (n k : Nat) : Option (Fin n) :=
  if h : k - 1 < n then (if k = 0 then none else some ⟨k - 1, h⟩) else none

/-- The manual's number of an index: a door, zone, unit, branch or drop number. -/
def number {n : Nat} (i : Fin n) : Nat := i.val + 1

/-- A number of the manual counted from 0 as an index: `none` outside 0..n-1. -/
def indexed (n k : Nat) : Option (Fin n) := if h : k < n then some ⟨k, h⟩ else none

/-- R96: what an order does to one door, with its result. -/
abbrev DoorOrder := DoorId → State → State × Result

/-- R96: the answers of a zone order so far: the state, the count of doors whose outcome was OK, and the first
refusal. -/
structure ZoneTally where
  state : State
  count : Nat
  first : Option Result
  deriving Repr

/-- R96: the next door of a zone order. -/
def ZoneTally.next (f : DoorOrder) (z : ZoneTally) (i : DoorId) : ZoneTally :=
  let (t, r) := f i z.state
  if r = .ok then { state := t, count := z.count + 1, first := z.first }
  else { state := t, count := z.count, first := some (z.first.getD r) }

/-- R96: a zone order takes each installed door of the zone in ascending door number; the result is OK or the first
refusal, and the count is that of the doors whose outcome was OK. -/
def State.zoneOrder (s : State) (z : ZoneId) (f : DoorOrder) : Answer :=
  let t := (s.doorsWhere fun d => d.zone = z).foldl (ZoneTally.next f) { state := s, count := 0, first := none }
  { state := t.state, result := t.first.getD .ok, count := t.count }

/-- A door target (R96): NO_DOOR for a door that is not installed, else the per-door rule's answer. -/
def State.doorOrder (s : State) (n : Nat) (f : DoorOrder) : Answer :=
  match numbered 48 n with
  | none => s.answer .badItem
  | some i =>
    if (s.door i).installed then
      let (t, r) := f i s
      t.answer r
    else s.answer .noDoor

/-- R96: an order that names a door or a zone; every other form is answered RANGE. -/
def State.doorOrZone (s : State) (t : Target) (f : DoorOrder) : Answer :=
  match t with
  | .door n => s.doorOrder n f
  | .zone n =>
    match numbered 16 n with
    | some z => s.zoneOrder z f
    | none => s.answer .range
  | _ => s.answer .range

/-- An order or SET that names one door; every other form is answered RANGE. -/
def State.doorOnly (s : State) (t : Target) (f : DoorOrder) : Answer :=
  match t with
  | .door n => s.doorOrder n f
  | _ => s.answer .range

end Sys2Proof.Machine
end

