-- ==== Sys2Proof/Machine/Holding.lean ====
section
/-! DEFINITION. The Closure Authority Unit: the holds map and what a change of the union does to the doors (R79 to R91),
the hold and release orders (R84 to R86), and the console orders CLOSE, OPEN, STOP and SERVICE (R96 to R100). -/

namespace Sys2Proof.Machine

/-- R91: NOT_CONTROLLED is present exactly while an installed door is out of service and its zone is held. -/
def State.updateNotControlled (s : State) (i : DoorId) : State :=
  s.followCondition i .notControlled ((s.door i).installed && !(s.door i).inService && s.doorHeld i)

/-- R89: a cause CONSOLE of an entry or stroke record becomes another cause. -/
def Cause.fromConsole (c new : Cause) : Cause :=
  match c with
  | .console _ => new
  | c => c

/-- R89, R121: a QUEUED(close) entry of class 1 moves to the end of class 0, and the unit takes it as a class 0 entry
joining. -/
def State.moveToClass0 (s : State) (i : DoorId) : State :=
  match s.entryOf i with
  | some e =>
    if e.cls = 1 then
      let u := (s.door i).unit
      let e' := { e with cls := 0, arrival := s.runCount, cause := e.cause.fromConsole .closure }
      (s.modUnit u fun x => { x with list := insertEntry e' (removeEntry i x.list) }).unitJoined u 0
    else s
  | none => s

/-- R89: a door opening under a held local open becomes hold-to-run: a cause CONSOLE becomes LOCAL. -/
def State.makeHoldToRun (s : State) (i : DoorId) : State :=
  let t := s.modUnit (s.door i).unit fun x =>
    { x with list := x.list.map fun e => if e.door = i then { e with cause := e.cause.fromConsole .localControl } else e }
  t.modDoor i fun d =>
    { d with stroke := d.stroke.map fun r => { r with cause := r.cause.fromConsole .localControl } }

/-- R89: a door whose zone becomes held. -/
def State.doorBecomesHeld (s : State) (i : DoorId) : State :=
  let d := s.door i
  match d.state with
  | .opened | .halted => s.closureDemand i
  | .warning => s.modDoor i fun d =>
      { d with leadIn := d.leadIn.map fun l => { l with cause := l.cause.fromConsole .closure } }
  | .queued .close => s.moveToClass0 i
  | .queued .opening | .reversing .opening | .opening =>
    if d.localOpen then s.makeHoldToRun i
    else if d.eventFaulted then s.stopToRest i
    else (s.passToWarning i .closure).setSource i .closure
  | .unknown | .closed | .reversing .close | .closing | .recloseWait => s

/-- R90: a door whose zone stops being held. -/
def State.doorReleased (s : State) (i : DoorId) : State :=
  match (s.door i).state with
  | .recloseWait => s.enterIndicated i
  | _ => s

/-- R82: a door of the zones that an event has added to or taken from the union `old`. -/
def State.takeUnionChange (old : ZoneSet) (i : DoorId) (s : State) : State :=
  let z := (s.door i).zone
  if zoneIn old z = s.held z then s
  else (if s.held z then s.doorBecomesHeld i else s.doorReleased i).updateNotControlled i

/-- R82: the holds map takes a new value; every installed door of each changed zone is taken in one pass, in ascending
door number, each door whole before the next. A change of any holder's set sets the summary flags (R168). -/
def State.setHolds (s : State) (h : Holds) : State :=
  let t := { s with holds := h }.touchIf (s.holds != h)
  t.forDoors (t.doorsWhere fun _ => true) (State.takeUnionChange s.holds.union)

/-- A console holder's zone set rewritten. -/
def Holds.setConsole (h : Holds) (p : PortId) (m : ZoneSet) : Holds := { h with console := h.console.set p m }

/-- R84: ORDER HOLD_ZONES. -/
def State.orderHoldZones (s : State) (p : PortId) (t : Target) : Answer :=
  s.asCommand p <|
    match t with
    | .zoneSet m => (s.setHolds (s.holds.setConsole p (s.holds.console[p] ||| m))).answer .ok
    | _ => s.answer .range

/-- R85: ORDER RELEASE_ZONES. -/
def State.orderReleaseZones (s : State) (p : PortId) (t : Target) : Answer :=
  s.asCommand p <|
    match t with
    | .zoneSet m => (s.setHolds (s.holds.setConsole p (s.holds.console[p] &&& ~~~m))).answer .ok
    | _ => s.answer .range

/-- R86: ORDER RELEASE_FOREIGN, the holder given by its code of section 12.3. -/
def State.orderReleaseForeign (s : State) (p : PortId) (t : Target) : Answer :=
  s.asCommand p <|
    match t with
    | .holder 4 => (s.setHolds { s.holds with start := 0 }).answer .ok
    | .holder 3 => s.answer .refusedMode
    | .holder n =>
      match indexed 3 n with
      | none => s.answer .badItem
      | some q =>
        if q = p || (s.port q).active then s.answer .refusedState
        else (s.setHolds (s.holds.setConsole q 0)).answer .ok
    | _ => s.answer .range

/-! ### Console orders on doors -/

/-- R25: an order that changes the door's state names its port as the last order source. -/
def State.byPort (s : State) (i : DoorId) (p : PortId) : State × Result := (s.setSource i (.port p), .ok)

/-- R97: CLOSE, per door. -/
def State.closeDoor (p : PortId) (i : DoorId) (s : State) : State × Result :=
  let d := s.door i
  let cause : Cause := if s.doorHeld i then .closure else .console p
  if !d.inService then (s, .refusedService)
  else if d.state = .unknown then (s, .refusedState)
  else if d.eventFaulted then (s, .refusedState)
  else if s.doorHeld i && d.localOpen then (s, .refusedMode)
  else
    match d.state with
    | .opened | .halted | .opening | .reversing .opening | .queued .opening | .recloseWait =>
      (s.passToWarning i cause).byPort i p
    | .unknown | .closed | .warning | .queued .close | .reversing .close | .closing => (s, .ok)

/-- R98: OPEN, per door. A request that meets a FAILED unit is answered REFUSED_POWER. -/
def State.openDoor (p : PortId) (i : DoorId) (s : State) : State × Result :=
  let d := s.door i
  let r : StrokeRequest := { direction := .opening, cause := .console p, cls := 2, arrival := s.runCount }
  if s.doorHeld i then (s, .refusedMode)
  else if !d.inService then (s, .refusedService)
  else if d.state = .unknown then (s, .refusedState)
  else if d.eventFaulted then (s, .refusedState)
  else
    match d.state with
    | .closed | .halted | .warning | .queued .close =>
      if s.unitFailed i then (s.refusePower i, .refusedPower) else (s.listRequest i r).byPort i p
    | .reversing .close | .closing => (s.changeDirection i .opening (.console p) 2).byPort i p
    | .unknown | .opened | .queued .opening | .reversing .opening | .opening | .recloseWait => (s, .ok)

/-- R99: STOP, per door. -/
def State.stopDoor (p : PortId) (i : DoorId) (s : State) : State × Result :=
  if s.doorHeld i then (s, .refusedMode)
  else
    match (s.door i).state with
    | .reversing _ | .closing | .opening | .warning | .queued _ => (s.stopToRest i).byPort i p
    | .unknown | .opened | .closed | .halted | .recloseWait => (s, .ok)

/-- R100: SERVICE(out). -/
def State.serviceOut (p : PortId) (i : DoorId) (s : State) : State × Result :=
  let d := s.door i
  if s.doorHeld i then (s, .refusedMode)
  else if !d.state.isRest then (s, .refusedState)
  else if !d.inService then (s, .ok)
  else (s.modDoor i fun d => { d with inService := false }).byPort i p

/-- R100: SERVICE(in). Where its demand puts the door into WARNING, the last order source is CLOSURE (R87), not the
port (assumption 29). -/
def State.serviceIn (p : PortId) (i : DoorId) (s : State) : State × Result :=
  let t := if (s.door i).inService then s
    else (s.modDoor i fun d => { d with inService := true }).setSource i (.port p)
  ((t.clearFault i .notControlled).closureDemand i, .ok)

/-- R97: ORDER CLOSE. -/
def State.orderClose (s : State) (p : PortId) (t : Target) : Answer :=
  s.asCommand p (s.doorOrZone t (State.closeDoor p))

/-- R98: ORDER OPEN. -/
def State.orderOpen (s : State) (p : PortId) (t : Target) : Answer :=
  s.asCommand p (s.doorOrZone t (State.openDoor p))

/-- R99: ORDER STOP. -/
def State.orderStop (s : State) (p : PortId) (t : Target) : Answer :=
  s.asCommand p (s.doorOrZone t (State.stopDoor p))

/-- R100: ORDER SERVICE; a parameter other than 0 and 1 is answered RANGE (assumption 11). -/
def State.orderService (s : State) (p : PortId) (t : Target) (value : Nat) : Answer :=
  s.asCommand p <|
    match value with
    | 0 => s.doorOnly t (State.serviceOut p)
    | 1 => s.doorOnly t (State.serviceIn p)
    | _ => s.doorOnly t fun _ s => (s, .range)

end Sys2Proof.Machine
end

