-- ==== Sys2Proof/Machine/Units.lean ====
section
/-! DEFINITION. The Power Unit Arbiter's own events: entry into FAILED (R131), the three unit timers (R124, R125, R129),
the pressure inputs (R130), RESET_UNIT (R133) and the drive cutoff (R135, R136). -/

namespace Sys2Proof.Machine

/-- R131, step 3: a listed door is dropped with NO_POWER. -/
def State.dropEntry (s : State) (i : DoorId) : State := ((s.raiseFault i .noPower).leaveList i).enterIndicated i

/-- R131: a unit enters FAILED: its slot holders are cut in ascending door number, its entries dropped in list order,
and its attention is set. -/
def State.failUnit (s : State) (u : UnitId) : State :=
  let t := s.modUnit u fun x => { x with state := .failed, timer := none }
  let v := t.forDoors (t.unit u).holders fun i t => t.cut i .noPower
  let w := v.forDoors ((v.unit u).list.map fun e => e.door) fun i t => t.dropEntry i
  w.modUnit u fun x => { x with attention := true }

/-- The unit's timer has run out. -/
def State.unitTimerDue (s : State) (u : UnitId) (st : UnitState) : Bool :=
  (s.unit u).state = st && (s.unit u).timer.any (fun e => e ≤ s.runCount)

/-- R124: the age timer of a GATHERING unit expires. -/
def State.ageExpired (s : State) (u : UnitId) : State :=
  if s.unitTimerDue u .gathering then s.startUnit u else s

/-- R125: the start timer of a STARTING unit expires: FAILED if its pressure input is active, else RUNNING with an
admission run, and IDLING if nothing is left. -/
def State.startExpired (s : State) (u : UnitId) : State :=
  if s.unitTimerDue u .starting then
    if (s.unit u).pressLow.value then s.failUnit u
    else ((s.modUnit u fun x => { x with state := .running, timer := none }).admissionRun u).idleIfDone u
  else s

/-- R129: the holdoff timer of an IDLING unit expires. -/
def State.holdoffExpired (s : State) (u : UnitId) : State :=
  if s.unitTimerDue u .idling then s.modUnit u fun x => { x with state := .stopped, timer := none } else s

/-- R119, R130: a unit's debounced pressure input takes a new level. -/
def State.pressureChanged (s : State) (u : UnitId) (active : Bool) : State :=
  if (s.unit u).pressLow.value = active then s
  else
    let t := s.modUnit u fun x => { x with pressLow := Input.settledAt active }
    if active && ((t.unit u).state = .running || (t.unit u).state = .idling) then t.failUnit u else t

/-- The installed doors of a unit, ascending (R115). -/
def State.doorsOfUnit (s : State) (u : UnitId) : List DoorId := s.doorsWhere fun d => d.unit = u

/-- R133: ORDER RESET_UNIT. -/
def State.orderResetUnit (s : State) (p : PortId) (t : Target) : Answer :=
  s.asCommand p <|
    match t with
    | .unit n =>
      match numbered 4 n with
      | none => s.answer .range
      | some u =>
        let x := s.unit u
        if x.state = .failed && x.pressLow.value then s.answer .refusedState
        else
          let t := if x.state = .failed then s.modUnit u fun x => { x with state := .stopped, timer := none } else s
          (t.forDoors (t.doorsOfUnit u) fun i t => t.closureDemand i).answer .ok
    | _ => s.answer .range

/-- R135: the drive cutoff becomes active: every slot holder is cut with CUT_OFF, in ascending door number. -/
def State.cutoffActive (s : State) : State :=
  if s.cutoff.value then s
  else
    let t := { s with cutoff := Input.settledAt true }.touchSummary
    t.forDoors (doorIds.filter fun i => (t.door i).state.hasStroke) fun i t => t.cut i .cutOff

/-- R136: the drive cutoff becomes inactive: every RUNNING unit makes an admission run. -/
def State.cutoffReleased (s : State) : State :=
  if s.cutoff.value then
    let t := { s with cutoff := Input.settledAt false }.touchSummary
    unitIds.foldl (fun t u => t.admissionRun u) t
  else s

/-- R80: the debounced CLOSE_ALL_IN takes a new level, and the LINE set becomes all zones or none. -/
def State.closeAllChanged (s : State) (active : Bool) : State :=
  if s.closeAll.value = active then s
  else
    let t := { s with closeAll := Input.settledAt active }.touchSummary
    t.setHolds { t.holds with line := if active then allZones else 0 }

end Sys2Proof.Machine
end

