-- ==== Sys2Proof/Machine/Links.lean ====
section
/-! DEFINITION. The Station Link Controller: command frames and exchanges (R142, R143), misses, loss and recovery (R144
to R146), rounds (R140, R141), enabling and disabling a branch (R147, R148), claims (R149), and direct exchanges (R150 to
R152). -/

namespace Sys2Proof.Machine

/-! ### Answering a waiting DIRECT item -/

/-- Section 12.3: the code of a direct kind, and of a frame kind on the line (section 12.6). -/
def ExchangeKind.code : ExchangeKind → Nat
  | .regular => 0
  | .ident => 1
  | .lampTest => 2

def byteOf (n : Nat) : Byte := BitVec.ofNat 8 n

/-- R190: eight data bytes, the ones given first and zeros behind them. -/
def padData (data : List Byte) : List Byte := (data ++ List.replicate 8 0).take 8

/-- R190: the entry of a DIRECT item. -/
def directEntry (r : Result) (branch drop kind : Nat) (data : List Byte) : List Byte :=
  [6, byteOf r.code, byteOf branch, byteOf drop, byteOf kind] ++ padData data

/-- R157: an entry joins the response of a request, and its next item is the one to take. -/
def Request.withEntry (r : Request) (e : List Byte) : Request :=
  { r with entries := r.entries ++ [e], index := r.index + 1, wait := none }

/-- R157: the EXECUTED response of a request: its token, and the entries that its items have given. -/
def Request.response (r : Request) (carriesRestart : Bool) : Response :=
  { token := r.token, busy := false, entries := r.entries, carriesRestart := carriesRestart }

/-- R157: execution of a request ends: its response joins the transmit queue, and the request becomes absent. -/
def Port.concluded (q : Port) (r : Request) (carriesRestart : Bool) : Port :=
  { q with request := none, queue := q.queue ++ [r.response carriesRestart] }

/-- R157: the item executing ends with an entry, and after the last item of its frame execution ends. -/
def Port.itemEnded (e : List Byte) (q : Port) : Port :=
  match q.request with
  | none => q
  | some r =>
    if r.items.length ≤ r.index + 1 then q.concluded (r.withEntry e) false
    else { q with request := some (r.withEntry e) }

/-- R164: the request of the port waits for the direct exchange of the branch. -/
def Port.awaits (q : Port) (b : BranchId) : Bool := q.request.any fun r => r.wait = some (.direct b)

/-- R151, R152: the pending direct exchange of a branch becomes absent and its item is answered. -/
def State.answerDirect (s : State) (b : BranchId) (r : Result) (data : List Byte) : State :=
  match (s.branch b).pendingDirect with
  | none => s
  | some d =>
    (s.modBranch b fun x => { x with pendingDirect := none }).modPort d.port fun q =>
      if q.awaits b then q.itemEnded (directEntry r (number b) (number d.drop) d.kind.code data) else q

/-! ### Claims -/

/-- R149: the installed door that has a (branch, drop) pair. -/
def State.claimant (s : State) (b : BranchId) (d : DropId) : Option DoorId :=
  doorIds.find? fun i => (s.door i).installed && (s.door i).branch = b && (s.door i).drop = d

/-- R140: the drops of a branch's installed doors, ascending. -/
def State.claimedDrops (s : State) (b : BranchId) : List DropId := dropIds.filter fun d => (s.claimant b d).isSome

/-! ### Sending -/

/-- R142, R151: a command frame is sent to a drop: the exchange in flight becomes present, and the branch's sequence
goes on, 15 being followed by 0. A frame that echoes this drop and sequence is for this exchange from now on. -/
def State.sendFrame (s : State) (b : BranchId) (d : DropId) (k : ExchangeKind) (drive : Drive) (g : Signals) : State :=
  s.modBranch b fun x =>
    { x with
      exchange := some { drop := d, kind := k, sequence := x.sequence, deadline := s.runCount + x.replyTimeout }
      sequence := (x.sequence + 1) % 16
      broken := x.broken.filter fun e => e ≠ (d, x.sequence)
      lastSent := some { drop := d, kind := k, sequence := x.sequence, drive := drive, signals := g } }

/-- R142: a regular poll of a door's drop; a drive it carries is issued where R52 makes it so. -/
def State.sendRegular (s : State) (b : BranchId) (d : DropId) (i : DoorId) : State :=
  (s.sendFrame b d .regular (s.driveCommand i) (s.signalCommand i)).issueDrive i

/-- R151: a direct command frame carries a drive of OFF. -/
def State.sendDirect (s : State) (b : BranchId) (d : DropId) (k : ExchangeKind) (i : DoorId) : State :=
  s.sendFrame b d k none (s.signalCommand i)

/-- R151: the exchange with a drop whose turn it is: the pending direct exchange of that drop if its door is at rest,
else the regular poll, with REFUSED_STATE for the direct exchange of a door that is not at rest. -/
def State.beginExchange (s : State) (b : BranchId) (d : DropId) (i : DoorId) : State :=
  match (s.branch b).pendingDirect with
  | some pd =>
    if pd.drop = d then
      if (s.door i).state.isRest then s.sendDirect b d pd.kind i
      else (s.answerDirect b .refusedState []).sendRegular b d i
    else s.sendRegular b d i
  | none => s.sendRegular b d i

/-! ### Rounds -/

/-- R141: a completed round advances the round counter; 255 is followed by 1. -/
def nextRound (n : Nat) : Nat := if 255 ≤ n then 1 else n + 1

/-- R141: the round of a branch is completed. -/
def State.countRound (s : State) (b : BranchId) : State :=
  s.modBranch b fun x => { x with roundCounter := nextRound x.roundCounter }

/-- R140: the exchanges of a round go on with the first of these drops that a door claims; `none` when none is left. -/
def State.exchangeFrom (s : State) (b : BranchId) : List DropId → Option State
  | [] => none
  | d :: rest =>
    match s.claimant b d with
    | some i => some ((s.modBranch b fun x => { x with members := rest }).beginExchange b d i)
    | none => s.exchangeFrom b rest

/-- R140, R141: the round goes on with its next exchange, or is completed. -/
def State.goOnOrComplete (s : State) (b : BranchId) : State :=
  match s.exchangeFrom b (s.branch b).members with
  | some t => t
  | none => (s.modBranch b fun x => { x with members := [] }).countRound b

/-- R140: a round starts: its timer and its membership are set, and its first exchange begins; a round with no drop is
completed at its start. -/
def State.startRound (s : State) (b : BranchId) : State :=
  let drops := s.claimedDrops b
  (s.modBranch b fun x => { x with roundTimer := some (s.runCount + x.roundPeriod), members := drops }).goOnOrComplete b

/-- R140: the next round is due: no exchange is in flight and the round timer has expired. -/
def State.roundDue (s : State) (b : BranchId) : Bool :=
  let x := s.branch b
  x.enable && x.exchange.isNone && x.roundTimer.any (fun e => e ≤ s.runCount)

/-- R140: the round timer has expired and the round has ended, so the next round starts. -/
def State.nextRoundIfDue (s : State) (b : BranchId) : State := if s.roundDue b then s.startRound b else s

/-- R140, R143: an exchange of a branch has ended: the round goes on, and at its end the next one starts if the round
timer has expired. -/
def State.exchangeEnded (s : State) (b : BranchId) : State := (s.goOnOrComplete b).nextRoundIfDue b

/-! ### Outcomes of an exchange -/

/-- R145: a drop becomes LOST; the door loses its indication and what it has in flight. -/
def State.dropLost (s : State) (b : BranchId) (d : DropId) : State :=
  let t := s.modLink b d fun l => { l with lost := true }
  match t.claimant b d with
  | some i => (t.raiseCondition i .linkLost).unsettle i
  | none => t

/-- R145: a miss of a drop. -/
def State.miss (s : State) (b : BranchId) (d : DropId) : State :=
  let l := s.link b d
  let t := s.modLink b d fun l => { l with missCount := min (l.missCount + 1) Config.maxMiss }
  if !l.lost && (s.branch b).lostThreshold ≤ l.missCount + 1 then t.dropLost b d else t

/-- R151: an exchange is a miss; a direct exchange is answered TIMEOUT. -/
def State.exchangeMissed (s : State) (b : BranchId) (x : Exchange) : State :=
  match x.kind with
  | .regular => s.miss b x.drop
  | _ => (s.answerDirect b .timeout []).miss b x.drop

/-- R144: a good reply to a regular poll: miss count, recovery, and the Indication Unit. -/
def State.goodRegular (s : State) (b : BranchId) (d : DropId) (r : Reply) : State :=
  let recovered := (s.link b d).lost
  let t := s.modLink b d fun _ => { missCount := 0, lost := false }
  match t.claimant b d with
  | some i => (if recovered then t.clearFault i .linkLost else t).takeReply i r
  | none => t

/-- R151: a good reply to a direct exchange: the miss count becomes 0, the link state stays, the item is answered. -/
def State.goodDirect (s : State) (b : BranchId) (d : DropId) (data : List Byte) : State :=
  (s.modLink b d fun l => { l with missCount := 0 }).answerDirect b .ok data

/-- R143: the exchange in flight becomes absent. -/
def State.clearExchange (s : State) (b : BranchId) : State :=
  s.modBranch b fun x => { x with exchange := none }

/-- R143: the reply deadline of the exchange in flight passes. -/
def State.deadlinePassed (s : State) (b : BranchId) : State :=
  match (s.branch b).exchange with
  | some x =>
    if x.deadline ≤ s.runCount then ((s.clearExchange b).exchangeMissed b x).exchangeEnded b else s
  | none => s

/-! ### Breaking off -/

/-- R147, R149, R152: an exchange in flight ends without a result, a direct one with the answer `r`; a frame received
for it afterwards is discarded. -/
def State.breakExchange (s : State) (b : BranchId) (r : Result) : State :=
  match (s.branch b).exchange with
  | none => s
  | some x =>
    let t := s.modBranch b fun y => { y with exchange := none, broken := y.broken ++ [(x.drop, x.sequence)] }
    match x.kind with
    | .regular => t
    | _ => t.answerDirect b r []

/-- R139: a pair's values as they stand when nothing has happened on it. -/
def DropLink.fresh : DropLink := { missCount := 0, lost := false }

/-- R152: a pending direct exchange of a drop is answered. -/
def State.dropDirect (s : State) (b : BranchId) (d : DropId) (r : Result) : State :=
  match (s.branch b).pendingDirect with
  | some pd => if pd.drop = d then s.answerDirect b r [] else s
  | none => s

/-- R149, R152: a pair is released: its values are fresh, its place in the round is passed over, an exchange of it in
flight ends without a result, and a direct exchange of it is answered UNCLAIMED. A pair claimed is fresh too. -/
def State.releasePair (s : State) (b : BranchId) (d : DropId) : State :=
  let t := (s.modLink b d fun _ => DropLink.fresh).modBranch b fun x =>
    { x with members := x.members.filter fun e => e ≠ d }
  match (t.branch b).exchange with
  | some x =>
    if x.drop = d then (((t.breakExchange b .unclaimed).dropDirect b d .unclaimed).exchangeEnded b)
    else t.dropDirect b d .unclaimed
  | none => t.dropDirect b d .unclaimed

/-- R8, R10, R149: a pair is claimed with a miss count of 0, LINKED. -/
def State.claimPair (s : State) (b : BranchId) (d : DropId) : State := s.modLink b d fun _ => DropLink.fresh

/-- The installed doors of a branch, ascending. -/
def State.doorsOfBranch (s : State) (b : BranchId) : List DoorId := s.doorsWhere fun d => d.branch = b

/-- R147, step 4: a door of a branch that is disabled. -/
def State.doorBranchOff (i : DoorId) (s : State) : State :=
  ((s.clearFault i .linkLost).raiseCondition i .branchOff).unsettle i

/-- R147: a branch is disabled. -/
def State.disableBranch (s : State) (b : BranchId) : State :=
  let t := (s.modBranch b fun x => { x with enable := false }).breakExchange b .branchOff
  let u := t.modBranch b fun x =>
    { x with members := [], roundTimer := none, roundCounter := 0, drops := Vector.replicate 12 DropLink.fresh }
  let v := u.answerDirect b .branchOff []
  v.forDoors (v.doorsOfBranch b) State.doorBranchOff

/-- R148: a branch is enabled: BRANCH_OFF leaves its doors, and a round starts at once. -/
def State.enableBranch (s : State) (b : BranchId) : State :=
  let t := s.modBranch b fun x => { x with enable := true }
  (t.forDoors (t.doorsOfBranch b) fun i t => t.clearFault i .branchOff).startRound b

/-! ### DIRECT items -/

/-- R150: the kind of a DIRECT item. -/
def directKind : Nat → Option ExchangeKind
  | 1 => some .ident
  | 2 => some .lampTest
  | _ => none

/-- R150: what a DIRECT item finds: an answer at its taking, or the pending exchange it makes. -/
def State.judgeDirect (s : State) (p : PortId) (branch drop kind : Nat) : Result ⊕ (BranchId × PendingDirect) :=
  match numbered 4 branch, numbered 12 drop, directKind kind with
  | some b, some d, some k =>
    if !s.commands p then .inl .refusedRole
    else if !(s.branch b).enable then .inl .branchOff
    else
      match s.claimant b d with
      | none => .inl .unclaimed
      | some i =>
        if (s.branch b).pendingDirect.isSome then .inl .busy
        else if !(s.door i).state.isRest then .inl .refusedState
        else .inr (b, { drop := d, kind := k, port := p })
  | _, _, _ => .inl .badItem

end Sys2Proof.Machine
end

