-- ==== Sys2Proof/Machine/Bytes.lean ====
section
/-! DEFINITION. Bytes on the wire: big-endian fields (R187), the CRC (R187), and the codes of section 12.3. -/

namespace Sys2Proof.Machine

/-- R187: a number in `k` bytes, most significant byte first. -/
def bytesOf : Nat → Nat → List Byte
  | 0, _ => []
  | k + 1, n => byteOf (n / 256 ^ k) :: bytesOf k n

/-- R187: the number that a run of bytes carries, most significant byte first. -/
def natOf (l : List Byte) : Nat := l.foldl (fun n b => n * 256 + b.toNat) 0

/-- R187: a signed number in two's complement, in `k` bytes. -/
def signedBytes (k : Nat) (v : Int) : List Byte := bytesOf k ((v % (256 ^ k : Nat)).toNat)

/-- R187: the two's-complement number that a run of bytes carries. -/
def intOf (l : List Byte) : Int :=
  let n := natOf l
  if 2 * n < 256 ^ l.length then n else (n : Int) - (256 ^ l.length : Nat)

/-- R190: all ones in `k` bytes, for an absent value. -/
def allOnes (k : Nat) : List Byte := List.replicate k 0xFF

/-- R190: a value in `k` bytes, all ones when absent. -/
def optBytes (k : Nat) : Option Nat → List Byte
  | some n => bytesOf k n
  | none => allOnes k

/-- One bit of the CRC: polynomial 0x1021, most significant bit first (R187). -/
def crcBit (c : BitVec 16) : BitVec 16 := if c.msb then (c <<< 1) ^^^ 0x1021 else c <<< 1

/-- One byte of the CRC (R187). -/
def crcByte (c : BitVec 16) (b : Byte) : BitVec 16 :=
  crcBit (crcBit (crcBit (crcBit (crcBit (crcBit (crcBit (crcBit (c ^^^ (b.setWidth 16 <<< 8)))))))))

/-- R187: the CRC of a run of bytes: initial value 0xFFFF, no final inversion. -/
def crc16 (l : List Byte) : BitVec 16 := l.foldl crcByte 0xFFFF

/-- R187: the CRC of a run of bytes as it is sent, high byte first. -/
def crcBytes (l : List Byte) : List Byte := bytesOf 2 (crc16 l).toNat

/-- R187: a console frame around the bytes that its length field counts. -/
def consoleFrameBytes (body : List Byte) : List Byte :=
  Config.consoleStart :: ((bytesOf 2 body.length ++ body) ++ crcBytes (bytesOf 2 body.length ++ body))

def bit (b : Bool) (k : Nat) : Nat := if b then 2 ^ k else 0

def flag (b : Bool) : List Byte := [if b then 1 else 0]

/-! ### Codes (section 12.3) -/

def DoorState.code : DoorState → Nat
  | .unknown => 0
  | .opened => 1
  | .closed => 2
  | .halted => 3
  | .warning => 4
  | .queued .close => 5
  | .queued .opening => 6
  | .reversing .close => 7
  | .reversing .opening => 8
  | .closing => 9
  | .opening => 10
  | .recloseWait => 11

def Indication.code : Indication → Nat
  | .unknown => 0
  | .closed => 1
  | .opened => 2
  | .partly => 3

def UnitState.code : UnitState → Nat
  | .stopped => 0
  | .gathering => 1
  | .starting => 2
  | .running => 3
  | .idling => 4
  | .failed => 5

def Cause.code : Cause → Nat
  | .console _ => 0
  | .localControl => 1
  | .closure => 2
  | .reclose => 3

def Source.code : Source → Nat
  | .port p => p.val + 1
  | .localControl => 4
  | .closure => 5
  | .reclose => 6

def Role.code : Role → Nat
  | .command => 0
  | .monitor => 1

/-- R190: the direction of a stroke record. -/
def Dir.code : Dir → Nat
  | .close => 0
  | .opening => 1

/-- R190: the last driven direction, NONE 0, OPEN 1, CLOSE 2; section 12.6: the drive, OFF 0. -/
def Drive.code : Drive → Nat
  | none => 0
  | some .opening => 1
  | some .close => 2

def Beacon.code : Beacon → Nat
  | .off => 0
  | .steady => 1
  | .flash => 2

/-- R186: a stamp in 6 bytes. -/
def Stamp.bytes (t : Stamp) : List Byte := bytesOf 2 t.day ++ bytesOf 4 t.ms

/-- R190: a stamp, or ms of day 0xFFFFFFFF beside a day count that the manual leaves open. -/
def stampBytes (n k : Nat) : Option Stamp → List Byte
  | some t => t.bytes
  | none => [Config.openByte (.absentDay k) n, Config.openByte (.absentDay (k + 1)) n] ++ allOnes 4

/-! ### Station frames (section 12.6) -/

/-- Section 12.6: the signals byte of a command frame. -/
def CommandFrame.signalsByte (f : CommandFrame) : Byte :=
  byteOf (f.drive.code + bit f.signals.sounder 2 + f.signals.beacon.code * 8 + bit f.signals.lamp 5)

/-- Section 12.6: the six bytes of a command frame. -/
def CommandFrame.bytes (f : CommandFrame) : List Byte :=
  let body := [byteOf (number f.drop), byteOf (f.kind.code * 16 + f.sequence), f.signalsByte]
  Config.stationStart :: (body ++ crcBytes body)

/-- Section 12.6: the fields of a reply frame. -/
structure StationFrame where
  drop : Nat
  kind : Nat
  sequence : Nat
  status : Byte
  count : Nat
  data : List Byte
  crcGood : Bool
  deriving DecidableEq, Repr

/-- R189, section 12.6: a complete reply frame: the start byte, a data length of at most 8, and exactly the bytes that
the data length gives; `none` for bytes that are no complete frame. -/
def readStationFrame (l : List Byte) : Option StationFrame :=
  match l with
  | start :: drop :: echo :: status :: c1 :: c0 :: len :: rest =>
    if start = Config.stationStart && len.toNat ≤ 8 && rest.length = len.toNat + 2 then
      let data := rest.take len.toNat
      some
        { drop := drop.toNat, kind := echo.toNat / 16, sequence := echo.toNat % 16, status := status
          count := natOf [c1, c0], data := data
          crcGood := rest.drop len.toNat = crcBytes ([drop, echo, status, c1, c0, len] ++ data) }
    else none
  | _ => none

/-- R189: the data length that suits an exchange. -/
def ExchangeKind.dataLength : ExchangeKind → Nat
  | .regular => 0
  | .ident => 8
  | .lampTest => 1

/-- R143, R189: the frame is a good reply to an exchange. -/
def StationFrame.goodFor (f : StationFrame) (x : Exchange) : Bool :=
  f.crcGood && f.drop = number x.drop && f.sequence = x.sequence && f.kind = x.kind.code
    && f.data.length = x.kind.dataLength && f.count < 4096

/-- Section 12.6: the status bits and the count of a reply, as the Indication Unit takes them (R30). Bits 6 and 7 of
the status byte, to which the section gives neither a meaning nor a check, are not looked at (assumption 33). -/
def StationFrame.reply (f : StationFrame) : Reply :=
  { closedSwitch := f.status.getLsbD 0, openSwitch := f.status.getLsbD 1, count := f.count
    localOpen := f.status.getLsbD 2, localClose := f.status.getLsbD 3, supplyLow := f.status.getLsbD 4
    sounderFault := f.status.getLsbD 5 }

/-- R147, R149, R152: the frame is for this exchange, which ended without a result: it carries its drop and sequence
under a good CRC (assumption 16). -/
def StationFrame.isFor (f : StationFrame) (x : DropId × Nat) : Bool :=
  f.crcGood && f.drop = number x.1 && f.sequence = x.2

/-- R147, R149, R152: the frame is for an exchange that ended without a result. -/
def StationFrame.answersBroken (f : StationFrame) (b : Branch) : Bool := b.broken.any f.isFor

/-- R147, R149, R152: the frame is discarded, and the exchange it is for has had its frame. -/
def State.discardBroken (s : State) (b : BranchId) (f : StationFrame) : State :=
  s.modBranch b fun y => { y with broken := y.broken.filter fun x => !f.isFor x }

/-- R143, R144, R151: a complete frame is judged against the exchange in flight. -/
def State.frameJudged (s : State) (b : BranchId) (x : Exchange) (f : StationFrame) : State :=
  let t := s.clearExchange b
  (if f.goodFor x then
    match x.kind with
    | .regular => t.goodRegular b x.drop f.reply
    | _ => t.goodDirect b x.drop f.data
  else t.exchangeMissed b x).exchangeEnded b

/-- R143, R147, R189: a complete frame is taken: the good reply to the exchange in flight first, then a frame for an
exchange that ended without a result, which is discarded; any other frame ends the exchange in flight as a miss, and
between exchanges it counts for nothing. -/
def State.takeFrame (s : State) (b : BranchId) (f : StationFrame) : State :=
  match (s.branch b).exchange with
  | some x =>
    if !f.goodFor x && f.answersBroken (s.branch b) then s.discardBroken b f else s.frameJudged b x f
  | none => s.discardBroken b f

/-- R143, R189: a complete frame received on a branch; bytes that are no complete frame change the receiver alone. -/
def State.stationFrame (s : State) (b : BranchId) (l : List Byte) : State :=
  let t := s.modBranch b fun x => { x with collecting := false }
  match readStationFrame l with
  | some f => t.takeFrame b f
  | none => t

end Sys2Proof.Machine
end

