-- ==== Sys2Proof/Machine/Frames.lean ====
section
/-! DEFINITION. Request frames: the items of section 12.3 read from bytes (R158, R188), the same items written as bytes,
and the judging of a frame's header and CRC (R155, R187). -/

namespace Sys2Proof.Machine

/-! ### Reading -/

/-- Section 12.3: a target form and its value; the value beside NONE, ALL or DEVICE is dropped, in a SET too (assumption
35). -/
def readTarget (form value : Nat) : Target :=
  match form with
  | 0 => .none
  | 1 => .door value
  | 2 => .zone value
  | 3 => .all
  | 4 => .unit value
  | 5 => .branch value
  | 6 => .port value
  | 7 => .holder value
  | 8 => .zoneSet (BitVec.ofNat 16 value)
  | 9 => .device
  | f => .other f value

/-- Section 12.3, R190: the FETCH object codes. -/
def readObject : Nat → Option FetchObject
  | 1 => some .doorRecord
  | 2 => some .doorSettings
  | 3 => some .doorPending
  | 4 => some .zoneSummary
  | 5 => some .unit
  | 6 => some .holds
  | 7 => some .clock
  | 8 => some .portStatus
  | 9 => some .identity
  | _ => none

/-- Section 12.3: an order code with its six parameter bytes. -/
def readOrder (code : Nat) (param : List Byte) : Option OrderOp :=
  let first := natOf (param.take 1)
  let day := natOf (param.take 2)
  let ms := natOf ((param.drop 2).take 4)
  match code with
  | 1 => some .close
  | 2 => some .openDoor
  | 3 => some .stop
  | 4 => some (.service first)
  | 5 => some .holdZones
  | 6 => some .releaseZones
  | 7 => some .releaseForeign
  | 8 => some .resetFaults
  | 9 => some (.settingsHold first)
  | 10 => some .signalTest
  | 11 => some .resetUnit
  | 12 => some .ack
  | 13 => some .ackPort
  | 14 => some .ackUnit
  | 15 => some (.clockLoad day ms)
  | 16 => some (.clockAdjust (intOf (param.take 4)))
  | 17 => some (.clockArm day ms)
  | 18 => some .clockDisarm
  | 19 => some .save
  | 20 => some .lock
  | 21 => some .restart
  | _ => none

/-- Section 12.3: the width of a setting's value; `none` for a text value, whose length is free (R188). -/
def settingWidth : Nat → Option Nat
  | 16 => some 4
  | 17 => none
  | 34 => none
  | 35 => some 3
  | _ => some 2

/-- Section 12.3: a setting code with the bytes of its value. -/
def readSetting (code : Nat) (value : List Byte) : Option SettingWrite :=
  let v := natOf value
  match code with
  | 1 => some (.op .leadInTime v)
  | 2 => some (.op .recloseDelay v)
  | 3 => some (.op .strokeLimit v)
  | 4 => some (.op .deadTime v)
  | 5 => some (.op .closedBand v)
  | 6 => some (.op .openBand v)
  | 7 => some (.op .stallWindow v)
  | 8 => some (.op .stallDelta v)
  | 9 => some (.op .confirmCount v)
  | 10 => some (.op .tailTime v)
  | 11 => some (.installed v)
  | 12 => some (.branch v)
  | 13 => some (.drop v)
  | 14 => some (.zone v)
  | 15 => some (.unit v)
  | 16 => some (.geometry (natOf (value.take 2)) (natOf (value.drop 2)))
  | 17 => some (.label value)
  | 18 => some (.slotLimit v)
  | 19 => some (.startTime v)
  | 20 => some (.holdoff v)
  | 21 => some (.ageTime v)
  | 22 => some (.urgentCount v)
  | 23 => some (.enable v)
  | 24 => some (.roundPeriod v)
  | 25 => some (.replyTimeout v)
  | 26 => some (.lostThreshold v)
  | 27 => some (.portRole v)
  | 28 => some (.silenceTime v)
  | 29 => some (.reportsEnabled v)
  | 30 => some (.reportSpacing v)
  | 31 => some (.refreshPeriod v)
  | 32 => some (.startClosed v)
  | 33 => some (.faultAlarmMask (BitVec.ofNat 16 v))
  | 34 => some (.vesselIdentity value)
  | 35 => some (.clockTrim (natOf (value.take 2)) (byteOf (natOf (value.drop 2))))
  | _ => none

/-- R188: a SET's value has the width that its setting takes. -/
def widthSuits (code len : Nat) : Bool :=
  match settingWidth code with
  | some w => len = w
  | none => true

/-- R158, R188: the item at the front of the bytes and the bytes behind it. An item that cannot be decoded takes
everything behind it with it, since execution ends there. -/
def readItem : List Byte → Item × List Byte
  | [] => (.undecodable 0, [])
  | code :: l =>
    let bad := (Item.undecodable code, [])
    match code.toNat with
    | 1 =>
      match l with
      | o :: a :: rest =>
        match readObject o.toNat with
        | some ob => (.fetch ob a.toNat, rest)
        | none => bad
      | _ => bad
    | 2 =>
      match l with
      | o :: form :: v1 :: v0 :: rest =>
        if rest.length < 6 then bad
        else
          match readOrder o.toNat (rest.take 6) with
          | some op => (.order op (readTarget form.toNat (natOf [v1, v0])), rest.drop 6)
          | none => bad
      | _ => bad
    | 3 =>
      match l with
      | k :: form :: v1 :: v0 :: len :: rest =>
        if rest.length < len.toNat then bad
        else
          match readSetting k.toNat (rest.take len.toNat) with
          | some w =>
            if widthSuits k.toNat len.toNat then
              (.set w (readTarget form.toNat (natOf [v1, v0])), rest.drop len.toNat)
            else bad
          | none => bad
      | _ => bad
    | 4 =>
      match l with
      | a :: b :: c :: d :: rest => (.marker (BitVec.ofNat 32 (natOf [a, b, c, d])), rest)
      | _ => bad
    | 5 =>
      match l with
      | a :: b :: rest => (.delay (natOf [a, b]), rest)
      | _ => bad
    | 6 =>
      match l with
      | b :: d :: k :: rest => (.direct b.toNat d.toNat k.toNat, rest)
      | _ => bad
    | _ => bad

/-- R157, R158: the items of a request in frame order; `room` more items may stand before the first that R158 makes
malformed for its place, and reading ends at an item that cannot be decoded. `n` bounds the number of items read. -/
def readItems : Nat → Nat → List Byte → List Item
  | 0, _, _ => []
  | _ + 1, _, [] => []
  | _ + 1, 0, code :: _ => [.undecodable code]
  | n + 1, room + 1, l =>
    match readItem l with
    | (.undecodable c, _) => [.undecodable c]
    | (it, rest) => it :: readItems n room rest

/-- R155, R157: a good request. -/
structure GoodRequest where
  token : Nat
  items : List Item
  deriving DecidableEq, Repr

/-- R155, R187: the bytes of a complete request frame judged for its CRC, version, kind and port. -/
def readRequest (p : PortId) (l : List Byte) : Option GoodRequest :=
  match l with
  | start :: len1 :: len0 :: rest =>
    let len := natOf [len1, len0]
    let body := rest.take len
    if start = Config.consoleStart && rest.length = len + 2 && len ≤ Config.maxRequestLength
        && Config.minRequestLength ≤ len && rest.drop len = crcBytes ([len1, len0] ++ body) then
      match body with
      | version :: kind :: port :: t1 :: t0 :: items =>
        if version = Config.version && kind = 1 && port.toNat = p.val then
          some { token := natOf [t1, t0], items := readItems items.length Config.maxItems items }
        else none
      | _ => none
    else none
  | _ => none

/-! ### Writing (the same encodings, for statements about reading) -/

def Target.form : Target → Nat
  | .none => 0
  | .door _ => 1
  | .zone _ => 2
  | .all => 3
  | .unit _ => 4
  | .branch _ => 5
  | .port _ => 6
  | .holder _ => 7
  | .zoneSet _ => 8
  | .device => 9
  | .other f _ => f

def Target.value : Target → Nat
  | .none => 0
  | .door n => n
  | .zone n => n
  | .all => 0
  | .unit n => n
  | .branch n => n
  | .port n => n
  | .holder n => n
  | .zoneSet m => m.toNat
  | .device => 0
  | .other _ v => v

def Target.bytes (t : Target) : List Byte := byteOf (Target.form t) :: bytesOf 2 (Target.value t)

def FetchObject.code : FetchObject → Nat
  | .doorRecord => 1
  | .doorSettings => 2
  | .doorPending => 3
  | .zoneSummary => 4
  | .unit => 5
  | .holds => 6
  | .clock => 7
  | .portStatus => 8
  | .identity => 9

def OrderOp.code : OrderOp → Nat
  | .close => 1
  | .openDoor => 2
  | .stop => 3
  | .service _ => 4
  | .holdZones => 5
  | .releaseZones => 6
  | .releaseForeign => 7
  | .resetFaults => 8
  | .settingsHold _ => 9
  | .signalTest => 10
  | .resetUnit => 11
  | .ack => 12
  | .ackPort => 13
  | .ackUnit => 14
  | .clockLoad _ _ => 15
  | .clockAdjust _ => 16
  | .clockArm _ _ => 17
  | .clockDisarm => 18
  | .save => 19
  | .lock => 20
  | .restart => 21

/-- Section 12.3: the six parameter bytes of an order, unused ones zero. -/
def OrderOp.param : OrderOp → List Byte
  | .service v => byteOf v :: List.replicate 5 0
  | .settingsHold v => byteOf v :: List.replicate 5 0
  | .clockLoad day ms => bytesOf 2 day ++ bytesOf 4 ms
  | .clockArm day ms => bytesOf 2 day ++ bytesOf 4 ms
  | .clockAdjust delta => signedBytes 4 delta ++ List.replicate 2 0
  | _ => List.replicate 6 0

def OpSetting.code : OpSetting → Nat
  | .leadInTime => 1
  | .recloseDelay => 2
  | .strokeLimit => 3
  | .deadTime => 4
  | .closedBand => 5
  | .openBand => 6
  | .stallWindow => 7
  | .stallDelta => 8
  | .confirmCount => 9
  | .tailTime => 10

/-- Section 12.3: a setting's code and the bytes of its value. -/
def SettingWrite.encoded : SettingWrite → Nat × List Byte
  | .op k v => (OpSetting.code k, bytesOf 2 v)
  | .installed v => (11, bytesOf 2 v)
  | .branch v => (12, bytesOf 2 v)
  | .drop v => (13, bytesOf 2 v)
  | .zone v => (14, bytesOf 2 v)
  | .unit v => (15, bytesOf 2 v)
  | .geometry c o => (16, bytesOf 2 c ++ bytesOf 2 o)
  | .label text => (17, text)
  | .slotLimit v => (18, bytesOf 2 v)
  | .startTime v => (19, bytesOf 2 v)
  | .holdoff v => (20, bytesOf 2 v)
  | .ageTime v => (21, bytesOf 2 v)
  | .urgentCount v => (22, bytesOf 2 v)
  | .enable v => (23, bytesOf 2 v)
  | .roundPeriod v => (24, bytesOf 2 v)
  | .replyTimeout v => (25, bytesOf 2 v)
  | .lostThreshold v => (26, bytesOf 2 v)
  | .portRole v => (27, bytesOf 2 v)
  | .silenceTime v => (28, bytesOf 2 v)
  | .reportsEnabled v => (29, bytesOf 2 v)
  | .reportSpacing v => (30, bytesOf 2 v)
  | .refreshPeriod v => (31, bytesOf 2 v)
  | .startClosed v => (32, bytesOf 2 v)
  | .faultAlarmMask m => (33, bytesOf 2 m.toNat)
  | .vesselIdentity text => (34, text)
  | .clockTrim i d => (35, bytesOf 2 i ++ [d])

/-- Section 12.3: the bytes of an item. -/
def itemBytes : Item → List Byte
  | .fetch o a => [1, byteOf (FetchObject.code o), byteOf a]
  | .order o t => [2, byteOf (OrderOp.code o)] ++ Target.bytes t ++ OrderOp.param o
  | .set w t =>
    [3, byteOf (SettingWrite.encoded w).1] ++ Target.bytes t ++
      byteOf (SettingWrite.encoded w).2.length :: (SettingWrite.encoded w).2
  | .marker w => 4 :: bytesOf 4 w.toNat
  | .delay ms => 5 :: bytesOf 2 ms
  | .direct b d k => [6, byteOf b, byteOf d, byteOf k]
  | .undecodable c => [c]

/-- R187, section 12.2: a request frame of a port, with a token and items. -/
def requestFrame (p : PortId) (token : Nat) (items : List Item) : List Byte :=
  consoleFrameBytes ([Config.version, 1, byteOf p.val] ++ bytesOf 2 token ++ (items.map itemBytes).flatten)

end Sys2Proof.Machine
end

