-- ==== Sys2Proof/Machine/Fetching.lean ====
section
/-! DEFINITION. The FETCH objects (R26, R79, R117, R160, R175, R179) as the bytes of their entries (R190), and the size
of each entry (R159, R188). -/

namespace Sys2Proof.Machine

/-- The remaining time of a timer in ms, all ones when it is stopped (R190). -/
def remainingBytes (now : Nat) (timer : Option Nat) : List Byte := optBytes 4 (timer.map fun e => e - now)

/-- R190: the last raw position, signed, 0x8000 when absent. -/
def rawBytes : Option Int → List Byte
  | some v => signedBytes 2 v
  | none => [0x80, 0x00]

/-- R186: a fault set in 16 bits, bits 12 to 15 zero. -/
def faultBytes (f : FaultSet) : List Byte := bytesOf 2 f.toNat

/-- R186: a zone set in 16 bits. -/
def maskBytes (m : ZoneSet) : List Byte := bytesOf 2 m.toNat

/-- R190: the label field: the characters, and behind them bytes that the manual leaves open. -/
def labelBytes (n : Nat) (label : List Byte) : List Byte :=
  (label ++ (List.range 8).map fun k => Config.openByte (.labelPad k) n).take 8

/-- R190: the port of a cause CONSOLE; the manual leaves the byte open for every other cause. -/
def Cause.portByte (n : Nat) : Cause → Byte
  | .console p => byteOf p.val
  | _ => Config.openByte .absentPort n

/-- R190, bytes 36 to 65 of the DOOR record: the stroke record, all zero when absent. -/
def strokeBytes (n : Nat) : Option Stroke → List Byte
  | none => List.replicate 30 0
  | some r =>
    [1, byteOf r.direction.code, byteOf r.cause.code, r.cause.portByte n, byteOf r.cls]
      ++ optBytes 8 r.driveIssued ++ optBytes 2 r.startPosition
      ++ optBytes 2 (r.mark.map fun m => m.position) ++ optBytes 8 (r.mark.map fun m => m.instant)
      ++ optBytes 4 r.estimate ++ flag r.lateForecast

/-- R190: the inputs byte of the DOOR record. -/
def Door.inputsByte (d : Door) : Byte :=
  byteOf (bit d.closedSwitch 0 + bit d.openSwitch 1 + bit d.localOpen 2 + bit d.localClose 3
    + bit (d.phase = .settled) 4)

/-- R190, bytes 4 to 21: the installation part. -/
def Door.installationBytes (n : Nat) (d : Door) : List Byte :=
  flag d.installed ++ [byteOf (number d.branch), byteOf (number d.drop), byteOf (number d.zone), byteOf (number d.unit)]
    ++ bytesOf 2 d.closedCount ++ bytesOf 2 d.openCount ++ byteOf d.label.length :: labelBytes n d.label

/-- R190, bytes 22 to 35: flags, state, indication, inputs, position, counts and fault sets. -/
def Door.statusBytes (d : Door) : List Byte :=
  flag d.inService ++ [byteOf d.state.code, byteOf d.indication.code, d.inputsByte]
    ++ optBytes 2 d.position ++ optBytes 2 d.lastCount ++ rawBytes d.lastRaw
    ++ faultBytes d.faults ++ faultBytes d.unacked

/-- R190, bytes 66 to 97: drive history, reclose time, statistics and last order source. -/
def Door.historyBytes (n now : Nat) (d : Door) : List Byte :=
  byteOf (Drive.code d.lastDriven) :: optBytes 8 d.driveOff ++ remainingBytes now d.reclose
    ++ optBytes 4 d.lastStrokeTime ++ bytesOf 2 d.strokeCount ++ stampBytes n 0 d.lastClosed ++ stampBytes n 2 d.lastFault
    ++ [byteOf ((d.lastSource.map Source.code).getD 0)]

/-- R190: the content of a DOOR record. -/
def Door.recordBytes (n now : Nat) (d : Door) : List Byte :=
  d.installationBytes n ++ d.statusBytes ++ strokeBytes n d.stroke ++ d.historyBytes n now ++ List.replicate 102 0

/-- The ten values of an operational row, in the order of R11. -/
def OpRow.values {α : Type} (r : OpRow α) : List α := OpSetting.all.map fun k => r.get k

/-- R190: the content of DOOR settings. -/
def Door.settingsBytes (d : Door) : List Byte := (d.settings.values.map (bytesOf 2)).flatten

/-- R190: the presence mask of DOOR pending; bit 0 is the first setting of R11. -/
def presenceMask : List (Option Nat) → Nat
  | [] => 0
  | v :: rest => (if v.isSome then 1 else 0) + 2 * presenceMask rest

/-- R190: the content of DOOR pending. -/
def Door.pendingBytes (d : Door) (hold : Bool) : List Byte :=
  bytesOf 2 (presenceMask d.pending.values) ++ (d.pending.values.map fun v => bytesOf 2 (v.getD 0)).flatten ++ flag hold

/-- The installed doors of a zone, ascending. -/
def State.doorsOfZone (s : State) (z : ZoneId) : List DoorId := s.doorsWhere fun d => d.zone = z

/-- R190: the holders whose sets contain a zone: bits 0 to 4 for CP0, CP1, CP2, LINE, START. -/
def Holds.holdersByte (h : Holds) (z : ZoneId) : Byte :=
  byteOf (bit (zoneIn h.console[0] z) 0 + bit (zoneIn h.console[1] z) 1 + bit (zoneIn h.console[2] z) 2
    + bit (zoneIn h.line z) 3 + bit (zoneIn h.start z) 4)

/-- R160: a door's line of a ZONE summary. -/
def Door.summaryBytes (i : DoorId) (d : Door) : List Byte :=
  [byteOf (number i), byteOf d.state.code, byteOf d.indication.code, byteOf (bit d.inService 0 + bit d.eventFaulted 1)]

/-- R160: the content of a ZONE summary. -/
def State.zoneBytes (s : State) (z : ZoneId) : List Byte :=
  [s.holds.holdersByte z, byteOf (s.doorsOfZone z).length]
    ++ ((s.doorsOfZone z).map fun i => (s.door i).summaryBytes i).flatten

/-- R190: an entry of an admission list; the port bits are open unless the cause is CONSOLE. -/
def Entry.bytes (n : Nat) (e : Entry) : List Byte :=
  let port := match e.cause with
    | .console p => p.val
    | _ => (Config.openPortBits n).toNat
  [byteOf (number e.door), byteOf (e.cls + bit (e.direction = .opening) 7), byteOf (e.cause.code + 16 * port)]
    ++ bytesOf 8 e.arrival

/-- The entries of an admission list, each with a count of its own for its open bits. -/
def entriesBytes (n : Nat) : List Entry → List Byte
  | [] => []
  | e :: rest => e.bytes n ++ entriesBytes (n + 1) rest

/-- R190: up to eight slot holders, unused bytes zero. -/
def holderBytes (l : List DoorId) : List Byte := padData (l.map fun i => byteOf (number i))

/-- R117: the content of UNIT. -/
def State.unitBytes (s : State) (n : Nat) (u : UnitId) : List Byte :=
  let x := s.unit u
  [byteOf x.state.code, byteOf x.slotLimit] ++ bytesOf 2 x.startTime ++ bytesOf 2 x.holdoff ++ bytesOf 2 x.ageTime
    ++ [byteOf x.urgentCount] ++ remainingBytes s.runCount x.timer
    ++ byteOf x.holders.length :: holderBytes x.holders
    ++ [byteOf (bit x.pressLow.value 0 + bit s.cutoff.value 1 + bit x.attention 2), byteOf x.list.length]
    ++ entriesBytes n x.list

/-- R79: the five zone sets and the union, as HOLDS carries them. -/
def Holds.bytes (h : Holds) : List Byte :=
  maskBytes h.console[0] ++ maskBytes h.console[1] ++ maskBytes h.console[2] ++ maskBytes h.line ++ maskBytes h.start
    ++ maskBytes h.union

/-- R190: the trim direction, 0x01 for +1 and 0xFF for −1. -/
def Clock.directionByte (c : Clock) : Byte := if c.trimForward then 0x01 else 0xFF

/-- R175: the content of CLOCK. -/
def Clock.bytes (c : Clock) (n now : Nat) : List Byte :=
  c.time.bytes ++ bytesOf 2 c.trimInterval ++ [c.directionByte] ++ remainingBytes now c.trimTimer
    ++ stampBytes n 4 c.capture ++ stampBytes n 6 c.armed

/-- R190: the token of the request in execution; open when there is none. -/
def Port.tokenBytes (q : Port) (n : Nat) : List Byte :=
  match q.request with
  | some r => bytesOf 2 r.token
  | none => [Config.openByte (.absentToken 0) n, Config.openByte (.absentToken 1) n]

/-- R160: the content of PORT status. -/
def Port.statusBytes (q : Port) (n now : Nat) : List Byte :=
  [byteOf q.role.code, byteOf q.silenceTime, byteOf (bit (!q.active) 0)] ++ remainingBytes now q.silenceTimer
    ++ flag q.request.isSome ++ q.tokenBytes n ++ flag q.reportsEnabled ++ [byteOf q.reportSequence]
    ++ flag q.attention ++ [byteOf q.changed.length]

/-- R179: the content of IDENTITY. -/
def Store.identityBytes (t : Store) : List Byte :=
  (t.identity ++ List.replicate 16 0).take 16
    ++ [byteOf (bit t.lockOpen 0 + bit t.imageFault 1 + bit t.saving.isSome 2)]

/-- The content of a FETCH object as it stands (R160); empty for an argument that no item can carry here (R158). -/
def State.objectBytes (s : State) (o : FetchObject) (a : Nat) : List Byte :=
  let n := s.freeCount
  match o with
  | .doorRecord => ((numbered 48 a).map fun i => (s.door i).recordBytes n s.runCount).getD []
  | .doorSettings => ((numbered 48 a).map fun i => (s.door i).settingsBytes).getD []
  | .doorPending => ((numbered 48 a).map fun i => (s.door i).pendingBytes s.settingsHold).getD []
  | .zoneSummary => ((numbered 16 a).map fun z => s.zoneBytes z).getD []
  | .unit => ((numbered 4 a).map fun u => s.unitBytes n u).getD []
  | .holds => s.holds.bytes
  | .clock => s.clock.bytes n s.runCount
  | .portStatus => ((indexed 3 a).map fun q => (s.port q).statusBytes n s.runCount).getD []
  | .identity => s.store.identityBytes

/-- R190: the entry of a FETCH item. -/
def State.fetchEntry (s : State) (o : FetchObject) (a : Nat) : List Byte :=
  [1, byteOf Result.ok.code, byteOf (FetchObject.code o), byteOf a] ++ s.objectBytes o a

/-- R190, R188: the size of a FETCH entry, fixed by its object, or computed from it as it stands. -/
def State.fetchSize (s : State) (o : FetchObject) (a : Nat) : Nat :=
  match o with
  | .doorRecord => 200
  | .doorSettings => 24
  | .doorPending => 27
  | .zoneSummary => ((numbered 16 a).map fun z => 6 + 4 * (s.doorsOfZone z).length).getD 4
  | .unit => ((numbered 4 a).map fun u => 28 + 11 * (s.unit u).list.length).getD 4
  | .holds => 16
  | .clock => 29
  | .portStatus => 18
  | .identity => 21

end Sys2Proof.Machine
end

