-- ==== Sys2Proof/Machine/Settings.lean ====
section
/-! DEFINITION. The owners' answers to SET (R161): operational settings (R12 to R17), installation settings (R5 to R10),
unit and branch settings (R116, R138), port settings (R161, R169), device settings (R183) and the clock trim (R175). -/

namespace Sys2Proof.Machine

/-! ### Operational settings -/

/-- R15: the door is at rest and the settings hold is off. -/
def State.appliesNow (s : State) (i : DoorId) : Bool := (s.door i).state.isRest && !s.settingsHold

/-- R13, R15: a value is staged in a door's pending record, and applied at once where R15 says so. -/
def State.stage (k : OpSetting) (v : Nat) (i : DoorId) (s : State) : State :=
  let t := s.modDoor i fun d => { d with pending := d.pending.set k (some v) }
  if t.appliesNow i then t.applyPending i else t

/-- R12: the value staged is the value carried, clamped to the setting's range. -/
def OpSetting.clamped (k : OpSetting) (v : Nat) : Nat := clamp (OpSetting.low k) (OpSetting.high k) v

/-- R12: CLAMPED where the value had to be moved. -/
def OpSetting.result (k : OpSetting) (v : Nat) : Result := if OpSetting.clamped k v = v then .ok else .clamped

/-- R17: a SET to a zone: OK, with nothing staged, where the zone has no installed door. -/
def State.stageZone (s : State) (k : OpSetting) (v : Nat) (z : ZoneId) : Answer :=
  if (s.doorsOfZone z).isEmpty then s.answer .ok
  else (s.forDoors (s.doorsOfZone z) (State.stage k (OpSetting.clamped k v))).answer (OpSetting.result k v)

/-- R12, R17: SET of an operational setting. With no door installed at all, ALL stages nothing and is answered as R12
gives: R17 says OK of a zone alone (assumption 28). -/
def State.setOp (s : State) (p : PortId) (k : OpSetting) (v : Nat) (t : Target) : Answer :=
  s.asCommand p <|
    match t with
    | .door n => s.doorOrder n fun i s => (s.stage k (OpSetting.clamped k v) i, OpSetting.result k v)
    | .zone n =>
      match numbered 16 n with
      | some z => s.stageZone k v z
      | none => s.answer .range
    | .all => (s.forDoors (s.doorsWhere fun _ => true) (State.stage k (OpSetting.clamped k v))).answer (OpSetting.result k v)
    | _ => s.answer .range

/-! ### Installation settings -/

/-- R5: an installation SET: role, lock, target, value (`legal`), door state (R7, unless `anyState`), and then the write,
which changes nothing for a value equal to the present one (`same`). -/
def State.setInstallation (s : State) (p : PortId) (t : Target) (legal same : DoorId → Bool) (anyState : Bool)
    (write : DoorId → State → State) : Answer :=
  s.asCommand p <| s.asUnlocked <|
    match t with
    | .door n =>
      match numbered 48 n with
      | none => s.answer .badItem
      | some i =>
        if !legal i then s.answer .range
        else if !anyState && (s.door i).installed && !(s.door i).state.isRest then s.answer .refusedState
        else if same i then s.answer .ok
        else (write i s).answer .ok
    | _ => s.answer .range

/-- R6: an installed door other than `i` has the pair. -/
def State.pairTaken (s : State) (i : DoorId) (b : BranchId) (d : DropId) : Bool :=
  doorIds.any fun j => j ≠ i && (s.door j).installed && (s.door j).branch = b && (s.door j).drop = d

/-- R8, R10: BRANCH_OFF is raised for an installed door of a disabled branch. -/
def State.raiseBranchOff (s : State) (i : DoorId) : State :=
  if (s.door i).installed && !(s.branch (s.door i).branch).enable then s.raiseCondition i .branchOff else s

/-- R8: a door becomes an installed door. -/
def State.install (i : DoorId) (s : State) : State :=
  let t := (s.modDoor i fun d => { d with installed := true }).claimPair (s.door i).branch (s.door i).drop
  ((t.raiseBranchOff i).unsettle i).updateNotControlled i

/-- R9, R29, R102: the record of a door that ceases to be installed. -/
def Door.removed (d : Door) : Door :=
  { d with
    installed := false, state := .unknown, indication := .unknown, position := none
    closedSwitch := false, openSwitch := false, localOpen := false, localClose := false
    closedSwitchCount := 0, openSwitchCount := 0, localOpenCount := 0, localCloseCount := 0
    phase := .awaiting, settlingCount := 0, disagreeCount := 0, lastCount := none, lastRaw := none
    faults := 0, unacked := 0, inService := true, pending := OpRow.noPending
    leadIn := none, tail := none, test := none }

/-- R171: a removed door is taken out of every refresh cycle. -/
def State.leaveCycles (s : State) (i : DoorId) : State :=
  s.mapPorts fun _ q => { q with refreshCycle := q.refreshCycle.map fun l => l.filter fun j => j ≠ i }

/-- R9: a door ceases to be an installed door. -/
def State.remove (i : DoorId) (s : State) : State :=
  ((s.modDoor i Door.removed).leaveCycles i).releasePair (s.door i).branch (s.door i).drop

/-- R5 to R9: SET of installed. -/
def State.setInstalled (s : State) (p : PortId) (t : Target) (v : Nat) : Answer :=
  s.setInstallation p t
    (fun i => v = 0 || (v = 1 && !s.pairTaken i (s.door i).branch (s.door i).drop))
    (fun i => (s.door i).installed == decide (v = 1)) false
    (if v = 1 then State.install else State.remove)

/-- R10, R149: an installed door has taken another pair, `b` and `d` being the old one. -/
def State.moved (s : State) (i : DoorId) (b : BranchId) (d : DropId) : State :=
  let t := s.claimPair (s.door i).branch (s.door i).drop
  let u := ((t.clearFault i .linkLost).clearFault i .branchOff).raiseBranchOff i
  (u.unsettle i).releasePair b d

/-- R10: a door's branch or drop is written. -/
def State.writePair (s : State) (i : DoorId) (f : Door → Door) : State :=
  let t := s.modDoor i f
  if (s.door i).installed then t.moved i (s.door i).branch (s.door i).drop else t

/-- R6: the pair that a SET would give a door is free, or the door is not installed. -/
def State.pairFree (s : State) (i : DoorId) (b : BranchId) (d : DropId) : Bool :=
  !(s.door i).installed || !s.pairTaken i b d

/-- R5 to R7, R10: SET of branch. -/
def State.setBranch (s : State) (p : PortId) (t : Target) (v : Nat) : Answer :=
  match numbered 4 v with
  | some b =>
    s.setInstallation p t (fun i => s.pairFree i b (s.door i).drop) (fun i => (s.door i).branch = b) false
      fun i s => s.writePair i fun d => { d with branch := b }
  | none => s.setInstallation p t (fun _ => false) (fun _ => false) false fun _ s => s

/-- R5 to R7, R10: SET of drop. -/
def State.setDrop (s : State) (p : PortId) (t : Target) (v : Nat) : Answer :=
  match numbered 12 v with
  | some e =>
    s.setInstallation p t (fun i => s.pairFree i (s.door i).branch e) (fun i => (s.door i).drop = e) false
      fun i s => s.writePair i fun d => { d with drop := e }
  | none => s.setInstallation p t (fun _ => false) (fun _ => false) false fun _ s => s

/-- R10: a door's zone is written: a held new zone is taken as though it had just become held for the door. -/
def State.writeZone (z : ZoneId) (i : DoorId) (s : State) : State :=
  let t := s.modDoor i fun d => { d with zone := z }
  if (s.door i).installed then (if t.doorHeld i then t.doorBecomesHeld i else t).updateNotControlled i else t

/-- R5 to R7, R10: SET of zone. -/
def State.setZone (s : State) (p : PortId) (t : Target) (v : Nat) : Answer :=
  match numbered 16 v with
  | some z => s.setInstallation p t (fun _ => true) (fun i => (s.door i).zone = z) false (State.writeZone z)
  | none => s.setInstallation p t (fun _ => false) (fun _ => false) false fun _ s => s

/-- R5 to R7, R10: SET of unit. -/
def State.setUnit (s : State) (p : PortId) (t : Target) (v : Nat) : Answer :=
  match numbered 4 v with
  | some u =>
    s.setInstallation p t (fun _ => true) (fun i => (s.door i).unit = u) false
      fun i s => s.modDoor i fun d => { d with unit := u }
  | none => s.setInstallation p t (fun _ => false) (fun _ => false) false fun _ s => s

/-- R6: a geometry: two counts of 0..4095 at least 200 apart. -/
def geometryLegal (c o : Nat) : Bool := c ≤ 4095 && o ≤ 4095 && (c + Config.minSpan ≤ o || o + Config.minSpan ≤ c)

/-- R10, R45: a door's geometry is written. -/
def State.writeGeometry (c o : Nat) (i : DoorId) (s : State) : State :=
  let t := s.modDoor i fun d => { d with closedCount := c, openCount := o }
  if (s.door i).installed then t.unsettle i else t

/-- R5 to R7, R10, R45: SET of geometry. -/
def State.setGeometry (s : State) (p : PortId) (t : Target) (c o : Nat) : Answer :=
  s.setInstallation p t (fun _ => geometryLegal c o)
    (fun i => (s.door i).closedCount = c && (s.door i).openCount = o) false (State.writeGeometry c o)

/-- R4 to R7: SET of label. -/
def State.setLabel (s : State) (p : PortId) (t : Target) (text : List Byte) : Answer :=
  s.setInstallation p t (fun _ => text.length ≤ 8 && text.all printable) (fun i => (s.door i).label = text) true
    fun i s => s.modDoor i fun d => { d with label := text }

/-! ### Unit and branch settings -/

/-- R116: a SET of a unit setting: role, lock, target, value, unit state, write. -/
def State.setUnitSetting (s : State) (p : PortId) (t : Target) (legal : Bool) (stoppedOnly : Bool)
    (write : PowerUnit → PowerUnit) : Answer :=
  s.asCommand p <| s.asUnlocked <|
    match t with
    | .unit n =>
      match numbered 4 n with
      | none => s.answer .range
      | some u =>
        if !legal then s.answer .range
        else if stoppedOnly && (s.unit u).state ≠ .stopped then s.answer .refusedState
        else (s.modUnit u write).answer .ok
    | _ => s.answer .range

def State.setSlotLimit (s : State) (p : PortId) (t : Target) (v : Nat) : Answer :=
  s.setUnitSetting p t (1 ≤ v && v ≤ 8) true fun x => { x with slotLimit := v }

def State.setStartTime (s : State) (p : PortId) (t : Target) (v : Nat) : Answer :=
  s.setUnitSetting p t (500 ≤ v && v ≤ 30000) false fun x => { x with startTime := v }

def State.setHoldoff (s : State) (p : PortId) (t : Target) (v : Nat) : Answer :=
  s.setUnitSetting p t (10 ≤ v && v ≤ 600) false fun x => { x with holdoff := v }

def State.setAgeTime (s : State) (p : PortId) (t : Target) (v : Nat) : Answer :=
  s.setUnitSetting p t (v ≤ 10000) false fun x => { x with ageTime := v }

def State.setUrgentCount (s : State) (p : PortId) (t : Target) (v : Nat) : Answer :=
  s.setUnitSetting p t (1 ≤ v && v ≤ 8) false fun x => { x with urgentCount := v }

/-- R138: a SET of a branch setting: role, lock, target, value, write. -/
def State.setBranchSetting (s : State) (p : PortId) (t : Target) (legal : Bool) (write : BranchId → State) : Answer :=
  s.asCommand p <| s.asUnlocked <|
    match t with
    | .branch n =>
      match numbered 4 n with
      | none => s.answer .range
      | some b => if legal then (write b).answer .ok else s.answer .range
    | _ => s.answer .range

/-- R138, R147, R148: SET of enable; the value it already holds changes nothing. -/
def State.setEnable (s : State) (p : PortId) (t : Target) (v : Nat) : Answer :=
  s.setBranchSetting p t (v ≤ 1) fun b =>
    match v, (s.branch b).enable with
    | 0, true => s.disableBranch b
    | 1, false => s.enableBranch b
    | _, _ => s

def State.setRoundPeriod (s : State) (p : PortId) (t : Target) (v : Nat) : Answer :=
  s.setBranchSetting p t (50 ≤ v && v ≤ 1000) fun b => s.modBranch b fun x => { x with roundPeriod := v }

def State.setReplyTimeout (s : State) (p : PortId) (t : Target) (v : Nat) : Answer :=
  s.setBranchSetting p t (5 ≤ v && v ≤ 50) fun b => s.modBranch b fun x => { x with replyTimeout := v }

def State.setLostThreshold (s : State) (p : PortId) (t : Target) (v : Nat) : Answer :=
  s.setBranchSetting p t (2 ≤ v && v ≤ 8) fun b => s.modBranch b fun x => { x with lostThreshold := v }

/-! ### Port settings -/

/-- Section 12.3: the role that a value carries. -/
def readRole : Nat → Option Role
  | 0 => some .command
  | 1 => some .monitor
  | _ => none

/-- R161, R83: SET of a port's role. A target of another form or out of range is answered RANGE after the lock: R161's
four checks give it no place of its own (assumption 32). -/
def State.setRole (s : State) (p : PortId) (t : Target) (v : Nat) : Answer :=
  s.asCommand p <| s.asUnlocked <|
    match t with
    | .port n =>
      match indexed 3 n, readRole v with
      | some q, some r =>
        if r = .monitor && s.holds.console[q] != 0 then s.answer .refusedState
        else (s.modPort q fun x => { x with role := r }).answer .ok
      | _, _ => s.answer .range
    | _ => s.answer .range

/-- R161, R169: a SET of one of the issuing port's own settings, whose value is clamped; the role is checked before the
target (assumption 20). -/
def State.setOwn (s : State) (p : PortId) (t : Target) (low high v : Nat) (write : Nat → Port → Port) : Answer :=
  s.asCommand p <|
    match t with
    | .port n =>
      if n = p.val then
        (s.modPort p (write (clamp low high v))).answer (if clamp low high v = v then .ok else .clamped)
      else s.answer .range
    | _ => s.answer .range

def State.setSilenceTime (s : State) (p : PortId) (t : Target) (v : Nat) : Answer :=
  s.setOwn p t 2 60 v fun v q => { q with silenceTime := v }

/-- R170: a report is due on a port. -/
def Port.reportDue (q : Port) : Bool :=
  q.reportsEnabled && (!q.changed.isEmpty || q.summaryChanged || q.refreshCycle.isSome)

/-- R169, R170: the spacing that governs the port's next report. -/
def Port.governingSpacing (q : Port) : Nat := q.dueSpacing.getD q.reportSpacing

/-- R169: a new spacing is written; a report that is due already keeps the spacing it fell due under (assumption
27). -/
def Port.withSpacing (v : Nat) (q : Port) : Port :=
  { q with reportSpacing := v, dueSpacing := if q.reportDue then some q.governingSpacing else none }

def State.setReportSpacing (s : State) (p : PortId) (t : Target) (v : Nat) : Answer :=
  s.setOwn p t 100 2000 v Port.withSpacing

def State.setRefreshPeriod (s : State) (p : PortId) (t : Target) (v : Nat) : Answer :=
  s.setOwn p t 1 60 v fun v q => { q with refreshPeriod := v }

/-- The installed doors, ascending. -/
def State.installedDoors (s : State) : List DoorId := s.doorsWhere fun _ => true

/-- R169: reports are enabled on a port. The changed-door set becomes the installed doors (DESIGN CHOICE, assumption 39:
a removed door still waiting in it is dropped unreported). -/
def State.enableReports (s : State) (p : PortId) : State :=
  s.modPort p fun q =>
    { q with
      reportsEnabled := true, changed := s.installedDoors, lastReported := Vector.replicate 48 none
      summaryChanged := true, refreshStart := some s.runCount }

/-- R169: reports are disabled on a port. -/
def State.disableReports (s : State) (p : PortId) : State :=
  s.modPort p fun q => { q with reportsEnabled := false, dueSpacing := none, refreshCycle := none, refreshStart := none }

/-- R161, R169: SET of reports enabled, from a port of either role; a value that is neither yes nor no is answered RANGE
(assumption 11). -/
def State.setReportsEnabled (s : State) (p : PortId) (t : Target) (v : Nat) : Answer :=
  match t with
  | .port n =>
    if n = p.val then
      match v, (s.port p).reportsEnabled with
      | 0, true => (s.disableReports p).answer .ok
      | 1, false => (s.enableReports p).answer .ok
      | 0, false => s.answer .ok
      | 1, true => s.answer .ok
      | _, _ => s.answer .range
    else s.answer .range
  | _ => s.answer .range

/-! ### Device settings -/

/-- R183: SET of start closed. -/
def State.setStartClosed (s : State) (p : PortId) (t : Target) (v : Nat) : Answer :=
  s.asCommand p <| s.asUnlocked <|
    match t with
    | .device =>
      if v ≤ 1 then { s with store := { s.store with startClosed := v = 1 } }.answer .ok else s.answer .range
    | _ => s.answer .range

/-- R183: SET of the fault alarm mask; bits 12 to 15 name no fault kind. -/
def State.setAlarmMask (s : State) (p : PortId) (t : Target) (m : BitVec 16) : Answer :=
  s.asCommand p <| s.asUnlocked <|
    match t with
    | .device =>
      if m &&& 0xF000#16 = 0 then { s with store := { s.store with alarmMask := m.setWidth 12 } }.answer .ok
      else s.answer .range
    | _ => s.answer .range

/-- R183: SET of the vessel identity, which can be written once. -/
def State.setIdentity (s : State) (p : PortId) (t : Target) (text : List Byte) : Answer :=
  s.asCommand p <|
    if s.store.identity ≠ [] then s.answer .locked
    else
      match t with
      | .device =>
        if 1 ≤ text.length && text.length ≤ 16 && text.all printable then
          { s with store := { s.store with identity := text } }.answer .ok
        else s.answer .range
      | _ => s.answer .range

/-- Section 12.3: the trim direction that a byte carries. -/
def readDirection (d : Byte) : Option Bool := if d = 0x01 then some true else if d = 0xFF then some false else none

/-- R175: SET of the clock trim. -/
def State.setTrim (s : State) (p : PortId) (t : Target) (interval : Nat) (direction : Byte) : Answer :=
  s.asCommand p <|
    match t with
    | .device =>
      match readDirection direction with
      | some forward =>
        if interval ≤ 3600 then
          { s with clock := { s.clock with
              trimInterval := interval, trimForward := forward
              trimTimer := if interval = 0 then none else some (s.runCount + interval * 1000) } }.answer .ok
        else s.answer .range
      | none => s.answer .range
    | _ => s.answer .range

/-- R161: a SET goes to the owner of its setting. -/
def State.setting (s : State) (p : PortId) (t : Target) : SettingWrite → Answer
  | .op k v => s.setOp p k v t
  | .installed v => s.setInstalled p t v
  | .branch v => s.setBranch p t v
  | .drop v => s.setDrop p t v
  | .zone v => s.setZone p t v
  | .unit v => s.setUnit p t v
  | .geometry c o => s.setGeometry p t c o
  | .label text => s.setLabel p t text
  | .slotLimit v => s.setSlotLimit p t v
  | .startTime v => s.setStartTime p t v
  | .holdoff v => s.setHoldoff p t v
  | .ageTime v => s.setAgeTime p t v
  | .urgentCount v => s.setUrgentCount p t v
  | .enable v => s.setEnable p t v
  | .roundPeriod v => s.setRoundPeriod p t v
  | .replyTimeout v => s.setReplyTimeout p t v
  | .lostThreshold v => s.setLostThreshold p t v
  | .portRole v => s.setRole p t v
  | .silenceTime v => s.setSilenceTime p t v
  | .reportsEnabled v => s.setReportsEnabled p t v
  | .reportSpacing v => s.setReportSpacing p t v
  | .refreshPeriod v => s.setRefreshPeriod p t v
  | .startClosed v => s.setStartClosed p t v
  | .faultAlarmMask m => s.setAlarmMask p t m
  | .vesselIdentity text => s.setIdentity p t text
  | .clockTrim i d => s.setTrim p t i d

end Sys2Proof.Machine
end

