-- ==== Sys2Proof/Machine/Attention.lean ====
section
/-! DEFINITION. The orders on faults, attentions and signals: RESET_FAULTS (R76), ACK, ACK_PORT and ACK_UNIT (R172),
SIGNAL_TEST (R111), and SETTINGS_HOLD (R16). -/

namespace Sys2Proof.Machine

/-- R76, step 1: the event faults leave both sets. -/
def Door.withoutEventFaults (d : Door) : Door :=
  { d with faults := d.faults &&& ~~~eventFaults, unacked := d.unacked &&& ~~~eventFaults }

/-- R76: RESET_FAULTS, per door. -/
def State.resetDoor (i : DoorId) (s : State) : State × Result :=
  ((s.modDoor i Door.withoutEventFaults).closureDemand i, .ok)

/-- R76: ORDER RESET_FAULTS. -/
def State.orderResetFaults (s : State) (p : PortId) (t : Target) : Answer := s.asCommand p (s.doorOrZone t State.resetDoor)

/-- R21, R172: ACK, per door. -/
def State.ackDoor (i : DoorId) (s : State) : State × Result := (s.modDoor i fun d => { d with unacked := 0 }, .ok)

/-- R172: ORDER ACK; ALL is answered with a count of 0. -/
def State.orderAck (s : State) (p : PortId) (t : Target) : Answer :=
  s.asCommand p <|
    match t with
    | .all => (s.forDoors s.installedDoors fun i s => (s.ackDoor i).1).answer .ok
    | t => s.doorOrZone t State.ackDoor

/-- R172: ORDER ACK_PORT. -/
def State.orderAckPort (s : State) (p : PortId) (t : Target) : Answer :=
  s.asCommand p <|
    match t with
    | .port n =>
      match indexed 3 n with
      | some q => (s.modPort q fun x => { x with attention := false }).answer .ok
      | none => s.answer .range
    | _ => s.answer .range

/-- R172: ORDER ACK_UNIT. -/
def State.orderAckUnit (s : State) (p : PortId) (t : Target) : Answer :=
  s.asCommand p <|
    match t with
    | .unit n =>
      match numbered 4 n with
      | some u => (s.modUnit u fun x => { x with attention := false }).answer .ok
      | none => s.answer .range
    | _ => s.answer .range

/-- R111: SIGNAL_TEST, per door. -/
def State.testDoor (i : DoorId) (s : State) : State × Result :=
  if (s.door i).state.isRest then
    (s.modDoor i fun d => { d with test := some (s.runCount + Config.signalTestMs) }, .ok)
  else (s, .refusedState)

/-- R111: ORDER SIGNAL_TEST. -/
def State.orderSignalTest (s : State) (p : PortId) (t : Target) : Answer := s.asCommand p (s.doorOnly t State.testDoor)

/-- R112: the signal test timer of a door expires. -/
def State.testExpired (s : State) (i : DoorId) : State :=
  if (s.door i).test.any (fun e => e ≤ s.runCount) then s.modDoor i fun d => { d with test := none } else s

/-- R108: the tail timer of a door expires. -/
def State.tailExpired (s : State) (i : DoorId) : State :=
  if (s.door i).tail.any (fun e => e ≤ s.runCount) then s.modDoor i fun d => { d with tail := none } else s

/-- R16: the settings hold is cleared, and the pending record of every installed door at rest is applied. -/
def State.releaseSettings (s : State) : State :=
  let t := { s with settingsHold := false }
  t.forDoors (t.doorsWhere fun d => d.state.isRest) fun i t => t.applyPending i

/-- R16: ORDER SETTINGS_HOLD; a parameter that is neither on nor off is answered RANGE (assumption 11). -/
def State.orderSettingsHold (s : State) (p : PortId) (value : Nat) : Answer :=
  s.asCommand p <|
    match value, s.settingsHold with
    | 0, true => s.releaseSettings.answer .ok
    | 0, false => s.answer .ok
    | 1, _ => { s with settingsHold := true }.answer .ok
    | _, _ => s.answer .range

end Sys2Proof.Machine
end

