-- ==== Sys2Proof/Machine/VesselClock.lean ====
section
/-! DEFINITION. The Vessel Clock (R175 to R177): its orders, its trim step and the sync pulse. -/

namespace Sys2Proof.Machine

/-- The Vessel Clock rewritten. -/
def State.modClock (s : State) (f : Clock → Clock) : State := { s with clock := f s.clock }

/-- R176: the day and the ms of day that a load or an armed load may carry. -/
def stampLegal (day ms : Nat) : Bool := day < Config.dayCount && ms < Config.dayMs

/-- R176: ORDER CLOCK_LOAD. -/
def State.orderClockLoad (s : State) (p : PortId) (day ms : Nat) : Answer :=
  s.asCommand p <|
    if stampLegal day ms then (s.modClock fun c => { c with time := { day := day, ms := ms } }).answer .ok
    else s.answer .range

/-- R176: ORDER CLOCK_ADJUST. -/
def State.orderClockAdjust (s : State) (p : PortId) (delta : Int) : Answer :=
  s.asCommand p <|
    if -(Config.dayMs : Int) ≤ delta && delta ≤ (Config.dayMs : Int) then
      (s.modClock fun c => { c with time := c.time.adjust delta }).answer .ok
    else s.answer .range

/-- R176: ORDER CLOCK_ARM. -/
def State.orderClockArm (s : State) (p : PortId) (day ms : Nat) : Answer :=
  s.asCommand p <|
    if stampLegal day ms then (s.modClock fun c => { c with armed := some { day := day, ms := ms } }).answer .ok
    else s.answer .range

/-- R176: ORDER CLOCK_DISARM. -/
def State.orderClockDisarm (s : State) (p : PortId) : Answer :=
  s.asCommand p ((s.modClock fun c => { c with armed := none }).answer .ok)

/-- R175: a trim step, at an expiry of the trim timer; the timer starts again, one interval later. -/
def Clock.stepped (c : Clock) (expiry : Nat) : Clock :=
  { c with
    time := if c.trimForward then c.time.next else c.time.prev
    trimTimer := some (expiry + c.trimInterval * 1000) }

/-- R175: the trim timer expires. -/
def State.trimExpired (s : State) : State :=
  match s.clock.trimTimer with
  | some e => if e ≤ s.runCount then s.modClock fun c => c.stepped e else s
  | none => s

/-- R177: a rising edge of SYNC_IN: the capture, then the armed load. -/
def Clock.edge (c : Clock) : Clock :=
  match c.armed with
  | some t => { c with capture := some c.time, time := t, armed := none }
  | none => { c with capture := some c.time }

/-- R177: there is a rising edge to take: a sample has found one, or the last sample found the input inactive. -/
def SyncInput.edgeDue (x : SyncInput) : Bool := x.edge || !x.sampled

/-- R177: a rising edge of SYNC_IN is taken, and the input has then been found active. Where the last sample found it
active already there is no edge, and nothing changes. -/
def State.syncEdge (s : State) : State :=
  if s.sync.edgeDue then { s.modClock Clock.edge with sync := { line := true, sampled := true, edge := false } } else s

end Sys2Proof.Machine
end

