-- ==== Sys2Proof/Machine/Saving.lean ====
section
/-! DEFINITION. The Settings Store (R179 to R182): the image of the running settings, SAVE and its completion, LOCK, and
the RESTART order (R185). -/

namespace Sys2Proof.Machine

/-- R180: a door's part of the image. -/
def Door.image (d : Door) : DoorImage :=
  { installed := d.installed, branch := d.branch, drop := d.drop, zone := d.zone, unit := d.unit
    closedCount := d.closedCount, openCount := d.openCount, label := d.label, settings := d.settings }

/-- R180: a unit's part of the image. -/
def PowerUnit.image (x : PowerUnit) : UnitImage :=
  { slotLimit := x.slotLimit, startTime := x.startTime, holdoff := x.holdoff, ageTime := x.ageTime
    urgentCount := x.urgentCount }

/-- R180: a branch's part of the image. -/
def Branch.image (x : Branch) : BranchImage :=
  { enable := x.enable, roundPeriod := x.roundPeriod, replyTimeout := x.replyTimeout
    lostThreshold := x.lostThreshold }

/-- R180: the content of the image as the running settings stand. -/
def State.settingsImage (s : State) : Image :=
  { doors := doorIds.foldl (fun v (i : DoorId) => v.set i (s.door i).image) (Vector.replicate 48 DoorImage.defaults)
    units := ⟨#[(s.unit 0).image, (s.unit 1).image, (s.unit 2).image, (s.unit 3).image], rfl⟩
    branches := ⟨#[(s.branch 0).image, (s.branch 1).image, (s.branch 2).image, (s.branch 3).image], rfl⟩
    roles := ⟨#[(s.port 0).role, (s.port 1).role, (s.port 2).role], rfl⟩
    startClosed := s.store.startClosed, alarmMask := s.store.alarmMask, identity := s.store.identity }

/-- The Settings Store rewritten; a change of the image fault or of the lock sets the summary flags (R168, R182). -/
def State.modStore (s : State) (f : Store → Store) : State :=
  { s with store := f s.store }.touchIf
    (s.store.imageFault != (f s.store).imageFault || s.store.lockOpen != (f s.store).lockOpen)

/-- R181: ORDER SAVE. -/
def State.orderSave (s : State) (p : PortId) : Answer :=
  s.asCommand p <|
    if s.store.saving.isSome then s.answer .busy
    else if s.store.restartPending.isSome then s.answer .refusedState
    else
      (s.modStore fun t =>
        { t with saving := some { copy := s.settingsImage, completion := s.runCount + Config.saveMs } }).answer .ok

/-- R181: the completion of a save. -/
def State.saveCompleted (s : State) : State :=
  match s.store.saving with
  | some v =>
    if v.completion ≤ s.runCount then
      s.modStore fun t => { t with image := some v.copy, imageFault := false, saving := none }
    else s
  | none => s

/-- R182: ORDER LOCK. -/
def State.orderLock (s : State) (p : PortId) : Answer :=
  s.asCommand p ((s.modStore fun t => { t with lockOpen := false }).answer .ok)

/-- R185: ORDER RESTART. -/
def State.orderRestart (s : State) (p : PortId) : Answer :=
  s.asCommand p <|
    if s.store.saving.isSome then s.answer .refusedState
    else if s.store.restartPending.isSome then s.answer .ok
    else (s.modStore fun t => { t with restartPending := some p }).answer .ok

/-- R181: a loss of supply; a save that it breaks off leaves the image bad. -/
def State.supplyLost (s : State) : State :=
  { s with
    powered := false
    store := { s.store with image := if s.store.saving.isSome then none else s.store.image, saving := none } }

end Sys2Proof.Machine
end

