-- ==== Sys2Proof/Machine/Reports.lean ====
section
/-! DEFINITION. The transmitter (R166), change reports (R170), refresh cycles (R171), the bytes of responses and reports
(sections 12.2 and 12.5), and the silence timer (R156). -/

namespace Sys2Proof.Machine

/-! ### Bytes -/

/-- R170, section 12.5: the ten bytes of a door entry. -/
def Door.entryBytes (i : DoorId) (d : Door) : List Byte :=
  [byteOf (number i), byteOf (bit d.installed 0 + bit d.inService 1 + bit d.lateForecast 2), byteOf d.state.code,
   byteOf d.indication.code] ++ optBytes 2 d.position ++ faultBytes d.faults ++ faultBytes d.unacked

/-- Section 12.5: byte 16, the unit attentions. -/
def State.attentionBits (s : State) : Nat :=
  bit (s.unit 0).attention 0 + bit (s.unit 1).attention 1 + bit (s.unit 2).attention 2 + bit (s.unit 3).attention 3

/-- Section 12.5: byte 17, the debounced inputs. -/
def State.inputBits (s : State) : Nat :=
  bit s.closeAll.value 0 + bit s.cutoff.value 1 + bit (s.unit 0).pressLow.value 2 + bit (s.unit 1).pressLow.value 3
    + bit (s.unit 2).pressLow.value 4 + bit (s.unit 3).pressLow.value 5

/-- Section 12.5: byte 18, the outputs. -/
def Outputs.bits (o : Outputs) : Nat := bit o.fault 0 + bit o.closure 1 + bit o.allClosed 2

/-- Section 12.5: byte 23, port activity and attention. -/
def State.portBits (s : State) : Nat :=
  bit (!(s.port 0).active) 0 + bit (!(s.port 1).active) 1 + bit (!(s.port 2).active) 2
    + bit (s.port 0).attention 3 + bit (s.port 1).attention 4 + bit (s.port 2).attention 5

/-- Section 12.5: the 26 bytes of the summary block, `left` doors staying in the port's changed-door set. -/
def State.summaryBlock (s : State) (left : Nat) : List Byte :=
  maskBytes s.holds.union ++ maskBytes s.holds.console[0] ++ maskBytes s.holds.console[1]
    ++ maskBytes s.holds.console[2] ++ maskBytes s.holds.line ++ maskBytes s.holds.start
    ++ [byteOf (s.unit 0).state.code, byteOf (s.unit 1).state.code, byteOf (s.unit 2).state.code,
        byteOf (s.unit 3).state.code, byteOf s.attentionBits, byteOf s.inputBits, byteOf s.outputs.bits,
        byteOf (s.branch 0).roundCounter, byteOf (s.branch 1).roundCounter, byteOf (s.branch 2).roundCounter,
        byteOf (s.branch 3).roundCounter, byteOf s.portBits, byteOf (bit s.store.imageFault 0), byteOf left]

/-- R187, section 12.2: the bytes of a response. -/
def Response.frame (p : PortId) (r : Response) : List Byte :=
  consoleFrameBytes ([Config.version, 2, byteOf p.val] ++ bytesOf 2 r.token
    ++ [byteOf (bit r.busy 0), byteOf r.entries.length] ++ r.entries.flatten)

/-- R187, section 12.2: the bytes of a report. -/
def Report.frame (p : PortId) (r : Report) : List Byte :=
  consoleFrameBytes ([Config.version, 3, byteOf p.val] ++ bytesOf 2 r.sequence ++ r.stamp.bytes ++ r.summary
    ++ byteOf r.entries.length :: r.entries.flatten)

/-- R166: the bytes that a port's transmitter is sending. -/
def State.transmission (s : State) (p : PortId) : Option (List Byte) :=
  (s.port p).sending.map fun
    | .response r => r.frame p
    | .report r => r.frame p

/-! ### Refresh (R171) -/

/-- R171: some installed door's unacknowledged set is non-empty. -/
def State.anyUnacked (s : State) : Bool := doorIds.any fun i => (s.door i).installed && (s.door i).unacked != 0

/-- R171: the effective period, in ms. -/
def State.effectivePeriod (s : State) (q : Port) : Nat :=
  if s.anyUnacked then q.refreshPeriod * 1000 / 2 else q.refreshPeriod * 1000

/-- R171: a refresh is due. -/
def State.refreshIsDue (s : State) (p : PortId) : Bool :=
  let q := s.port p
  q.reportsEnabled && q.refreshCycle.isNone && q.refreshStart.any fun t => t + s.effectivePeriod q ≤ s.runCount

/-- R171: a refresh becomes due. -/
def State.refreshDue (s : State) (p : PortId) : State :=
  if s.refreshIsDue p then
    s.modPort p fun q => { q with refreshCycle := some s.installedDoors, refreshStart := some s.runCount }
  else s

/-! ### Reports (R170) -/

/-- R169, R170: a due report is ready, judged by the spacing that governs it (assumption 27). -/
def Port.reportReady (q : Port) (now : Nat) : Bool :=
  q.reportDue && q.lastReport.all fun t => t + q.governingSpacing ≤ now

/-- R170, R171: the doors of the next report. -/
def Port.reportDoors (q : Port) : List DoorId := (q.refreshCycle.getD q.changed).take Config.reportEntries

/-- R171: the refresh cycle after a report; it becomes absent when its last door has been sent. -/
def Port.cycleAfter (q : Port) : Option (List DoorId) :=
  q.refreshCycle.bind fun l =>
    let rest := l.drop Config.reportEntries
    if rest.isEmpty then none else some rest

/-- The changed-door set after a report of these doors (R170, R171). -/
def Port.changedAfter (q : Port) : List DoorId := q.changed.filter fun i => !q.reportDoors.contains i

/-- R166: a report may begin: the transmitter is free and no response waits. -/
def Port.transmitterFree (q : Port) : Bool := q.sending.isNone && q.queue.isEmpty

/-- R170: the report that begins now. -/
def State.reportNow (s : State) (p : PortId) : Report :=
  let q := s.port p
  { sequence := q.reportSequence, stamp := s.clock.time, summary := s.summaryBlock q.changedAfter.length
    entries := q.reportDoors.map fun i => (s.door i).entryBytes i }

/-- R170: a report begins on a port. -/
def State.beginReport (s : State) (p : PortId) : State :=
  s.modPort p fun q =>
    { q with
      sending := some (.report (s.reportNow p))
      reportSequence := (q.reportSequence + 1) % 256
      changed := q.changedAfter
      refreshCycle := q.cycleAfter
      lastReported := q.reportDoors.foldl (fun v (i : DoorId) => v.set i (s.door i).position) q.lastReported
      summaryChanged := false
      dueSpacing := none
      lastReport := some s.runCount }

/-- R166, R170: a ready report is sent if the transmitter allows. -/
def State.reportSend (s : State) (p : PortId) : State :=
  if (s.port p).reportReady s.runCount && (s.port p).transmitterFree then s.beginReport p else s

/-- R166: the sending of a report ends. -/
def State.reportSent (s : State) (p : PortId) : State :=
  s.modPort p fun q =>
    match q.sending with
    | some (.report _) => { q with sending := none }
    | _ => q

/-! ### Responses (R166, R156) -/

/-- R166: the sending of the first waiting response begins. -/
def State.responseSend (s : State) (p : PortId) : State :=
  s.modPort p fun q =>
    match q.sending, q.queue with
    | none, r :: rest => { q with sending := some (.response r), queue := rest }
    | _, _ => q

/-- R155: the responses of a port that stand in its transmit queue, counting one whose sending has begun. -/
def Port.responses (q : Port) : Nat :=
  q.queue.length + (match q.sending with
    | some (.response _) => 1
    | _ => 0)

/-- R156, R166: the last byte of a response has been sent: the silence timer restarts after an EXECUTED response,
unless a later request is in execution then. A later request that has begun and ended already does not hold it back
(assumption 31). -/
def Port.responseSent (q : Port) (r : Response) (now : Nat) : Port :=
  { q with
    sending := none
    silenceTimer := if !r.busy && q.request.isNone then some (now + q.silenceTime * 1000) else q.silenceTimer }

/-- R156: the silence timer of a port expires. -/
def State.silenceExpired (s : State) (p : PortId) : State :=
  if (s.port p).silenceTimer.any fun e => e ≤ s.runCount then
    s.modPort p fun q => { q with active := false, silenceTimer := none, attention := true }
  else s

end Sys2Proof.Machine
end

