-- ==== Sys2Proof/Machine/Items.lean ====
section
/-! DEFINITION. The execution of requests (R157 to R165): which items are malformed, the size of each entry, the items
handed to their owners, and the end of a request. -/

namespace Sys2Proof.Machine

/-! ### Malformed items (R158) -/

/-- R3, R158: a target that no item of its kind can carry: a door outside 1..48, and for an ORDER that takes a target a
holder outside 0..4 or a target form outside 0..9. -/
def Target.malformed (inOrder : Bool) : Target → Bool
  | .door n => (numbered 48 n).isNone
  | .holder n => inOrder && (indexed 5 n).isNone
  | .other _ _ => inOrder
  | _ => false

/-- R158: a FETCH argument outside the range of its object's field. -/
def fetchMalformed (o : FetchObject) (a : Nat) : Bool :=
  match o with
  | .doorRecord => (numbered 48 a).isNone
  | .doorSettings => (numbered 48 a).isNone
  | .doorPending => (numbered 48 a).isNone
  | .zoneSummary => (numbered 16 a).isNone
  | .unit => (numbered 4 a).isNone
  | .holds => false
  | .clock => false
  | .portStatus => (indexed 3 a).isNone
  | .identity => false

/-- R150, R158: a DIRECT item that names no branch, drop or kind of the D48. -/
def directMalformed (b d k : Nat) : Bool :=
  (numbered 4 b).isNone || (numbered 12 d).isNone || (directKind k).isNone

/-- R158: the item is malformed. -/
def itemMalformed : Item → Bool
  | .fetch o a => fetchMalformed o a
  | .order o t => OrderOp.takesTarget o && Target.malformed true t
  | .set _ t => Target.malformed false t
  | .marker _ => false
  | .delay ms => ms < 1 || Config.delayMax < ms
  | .direct b d k => directMalformed b d k
  | .undecodable _ => true

/-! ### Entries (R190) -/

/-- Section 12.3: the item code, which begins the item's entry; an unknown code is repeated (R188). -/
def itemCode : Item → Byte
  | .fetch _ _ => 1
  | .order _ _ => 2
  | .set _ _ => 3
  | .marker _ => 4
  | .delay _ => 5
  | .direct _ _ _ => 6
  | .undecodable c => c

/-- R190: an entry of four bytes: item code, result, value. -/
def plainEntry (code : Byte) (r : Result) (value : Nat) : List Byte := [code, byteOf r.code] ++ bytesOf 2 value

/-- R163: the entry of a MARKER item. -/
def markerEntry (w : BitVec 32) : List Byte := [4, byteOf Result.ok.code] ++ bytesOf 4 w.toNat

/-- R159, R190: the size of an item's entry. -/
def State.entrySize (s : State) (it : Item) : Nat :=
  if itemMalformed it then 4
  else
    match it with
    | .fetch o a => s.fetchSize o a
    | .order _ _ => 4
    | .set _ _ => 4
    | .marker _ => 6
    | .delay _ => 4
    | .direct _ _ _ => 13
    | .undecodable _ => 4

/-- R159: the size of the response built so far: 12 bytes around its entries. -/
def Request.size (r : Request) : Nat := 12 + r.entries.flatten.length

/-- R159: the item's entry would take the response past 1024 bytes. -/
def State.overflows (s : State) (r : Request) (it : Item) : Bool :=
  decide (Config.maxResponse < r.size + s.entrySize it)

/-! ### The owners of orders (R162) -/

/-- The outputs take their values within the event (R173). -/
def Answer.withOutputs (a : Answer) : Answer := { a with state := a.state.evalOutputs }

/-- R162: an ORDER goes to its owner. -/
def State.ordering (s : State) (p : PortId) (t : Target) : OrderOp → Answer
  | .close => (s.orderClose p t).withOutputs
  | .openDoor => (s.orderOpen p t).withOutputs
  | .stop => (s.orderStop p t).withOutputs
  | .service v => (s.orderService p t v).withOutputs
  | .holdZones => (s.orderHoldZones p t).withOutputs
  | .releaseZones => (s.orderReleaseZones p t).withOutputs
  | .releaseForeign => (s.orderReleaseForeign p t).withOutputs
  | .resetFaults => (s.orderResetFaults p t).withOutputs
  | .settingsHold v => s.orderSettingsHold p v
  | .signalTest => s.orderSignalTest p t
  | .resetUnit => (s.orderResetUnit p t).withOutputs
  | .ack => (s.orderAck p t).withOutputs
  | .ackPort => (s.orderAckPort p t).withOutputs
  | .ackUnit => (s.orderAckUnit p t).withOutputs
  | .clockLoad day ms => s.orderClockLoad p day ms
  | .clockAdjust delta => s.orderClockAdjust p delta
  | .clockArm day ms => s.orderClockArm p day ms
  | .clockDisarm => s.orderClockDisarm p
  | .save => s.orderSave p
  | .lock => s.orderLock p
  | .restart => s.orderRestart p

/-! ### Requests -/

/-- R157: the item executing of the port's request ends with an entry; after the last item of the frame, execution
ends. -/
def State.endItem (s : State) (p : PortId) (e : List Byte) : State := s.modPort p (Port.itemEnded e)

/-- R163, R164: the item executing waits. -/
def State.await (s : State) (p : PortId) (w : Wait) : State :=
  s.modPort p fun q => { q with request := q.request.map fun r => { r with wait := some w } }

/-- R157: execution of the port's request ends with the entries that it has: its response joins the transmit queue. -/
def State.finish (s : State) (p : PortId) : State :=
  s.modPort p fun q => (q.request.map fun r => q.concluded r false).getD q

/-- R157: execution of the port's request ends with the entry of the item executing, whatever items stand behind it. -/
def State.finishWith (s : State) (p : PortId) (e : List Byte) (carriesRestart : Bool) : State :=
  s.modPort p fun q => (q.request.map fun r => q.concluded (r.withEntry e) carriesRestart).getD q

/-- R157, R185: an item RESTART answered OK ends its request; the response of the one that made the restart pending
carries it. -/
def State.executeRestart (s : State) (p : PortId) : State :=
  let a := s.orderRestart p
  let e := plainEntry 2 a.result a.count
  if a.result = .ok then a.state.finishWith p e s.store.restartPending.isNone else a.state.endItem p e

/-- R160: a FETCH item; the counter of the free values moves on. -/
def State.executeFetch (s : State) (p : PortId) (o : FetchObject) (a : Nat) : State :=
  { s with freeCount := s.freeCount + 64 }.endItem p (s.fetchEntry o a)

/-- R162: an ORDER item. -/
def State.executeOrder (s : State) (p : PortId) (o : OrderOp) (t : Target) : State :=
  let a := s.ordering p t o
  a.state.endItem p (plainEntry 2 a.result a.count)

/-- R161: a SET item. -/
def State.executeSet (s : State) (p : PortId) (w : SettingWrite) (t : Target) : State :=
  let a := (s.setting p t w).withOutputs
  a.state.endItem p (plainEntry 3 a.result 0)

/-- R150, R164: a DIRECT item is answered at its taking, or waits. -/
def State.executeDirect (s : State) (p : PortId) (b d k : Nat) : State :=
  match s.judgeDirect p b d k with
  | .inl r => s.endItem p (directEntry r b d k [])
  | .inr (c, x) => (s.modBranch c fun y => { y with pendingDirect := some x }).await p (.direct c)

/-- R157: a well-formed item that fits is executed. -/
def State.executeItem (s : State) (p : PortId) (it : Item) : State :=
  match it with
  | .fetch o a => s.executeFetch p o a
  | .order .restart _ => s.executeRestart p
  | .order o t => s.executeOrder p o t
  | .set w t => s.executeSet p w t
  | .marker w => s.endItem p (markerEntry w)
  | .delay ms => s.await p (.delay (s.runCount + ms))
  | .direct b d k => s.executeDirect p b d k
  | .undecodable _ => s

/-- R157 to R159: the next item of a port's request is taken, or the request ends. A good request that carries no item
ends at once, with an EXECUTED response of completed count 0, though R157 names no such end (assumption 38). -/
def State.takeItem (s : State) (p : PortId) (r : Request) : State :=
  match r.items[r.index]? with
  | none => s.finish p
  | some it =>
    if s.overflows r it then s.finish p
    else if itemMalformed it then s.finishWith p (plainEntry (itemCode it) .badItem 0) false
    else s.executeItem p it

/-- The port has a request whose next item may be taken. -/
def Port.ready (q : Port) : Bool := q.request.any fun r => r.wait.isNone

/-- R157: the port's request goes on: its next item is taken, unless it waits. -/
def State.goOn (s : State) (p : PortId) : State :=
  match (s.port p).request with
  | some r => if r.wait.isNone then s.takeItem p r else s
  | none => s

/-- R156, R157: a good request becomes the request in execution, the port ACTIVE and its silence timer stopped. -/
def State.beginRequest (s : State) (p : PortId) (g : GoodRequest) : State :=
  s.modPort p fun q =>
    { q with
      active := true, silenceTimer := none
      request := some { token := g.token, items := g.items, index := 0, entries := [], wait := none } }

/-- R157: the BUSY response. -/
def State.answerBusy (s : State) (p : PortId) (g : GoodRequest) : State :=
  s.modPort p fun q =>
    { q with queue := q.queue ++ [{ token := g.token, busy := true, entries := [], carriesRestart := false }] }

/-- R157: a good request is answered BUSY, or becomes the request in execution and its first item is taken. The items
behind the first are taken one by one, with whatever is taken between them (R165, assumption 13). -/
def State.takeRequest (s : State) (p : PortId) (g : GoodRequest) : State :=
  if (s.port p).request.isSome then s.answerBusy p g else (s.beginRequest p g).goOn p

/-- R155: a complete frame received on a port is judged. -/
def State.consoleFrame (s : State) (p : PortId) (l : List Byte) : State :=
  let t := s.modPort p fun q => { q with collecting := false }
  match readRequest p l with
  | none => t
  | some g => if Config.maxResponses ≤ (t.port p).responses then t else t.takeRequest p g

/-- The item of a command of the table, taken as the one item of a request of its port, with token 0
(assumption 3). -/
def State.itemCommand (s : State) (p : PortId) (it : Item) : State := s.takeRequest p { token := 0, items := [it] }

/-- R163: the DELAY of a port's request expires. -/
def State.delayExpired (s : State) (p : PortId) : State :=
  match (s.port p).request with
  | some r =>
    match r.wait with
    | some (.delay e) => if e ≤ s.runCount then s.endItem p (plainEntry 5 .ok 0) else s
    | _ => s
  | none => s

end Sys2Proof.Machine
end

