-- ==== Sys2Proof/Machine/Startup.lean ====
section
/-! DEFINITION. The two resets as events: power-on (R184) and the warm restart (R185). -/

namespace Sys2Proof.Machine

/-! ### Power-on -/

/-- R184, step 1: the cabinet lines as they are sampled at power-on. -/
structure Lines where
  key : Bool
  closeAll : Bool
  cutoff : Bool
  pressLow : BitVec 4
  sync : Bool
  deriving DecidableEq, Repr

/-- R184, steps 1 to 4: every block at its power-on values, with the settings of an image. -/
def State.built (s : State) (m : Image) (l : Lines) : State :=
  { powered := true, runCount := 0
    doors := doorIds.foldl (fun v (i : DoorId) => v.set i (Door.powerOn m.doors[i]))
      (Vector.replicate 48 (Door.powerOn DoorImage.defaults))
    settingsHold := false
    holds := { console := Vector.replicate 3 0, line := if l.closeAll then allZones else 0
               start := if m.startClosed then allZones else 0 }
    units := ⟨#[PowerUnit.powerOn m.units[0] (l.pressLow.getLsbD 0), PowerUnit.powerOn m.units[1] (l.pressLow.getLsbD 1),
                PowerUnit.powerOn m.units[2] (l.pressLow.getLsbD 2), PowerUnit.powerOn m.units[3] (l.pressLow.getLsbD 3)],
              rfl⟩
    branches := ⟨#[Branch.powerOn m.branches[0], Branch.powerOn m.branches[1], Branch.powerOn m.branches[2],
                   Branch.powerOn m.branches[3]], rfl⟩
    ports := ⟨#[Port.powerOn m.roles[0], Port.powerOn m.roles[1], Port.powerOn m.roles[2]], rfl⟩
    clock := Clock.powerOn
    store := { image := s.store.image, imageFault := s.store.image.isNone, lockOpen := l.key, identity := m.identity
               saving := none, restartPending := none, startClosed := m.startClosed, alarmMask := m.alarmMask }
    closeAll := Input.sampled l.closeAll, cutoff := Input.sampled l.cutoff
    sync := { line := l.sync, sampled := l.sync, edge := false }
    keyLine := l.key
    outputs := { fault := false, closure := false, allClosed := false }
    freeCount := s.freeCount, schedule := s.schedule, pending := s.pending }

/-- R184 step 5, R185 step 5: BRANCH_OFF is raised for each installed door of a disabled branch. -/
def State.raiseBranchFaults (s : State) : State := s.forDoors s.installedDoors fun i t => t.raiseBranchOff i

/-- R153: each enabled branch starts a round. -/
def State.startRounds (s : State) : State :=
  branchIds.foldl (fun t b => if (t.branch b).enable then t.startRound b else t) s

/-- R184: power-on. -/
def State.powerOn (s : State) (l : Lines) : State :=
  (((s.built (s.store.image.getD Image.defaults) l).raiseBranchFaults).evalOutputs).startRounds

/-! ### Warm restart (R185) -/

/-- R78, R102: what a warm restart ends for a door: its drive, stroke, reclose wait, lead-in, tail and test. -/
def State.endMotion (s : State) (i : DoorId) : State :=
  (s.driveOffNow i).modDoor i fun d =>
    { d with stroke := none, reclose := none, leadIn := none, tail := none, test := none }

/-- R137: a power unit after a warm restart. -/
def PowerUnit.restarted (x : PowerUnit) : PowerUnit := { x with state := .stopped, timer := none, holders := [], list := [] }

/-- R153: a branch at a warm restart, before its new round. Its receiver goes on as it was (assumption 37). -/
def State.restartBranch (s : State) (b : BranchId) : State :=
  (s.breakExchange b .timeout).modBranch b fun x =>
    { x with roundCounter := 0, roundTimer := none, members := [], drops := Vector.replicate 12 DropLink.fresh }

/-- R21: at a warm restart every condition fault leaves both sets. -/
def Door.eventFaultsOnly (d : Door) : Door :=
  { d with faults := d.faults &&& eventFaults, unacked := d.unacked &&& eventFaults }

/-- R28, R185 step 4: a door at a warm restart. -/
def State.restartDoor (s : State) (i : DoorId) : State :=
  ((s.modDoor i Door.unsettled).enterRest i .unknown).modDoor i Door.eventFaultsOnly

/-- R167, R185 step 6: the report state of a port after a warm restart. -/
def Port.restarted (q : Port) (installed : List DoorId) (now : Nat) : Port :=
  { q with
    changed := if q.reportsEnabled then installed else []
    lastReported := Vector.replicate 48 none
    summaryChanged := q.reportsEnabled
    refreshCycle := none
    refreshStart := if q.reportsEnabled then some now else none }

/-- R185, steps 1 to 3. -/
def State.restartWork (s : State) : State :=
  let t := s.forDoors doorIds fun i t => t.endMotion i
  let u := unitIds.foldl (fun t u => t.modUnit u PowerUnit.restarted) t
  branchIds.foldl (fun t b => t.restartBranch b) u

/-- R185, steps 4 and 5. -/
def State.restartDoors (s : State) : State :=
  let t := (s.forDoors s.installedDoors fun i t => t.restartDoor i).raiseBranchFaults
  t.forDoors t.installedDoors fun i t => t.updateNotControlled i

/-- R185: the pending restart takes effect. -/
def State.warmRestart (s : State) : State :=
  let t := s.restartWork.restartDoors
  let u := (t.mapPorts fun _ q => q.restarted t.installedDoors t.runCount).evalOutputs.startRounds
  { u with store := { u.store with restartPending := none } }

/-- R156, R185: the last byte of a response has been sent, and the restart that it carries takes effect. -/
def State.responseSentNow (s : State) (p : PortId) : State :=
  match (s.port p).sending with
  | some (.response r) =>
    let t := s.modPort p fun q => q.responseSent r s.runCount
    if r.carriesRestart && s.store.restartPending.isSome then t.warmRestart else t
  | _ => s

end Sys2Proof.Machine
end

