-- ==== Sys2Proof/Machine/Commands.lean ====
section
/-! DEFINITION. The item commands of the table: each is the one item of a request of its port (assumption 3), taken by
`State.itemCommand`. A D48 without supply takes none of them. -/

namespace Sys2Proof.Machine

/-- The outcome of a command at a D48 with supply; without supply nothing happens (assumption 5). -/
def State.live (s : State) (f : State → State) : Host.Outcome State Fault Refusal := .next (if s.powered then f s else s)

/-- FETCH_DOOR_RECORD (R26). -/
def execFetchDoorRecord (p : PortId) (n : Nat) (s : State) : Host.Outcome State Fault Refusal :=
  s.live fun s => s.itemCommand p (.fetch .doorRecord n)

/-- FETCH_DOOR_SETTINGS (R26). -/
def execFetchDoorSettings (p : PortId) (n : Nat) (s : State) : Host.Outcome State Fault Refusal :=
  s.live fun s => s.itemCommand p (.fetch .doorSettings n)

/-- FETCH_DOOR_PENDING (R26). -/
def execFetchDoorPending (p : PortId) (n : Nat) (s : State) : Host.Outcome State Fault Refusal :=
  s.live fun s => s.itemCommand p (.fetch .doorPending n)

/-- FETCH_ZONE_SUMMARY (R160). -/
def execFetchZoneSummary (p : PortId) (n : Nat) (s : State) : Host.Outcome State Fault Refusal :=
  s.live fun s => s.itemCommand p (.fetch .zoneSummary n)

/-- FETCH_UNIT (R117). -/
def execFetchUnit (p : PortId) (n : Nat) (s : State) : Host.Outcome State Fault Refusal :=
  s.live fun s => s.itemCommand p (.fetch .unit n)

/-- FETCH_HOLDS (R79). -/
def execFetchHolds (p : PortId) (s : State) : Host.Outcome State Fault Refusal :=
  s.live fun s => s.itemCommand p (.fetch .holds 0)

/-- FETCH_CLOCK (R175). -/
def execFetchClock (p : PortId) (s : State) : Host.Outcome State Fault Refusal :=
  s.live fun s => s.itemCommand p (.fetch .clock 0)

/-- FETCH_PORT_STATUS (R160). -/
def execFetchPortStatus (p : PortId) (n : Nat) (s : State) : Host.Outcome State Fault Refusal :=
  s.live fun s => s.itemCommand p (.fetch .portStatus n)

/-- FETCH_IDENTITY (R179). -/
def execFetchIdentity (p : PortId) (s : State) : Host.Outcome State Fault Refusal :=
  s.live fun s => s.itemCommand p (.fetch .identity 0)

/-- CLOSE (R97). -/
def execClose (p : PortId) (t : Target) (s : State) : Host.Outcome State Fault Refusal :=
  s.live fun s => s.itemCommand p (.order .close t)

/-- OPEN (R98). -/
def execOpenDoor (p : PortId) (t : Target) (s : State) : Host.Outcome State Fault Refusal :=
  s.live fun s => s.itemCommand p (.order .openDoor t)

/-- STOP (R99). -/
def execStop (p : PortId) (t : Target) (s : State) : Host.Outcome State Fault Refusal :=
  s.live fun s => s.itemCommand p (.order .stop t)

/-- SERVICE (R100). -/
def execService (p : PortId) (t : Target) (v : Nat) (s : State) : Host.Outcome State Fault Refusal :=
  s.live fun s => s.itemCommand p (.order (.service v) t)

/-- HOLD_ZONES (R84). -/
def execHoldZones (p : PortId) (t : Target) (s : State) : Host.Outcome State Fault Refusal :=
  s.live fun s => s.itemCommand p (.order .holdZones t)

/-- RELEASE_ZONES (R85). -/
def execReleaseZones (p : PortId) (t : Target) (s : State) : Host.Outcome State Fault Refusal :=
  s.live fun s => s.itemCommand p (.order .releaseZones t)

/-- RELEASE_FOREIGN (R86). -/
def execReleaseForeign (p : PortId) (t : Target) (s : State) : Host.Outcome State Fault Refusal :=
  s.live fun s => s.itemCommand p (.order .releaseForeign t)

/-- RESET_FAULTS (R76). -/
def execResetFaults (p : PortId) (t : Target) (s : State) : Host.Outcome State Fault Refusal :=
  s.live fun s => s.itemCommand p (.order .resetFaults t)

/-- SETTINGS_HOLD (R16). -/
def execSettingsHold (p : PortId) (v : Nat) (s : State) : Host.Outcome State Fault Refusal :=
  s.live fun s => s.itemCommand p (.order (.settingsHold v) .none)

/-- SIGNAL_TEST (R111). -/
def execSignalTest (p : PortId) (t : Target) (s : State) : Host.Outcome State Fault Refusal :=
  s.live fun s => s.itemCommand p (.order .signalTest t)

/-- RESET_UNIT (R133). -/
def execResetUnit (p : PortId) (t : Target) (s : State) : Host.Outcome State Fault Refusal :=
  s.live fun s => s.itemCommand p (.order .resetUnit t)

/-- ACK (R172). -/
def execAck (p : PortId) (t : Target) (s : State) : Host.Outcome State Fault Refusal :=
  s.live fun s => s.itemCommand p (.order .ack t)

/-- ACK_PORT (R172). -/
def execAckPort (p : PortId) (t : Target) (s : State) : Host.Outcome State Fault Refusal :=
  s.live fun s => s.itemCommand p (.order .ackPort t)

/-- ACK_UNIT (R172). -/
def execAckUnit (p : PortId) (t : Target) (s : State) : Host.Outcome State Fault Refusal :=
  s.live fun s => s.itemCommand p (.order .ackUnit t)

/-- CLOCK_LOAD (R176). -/
def execClockLoad (p : PortId) (day : Nat) (ms : Nat) (s : State) : Host.Outcome State Fault Refusal :=
  s.live fun s => s.itemCommand p (.order (.clockLoad day ms) .none)

/-- CLOCK_ADJUST (R176). -/
def execClockAdjust (p : PortId) (delta : Int) (s : State) : Host.Outcome State Fault Refusal :=
  s.live fun s => s.itemCommand p (.order (.clockAdjust delta) .none)

/-- CLOCK_ARM (R176). -/
def execClockArm (p : PortId) (day : Nat) (ms : Nat) (s : State) : Host.Outcome State Fault Refusal :=
  s.live fun s => s.itemCommand p (.order (.clockArm day ms) .none)

/-- CLOCK_DISARM (R176). -/
def execClockDisarm (p : PortId) (s : State) : Host.Outcome State Fault Refusal :=
  s.live fun s => s.itemCommand p (.order .clockDisarm .none)

/-- SAVE (R181). -/
def execSave (p : PortId) (s : State) : Host.Outcome State Fault Refusal :=
  s.live fun s => s.itemCommand p (.order .save .none)

/-- LOCK (R182). -/
def execLock (p : PortId) (s : State) : Host.Outcome State Fault Refusal :=
  s.live fun s => s.itemCommand p (.order .lock .none)

/-- RESTART (R185). -/
def execRestart (p : PortId) (s : State) : Host.Outcome State Fault Refusal :=
  s.live fun s => s.itemCommand p (.order .restart .none)

/-- MARKER (R163). -/
def execMarker (p : PortId) (w : BitVec 32) (s : State) : Host.Outcome State Fault Refusal :=
  s.live fun s => s.itemCommand p (.marker w)

/-- DELAY (R163). -/
def execDelay (p : PortId) (ms : Nat) (s : State) : Host.Outcome State Fault Refusal :=
  s.live fun s => s.itemCommand p (.delay ms)

/-- DIRECT (R150). -/
def execDirect (p : PortId) (b : Nat) (d : Nat) (k : Nat) (s : State) : Host.Outcome State Fault Refusal :=
  s.live fun s => s.itemCommand p (.direct b d k)

/-- SET_LEAD_IN_TIME (R12). -/
def execSetLeadInTime (p : PortId) (t : Target) (v : Nat) (s : State) : Host.Outcome State Fault Refusal :=
  s.live fun s => s.itemCommand p (.set (.op .leadInTime v) t)

/-- SET_RECLOSE_DELAY (R12). -/
def execSetRecloseDelay (p : PortId) (t : Target) (v : Nat) (s : State) : Host.Outcome State Fault Refusal :=
  s.live fun s => s.itemCommand p (.set (.op .recloseDelay v) t)

/-- SET_STROKE_LIMIT (R12). -/
def execSetStrokeLimit (p : PortId) (t : Target) (v : Nat) (s : State) : Host.Outcome State Fault Refusal :=
  s.live fun s => s.itemCommand p (.set (.op .strokeLimit v) t)

/-- SET_DEAD_TIME (R12). -/
def execSetDeadTime (p : PortId) (t : Target) (v : Nat) (s : State) : Host.Outcome State Fault Refusal :=
  s.live fun s => s.itemCommand p (.set (.op .deadTime v) t)

/-- SET_CLOSED_BAND (R12). -/
def execSetClosedBand (p : PortId) (t : Target) (v : Nat) (s : State) : Host.Outcome State Fault Refusal :=
  s.live fun s => s.itemCommand p (.set (.op .closedBand v) t)

/-- SET_OPEN_BAND (R12). -/
def execSetOpenBand (p : PortId) (t : Target) (v : Nat) (s : State) : Host.Outcome State Fault Refusal :=
  s.live fun s => s.itemCommand p (.set (.op .openBand v) t)

/-- SET_STALL_WINDOW (R12). -/
def execSetStallWindow (p : PortId) (t : Target) (v : Nat) (s : State) : Host.Outcome State Fault Refusal :=
  s.live fun s => s.itemCommand p (.set (.op .stallWindow v) t)

/-- SET_STALL_DELTA (R12). -/
def execSetStallDelta (p : PortId) (t : Target) (v : Nat) (s : State) : Host.Outcome State Fault Refusal :=
  s.live fun s => s.itemCommand p (.set (.op .stallDelta v) t)

/-- SET_CONFIRM_COUNT (R12). -/
def execSetConfirmCount (p : PortId) (t : Target) (v : Nat) (s : State) : Host.Outcome State Fault Refusal :=
  s.live fun s => s.itemCommand p (.set (.op .confirmCount v) t)

/-- SET_TAIL_TIME (R12). -/
def execSetTailTime (p : PortId) (t : Target) (v : Nat) (s : State) : Host.Outcome State Fault Refusal :=
  s.live fun s => s.itemCommand p (.set (.op .tailTime v) t)

/-- SET_INSTALLED (R8). -/
def execSetInstalled (p : PortId) (t : Target) (v : Nat) (s : State) : Host.Outcome State Fault Refusal :=
  s.live fun s => s.itemCommand p (.set (.installed v) t)

/-- SET_BRANCH (R10). -/
def execSetBranch (p : PortId) (t : Target) (v : Nat) (s : State) : Host.Outcome State Fault Refusal :=
  s.live fun s => s.itemCommand p (.set (.branch v) t)

/-- SET_DROP (R10). -/
def execSetDrop (p : PortId) (t : Target) (v : Nat) (s : State) : Host.Outcome State Fault Refusal :=
  s.live fun s => s.itemCommand p (.set (.drop v) t)

/-- SET_ZONE (R10). -/
def execSetZone (p : PortId) (t : Target) (v : Nat) (s : State) : Host.Outcome State Fault Refusal :=
  s.live fun s => s.itemCommand p (.set (.zone v) t)

/-- SET_UNIT (R10). -/
def execSetUnit (p : PortId) (t : Target) (v : Nat) (s : State) : Host.Outcome State Fault Refusal :=
  s.live fun s => s.itemCommand p (.set (.unit v) t)

/-- SET_GEOMETRY (R45). -/
def execSetGeometry (p : PortId) (t : Target) (c : Nat) (o : Nat) (s : State) : Host.Outcome State Fault Refusal :=
  s.live fun s => s.itemCommand p (.set (.geometry c o) t)

/-- SET_LABEL (R5). -/
def execSetLabel (p : PortId) (t : Target) (x : List Byte) (s : State) : Host.Outcome State Fault Refusal :=
  s.live fun s => s.itemCommand p (.set (.label x) t)

/-- SET_SLOT_LIMIT (R116). -/
def execSetSlotLimit (p : PortId) (t : Target) (v : Nat) (s : State) : Host.Outcome State Fault Refusal :=
  s.live fun s => s.itemCommand p (.set (.slotLimit v) t)

/-- SET_START_TIME (R116). -/
def execSetStartTime (p : PortId) (t : Target) (v : Nat) (s : State) : Host.Outcome State Fault Refusal :=
  s.live fun s => s.itemCommand p (.set (.startTime v) t)

/-- SET_HOLDOFF (R116). -/
def execSetHoldoff (p : PortId) (t : Target) (v : Nat) (s : State) : Host.Outcome State Fault Refusal :=
  s.live fun s => s.itemCommand p (.set (.holdoff v) t)

/-- SET_AGE_TIME (R116). -/
def execSetAgeTime (p : PortId) (t : Target) (v : Nat) (s : State) : Host.Outcome State Fault Refusal :=
  s.live fun s => s.itemCommand p (.set (.ageTime v) t)

/-- SET_URGENT_COUNT (R116). -/
def execSetUrgentCount (p : PortId) (t : Target) (v : Nat) (s : State) : Host.Outcome State Fault Refusal :=
  s.live fun s => s.itemCommand p (.set (.urgentCount v) t)

/-- SET_ENABLE (R138). -/
def execSetEnable (p : PortId) (t : Target) (v : Nat) (s : State) : Host.Outcome State Fault Refusal :=
  s.live fun s => s.itemCommand p (.set (.enable v) t)

/-- SET_ROUND_PERIOD (R138). -/
def execSetRoundPeriod (p : PortId) (t : Target) (v : Nat) (s : State) : Host.Outcome State Fault Refusal :=
  s.live fun s => s.itemCommand p (.set (.roundPeriod v) t)

/-- SET_REPLY_TIMEOUT (R138). -/
def execSetReplyTimeout (p : PortId) (t : Target) (v : Nat) (s : State) : Host.Outcome State Fault Refusal :=
  s.live fun s => s.itemCommand p (.set (.replyTimeout v) t)

/-- SET_LOST_THRESHOLD (R138). -/
def execSetLostThreshold (p : PortId) (t : Target) (v : Nat) (s : State) : Host.Outcome State Fault Refusal :=
  s.live fun s => s.itemCommand p (.set (.lostThreshold v) t)

/-- SET_PORT_ROLE (R161). -/
def execSetPortRole (p : PortId) (t : Target) (v : Nat) (s : State) : Host.Outcome State Fault Refusal :=
  s.live fun s => s.itemCommand p (.set (.portRole v) t)

/-- SET_SILENCE_TIME (R161). -/
def execSetSilenceTime (p : PortId) (t : Target) (v : Nat) (s : State) : Host.Outcome State Fault Refusal :=
  s.live fun s => s.itemCommand p (.set (.silenceTime v) t)

/-- SET_REPORTS_ENABLED (R169). -/
def execSetReportsEnabled (p : PortId) (t : Target) (v : Nat) (s : State) : Host.Outcome State Fault Refusal :=
  s.live fun s => s.itemCommand p (.set (.reportsEnabled v) t)

/-- SET_REPORT_SPACING (R169). -/
def execSetReportSpacing (p : PortId) (t : Target) (v : Nat) (s : State) : Host.Outcome State Fault Refusal :=
  s.live fun s => s.itemCommand p (.set (.reportSpacing v) t)

/-- SET_REFRESH_PERIOD (R169). -/
def execSetRefreshPeriod (p : PortId) (t : Target) (v : Nat) (s : State) : Host.Outcome State Fault Refusal :=
  s.live fun s => s.itemCommand p (.set (.refreshPeriod v) t)

/-- SET_START_CLOSED (R183). -/
def execSetStartClosed (p : PortId) (t : Target) (v : Nat) (s : State) : Host.Outcome State Fault Refusal :=
  s.live fun s => s.itemCommand p (.set (.startClosed v) t)

/-- SET_FAULT_ALARM_MASK (R183). -/
def execSetFaultAlarmMask (p : PortId) (t : Target) (m : BitVec 16) (s : State) : Host.Outcome State Fault Refusal :=
  s.live fun s => s.itemCommand p (.set (.faultAlarmMask m) t)

/-- SET_VESSEL_IDENTITY (R183). -/
def execSetVesselIdentity (p : PortId) (t : Target) (x : List Byte) (s : State) : Host.Outcome State Fault Refusal :=
  s.live fun s => s.itemCommand p (.set (.vesselIdentity x) t)

/-- SET_CLOCK_TRIM (R175). -/
def execSetClockTrim (p : PortId) (t : Target) (i : Nat) (d : Byte) (s : State) : Host.Outcome State Fault Refusal :=
  s.live fun s => s.itemCommand p (.set (.clockTrim i d) t)

end Sys2Proof.Machine
end

