-- ==== Sys2Proof/Machine/Events.lean ====
section
/-! DEFINITION. The events of the table: the supply, frames and receivers, the transmitter, timers, branches and cabinet
lines. A timer's event acts when its timer has run out, and leaves the state as it is where it cannot occur
(assumption 4). -/

namespace Sys2Proof.Machine

/-! ### Supply -/

/-- POWER_ON (R184): the lines are sampled at the levels given; a D48 that has supply loses it first (assumption 5). -/
def execPowerOn (key closeAll cutoff : Bool) (pressLow : BitVec 4) (sync : Bool) (s : State) :
    Host.Outcome State Fault Refusal :=
  .next ((if s.powered then s.supplyLost else s).powerOn
    { key := key, closeAll := closeAll, cutoff := cutoff, pressLow := pressLow, sync := sync })

/-- LOSS_OF_SUPPLY (R181). -/
def execLossOfSupply (s : State) : Host.Outcome State Fault Refusal := s.live State.supplyLost

/-! ### Console receivers and transmitters -/

/-- CONSOLE_FRAME (R155). -/
def execConsoleFrame (p : PortId) (frame : List Byte) (s : State) : Host.Outcome State Fault Refusal :=
  s.live fun s => s.consoleFrame p frame

/-- R155: the port's receiver collects a frame, or hunts. -/
def State.receiving (s : State) (p : PortId) (collecting : Bool) : State :=
  s.modPort p fun q => { q with collecting := collecting }

/-- CONSOLE_RECEIVE_TIMEOUT (R155). -/
def execConsoleReceiveTimeout (p : PortId) (s : State) : Host.Outcome State Fault Refusal :=
  s.live fun s => s.receiving p false

/-- CONSOLE_START_BYTE (R155). -/
def execConsoleStartByte (p : PortId) (s : State) : Host.Outcome State Fault Refusal := s.live fun s => s.receiving p true

/-- CONSOLE_LENGTH_OVER_256 (R155). -/
def execConsoleLengthOver256 (p : PortId) (s : State) : Host.Outcome State Fault Refusal :=
  s.live fun s => s.receiving p false

/-- RESPONSE_SEND (R166). -/
def execResponseSend (p : PortId) (s : State) : Host.Outcome State Fault Refusal := s.live fun s => s.responseSend p

/-- RESPONSE_SENT (R156, R185). -/
def execResponseSent (p : PortId) (s : State) : Host.Outcome State Fault Refusal := s.live fun s => s.responseSentNow p

/-- REPORT_SEND (R170). -/
def execReportSend (p : PortId) (s : State) : Host.Outcome State Fault Refusal := s.live fun s => s.reportSend p

/-- REPORT_SENT (R166). -/
def execReportSent (p : PortId) (s : State) : Host.Outcome State Fault Refusal := s.live fun s => s.reportSent p

/-- SILENCE_TIMEOUT (R156). -/
def execSilenceTimeout (p : PortId) (s : State) : Host.Outcome State Fault Refusal :=
  s.live fun s => (s.silenceExpired p).evalOutputs

/-- REFRESH_DUE (R171). -/
def execRefreshDue (p : PortId) (s : State) : Host.Outcome State Fault Refusal := s.live fun s => s.refreshDue p

/-- DELAY_EXPIRY (R163). -/
def execDelayExpiry (p : PortId) (s : State) : Host.Outcome State Fault Refusal := s.live fun s => s.delayExpired p

/-! ### Branches -/

/-- ROUND_TIMER_EXPIRY (R140). -/
def execRoundTimerExpiry (b : BranchId) (s : State) : Host.Outcome State Fault Refusal :=
  s.live fun s => s.nextRoundIfDue b

/-- STATION_REPLY_FRAME (R143, R144, R151). -/
def execStationReplyFrame (b : BranchId) (frame : List Byte) (s : State) : Host.Outcome State Fault Refusal :=
  s.live fun s => (s.stationFrame b frame).evalOutputs

/-- REPLY_DEADLINE (R143, R145). -/
def execReplyDeadline (b : BranchId) (s : State) : Host.Outcome State Fault Refusal :=
  s.live fun s => (s.deadlinePassed b).evalOutputs

/-- R143: the branch receiver collects a frame, or hunts. -/
def State.listening (s : State) (b : BranchId) (collecting : Bool) : State :=
  s.modBranch b fun x => { x with collecting := collecting }

/-- BRANCH_RECEIVE_TIMEOUT (R143). -/
def execBranchReceiveTimeout (b : BranchId) (s : State) : Host.Outcome State Fault Refusal :=
  s.live fun s => s.listening b false

/-- BRANCH_START_BYTE (R143). -/
def execBranchStartByte (b : BranchId) (s : State) : Host.Outcome State Fault Refusal := s.live fun s => s.listening b true

/-- BRANCH_DATA_LENGTH_OVER_8 (R143). -/
def execBranchDataLengthOver8 (b : BranchId) (s : State) : Host.Outcome State Fault Refusal :=
  s.live fun s => s.listening b false

/-! ### Door timers -/

/-- R60: the reversal instant of a door in REVERSING. -/
def State.reversed (s : State) (i : DoorId) : State :=
  match (s.door i).state with
  | .reversing dir => if (s.door i).mustWait dir s.runCount then s else s.setState i dir.driving
  | _ => s

/-- REVERSAL_INSTANT (R60). -/
def execReversalInstant (d : DoorId) (s : State) : Host.Outcome State Fault Refusal := s.live fun s => s.reversed d

/-- R105: the stroke request of a lead-in that has expired. -/
def LeadIn.request (l : LeadIn) : StrokeRequest :=
  { direction := .close, cause := l.cause, arrival := l.expiry
    cls := match l.cause with
      | .console _ => 1
      | _ => 0 }

/-- R105: a lead-in expires. -/
def State.leadInExpired (s : State) (i : DoorId) : State :=
  match (s.door i).state, (s.door i).leadIn with
  | .warning, some l => if l.expiry ≤ s.runCount then s.request i l.request else s
  | _, _ => s

/-- LEAD_IN_EXPIRY (R105). -/
def execLeadInExpiry (d : DoorId) (s : State) : Host.Outcome State Fault Refusal :=
  s.live fun s => (s.leadInExpired d).evalOutputs

/-- R95: a reclose timer expires. -/
def State.recloseExpired (s : State) (i : DoorId) : State :=
  if (s.door i).state = .recloseWait && (s.door i).reclose.any fun e => e ≤ s.runCount then
    (s.enterWarning i .reclose).setSource i .reclose
  else s

/-- RECLOSE_TIMER_EXPIRY (R95). -/
def execRecloseTimerExpiry (d : DoorId) (s : State) : Host.Outcome State Fault Refusal :=
  s.live fun s => s.recloseExpired d

/-- TAIL_EXPIRY (R108). -/
def execTailExpiry (d : DoorId) (s : State) : Host.Outcome State Fault Refusal := s.live fun s => s.tailExpired d

/-- SIGNAL_TEST_EXPIRY (R112). -/
def execSignalTestExpiry (d : DoorId) (s : State) : Host.Outcome State Fault Refusal := s.live fun s => s.testExpired d

/-! ### Power units and cabinet lines -/

/-- AGE_TIMER_EXPIRY (R124). -/
def execAgeTimerExpiry (u : UnitId) (s : State) : Host.Outcome State Fault Refusal := s.live fun s => s.ageExpired u

/-- START_TIMER_EXPIRY (R125). -/
def execStartTimerExpiry (u : UnitId) (s : State) : Host.Outcome State Fault Refusal :=
  s.live fun s => (s.startExpired u).evalOutputs

/-- HOLDOFF_TIMER_EXPIRY (R129). -/
def execHoldoffTimerExpiry (u : UnitId) (s : State) : Host.Outcome State Fault Refusal :=
  s.live fun s => s.holdoffExpired u

/-- PRESS_LOW_CHANGE (R119, R130). -/
def execPressLowChange (u : UnitId) (active : Bool) (s : State) : Host.Outcome State Fault Refusal :=
  s.live fun s => (s.pressureChanged u active).evalOutputs

/-- DRIVE_CUTOFF_ACTIVE (R135). -/
def execDriveCutoffActive (s : State) : Host.Outcome State Fault Refusal := s.live fun s => s.cutoffActive.evalOutputs

/-- DRIVE_CUTOFF_RELEASE (R136). -/
def execDriveCutoffRelease (s : State) : Host.Outcome State Fault Refusal := s.live State.cutoffReleased

/-- CLOSE_ALL_CHANGE (R80). -/
def execCloseAllChange (active : Bool) (s : State) : Host.Outcome State Fault Refusal :=
  s.live fun s => (s.closeAllChanged active).evalOutputs

/-- SYNC_IN_EDGE (R177). -/
def execSyncInEdge (s : State) : Host.Outcome State Fault Refusal := s.live State.syncEdge

/-- TRIM_STEP (R175). -/
def execTrimStep (s : State) : Host.Outcome State Fault Refusal := s.live State.trimExpired

/-- SAVE_COMPLETION (R181). -/
def execSaveCompletion (s : State) : Host.Outcome State Fault Refusal := s.live fun s => s.saveCompleted.evalOutputs

end Sys2Proof.Machine
end

