-- ==== Sys2Proof/Machine/Dispatch.lean ====
section
/-! DEFINITION. One arm per command of the table, each a call of the command's meaning. -/

namespace Sys2Proof.Machine

def exec (i : Instr) (s : State) : Host.Outcome State Fault Refusal :=
  match i with
  | .powerOn key closeAll cutoff pressLow sync => Sys2Proof.Machine.execPowerOn key closeAll cutoff pressLow sync s
  | .consoleFrame p frame => Sys2Proof.Machine.execConsoleFrame p frame s
  | .consoleReceiveTimeout p => Sys2Proof.Machine.execConsoleReceiveTimeout p s
  | .responseSend p => Sys2Proof.Machine.execResponseSend p s
  | .responseSent p => Sys2Proof.Machine.execResponseSent p s
  | .reportSend p => Sys2Proof.Machine.execReportSend p s
  | .reportSent p => Sys2Proof.Machine.execReportSent p s
  | .silenceTimeout p => Sys2Proof.Machine.execSilenceTimeout p s
  | .refreshDue p => Sys2Proof.Machine.execRefreshDue p s
  | .fetchDoorRecord p n => Sys2Proof.Machine.execFetchDoorRecord p n s
  | .fetchDoorSettings p n => Sys2Proof.Machine.execFetchDoorSettings p n s
  | .fetchDoorPending p n => Sys2Proof.Machine.execFetchDoorPending p n s
  | .fetchZoneSummary p n => Sys2Proof.Machine.execFetchZoneSummary p n s
  | .fetchUnit p n => Sys2Proof.Machine.execFetchUnit p n s
  | .fetchHolds p => Sys2Proof.Machine.execFetchHolds p s
  | .fetchClock p => Sys2Proof.Machine.execFetchClock p s
  | .fetchPortStatus p n => Sys2Proof.Machine.execFetchPortStatus p n s
  | .fetchIdentity p => Sys2Proof.Machine.execFetchIdentity p s
  | .close p t => Sys2Proof.Machine.execClose p t s
  | .openDoor p t => Sys2Proof.Machine.execOpenDoor p t s
  | .stop p t => Sys2Proof.Machine.execStop p t s
  | .service p t value => Sys2Proof.Machine.execService p t value s
  | .holdZones p t => Sys2Proof.Machine.execHoldZones p t s
  | .releaseZones p t => Sys2Proof.Machine.execReleaseZones p t s
  | .releaseForeign p t => Sys2Proof.Machine.execReleaseForeign p t s
  | .resetFaults p t => Sys2Proof.Machine.execResetFaults p t s
  | .settingsHold p value => Sys2Proof.Machine.execSettingsHold p value s
  | .signalTest p t => Sys2Proof.Machine.execSignalTest p t s
  | .resetUnit p t => Sys2Proof.Machine.execResetUnit p t s
  | .ack p t => Sys2Proof.Machine.execAck p t s
  | .ackPort p t => Sys2Proof.Machine.execAckPort p t s
  | .ackUnit p t => Sys2Proof.Machine.execAckUnit p t s
  | .clockLoad p day ms => Sys2Proof.Machine.execClockLoad p day ms s
  | .clockAdjust p delta => Sys2Proof.Machine.execClockAdjust p delta s
  | .clockArm p day ms => Sys2Proof.Machine.execClockArm p day ms s
  | .clockDisarm p => Sys2Proof.Machine.execClockDisarm p s
  | .save p => Sys2Proof.Machine.execSave p s
  | .lock p => Sys2Proof.Machine.execLock p s
  | .restart p => Sys2Proof.Machine.execRestart p s
  | .marker p word => Sys2Proof.Machine.execMarker p word s
  | .delay p ms => Sys2Proof.Machine.execDelay p ms s
  | .delayExpiry p => Sys2Proof.Machine.execDelayExpiry p s
  | .direct p branch drop kind => Sys2Proof.Machine.execDirect p branch drop kind s
  | .setLeadInTime p t value => Sys2Proof.Machine.execSetLeadInTime p t value s
  | .setRecloseDelay p t value => Sys2Proof.Machine.execSetRecloseDelay p t value s
  | .setStrokeLimit p t value => Sys2Proof.Machine.execSetStrokeLimit p t value s
  | .setDeadTime p t value => Sys2Proof.Machine.execSetDeadTime p t value s
  | .setClosedBand p t value => Sys2Proof.Machine.execSetClosedBand p t value s
  | .setOpenBand p t value => Sys2Proof.Machine.execSetOpenBand p t value s
  | .setStallWindow p t value => Sys2Proof.Machine.execSetStallWindow p t value s
  | .setStallDelta p t value => Sys2Proof.Machine.execSetStallDelta p t value s
  | .setConfirmCount p t value => Sys2Proof.Machine.execSetConfirmCount p t value s
  | .setTailTime p t value => Sys2Proof.Machine.execSetTailTime p t value s
  | .setInstalled p t value => Sys2Proof.Machine.execSetInstalled p t value s
  | .setBranch p t value => Sys2Proof.Machine.execSetBranch p t value s
  | .setDrop p t value => Sys2Proof.Machine.execSetDrop p t value s
  | .setZone p t value => Sys2Proof.Machine.execSetZone p t value s
  | .setUnit p t value => Sys2Proof.Machine.execSetUnit p t value s
  | .setGeometry p t closedCount openCount => Sys2Proof.Machine.execSetGeometry p t closedCount openCount s
  | .setLabel p t text => Sys2Proof.Machine.execSetLabel p t text s
  | .setSlotLimit p t value => Sys2Proof.Machine.execSetSlotLimit p t value s
  | .setStartTime p t value => Sys2Proof.Machine.execSetStartTime p t value s
  | .setHoldoff p t value => Sys2Proof.Machine.execSetHoldoff p t value s
  | .setAgeTime p t value => Sys2Proof.Machine.execSetAgeTime p t value s
  | .setUrgentCount p t value => Sys2Proof.Machine.execSetUrgentCount p t value s
  | .setEnable p t value => Sys2Proof.Machine.execSetEnable p t value s
  | .setRoundPeriod p t value => Sys2Proof.Machine.execSetRoundPeriod p t value s
  | .setReplyTimeout p t value => Sys2Proof.Machine.execSetReplyTimeout p t value s
  | .setLostThreshold p t value => Sys2Proof.Machine.execSetLostThreshold p t value s
  | .setPortRole p t value => Sys2Proof.Machine.execSetPortRole p t value s
  | .setSilenceTime p t value => Sys2Proof.Machine.execSetSilenceTime p t value s
  | .setReportsEnabled p t value => Sys2Proof.Machine.execSetReportsEnabled p t value s
  | .setReportSpacing p t value => Sys2Proof.Machine.execSetReportSpacing p t value s
  | .setRefreshPeriod p t value => Sys2Proof.Machine.execSetRefreshPeriod p t value s
  | .setStartClosed p t value => Sys2Proof.Machine.execSetStartClosed p t value s
  | .setFaultAlarmMask p t mask => Sys2Proof.Machine.execSetFaultAlarmMask p t mask s
  | .setVesselIdentity p t text => Sys2Proof.Machine.execSetVesselIdentity p t text s
  | .setClockTrim p t interval direction => Sys2Proof.Machine.execSetClockTrim p t interval direction s
  | .roundTimerExpiry b => Sys2Proof.Machine.execRoundTimerExpiry b s
  | .stationReplyFrame b frame => Sys2Proof.Machine.execStationReplyFrame b frame s
  | .replyDeadline b => Sys2Proof.Machine.execReplyDeadline b s
  | .branchReceiveTimeout b => Sys2Proof.Machine.execBranchReceiveTimeout b s
  | .reversalInstant d => Sys2Proof.Machine.execReversalInstant d s
  | .leadInExpiry d => Sys2Proof.Machine.execLeadInExpiry d s
  | .recloseTimerExpiry d => Sys2Proof.Machine.execRecloseTimerExpiry d s
  | .tailExpiry d => Sys2Proof.Machine.execTailExpiry d s
  | .signalTestExpiry d => Sys2Proof.Machine.execSignalTestExpiry d s
  | .ageTimerExpiry u => Sys2Proof.Machine.execAgeTimerExpiry u s
  | .startTimerExpiry u => Sys2Proof.Machine.execStartTimerExpiry u s
  | .holdoffTimerExpiry u => Sys2Proof.Machine.execHoldoffTimerExpiry u s
  | .pressLowChange u active => Sys2Proof.Machine.execPressLowChange u active s
  | .driveCutoffActive => Sys2Proof.Machine.execDriveCutoffActive s
  | .driveCutoffRelease => Sys2Proof.Machine.execDriveCutoffRelease s
  | .closeAllChange active => Sys2Proof.Machine.execCloseAllChange active s
  | .syncInEdge => Sys2Proof.Machine.execSyncInEdge s
  | .trimStep => Sys2Proof.Machine.execTrimStep s
  | .saveCompletion => Sys2Proof.Machine.execSaveCompletion s
  | .consoleStartByte p => Sys2Proof.Machine.execConsoleStartByte p s
  | .consoleLengthOver256 p => Sys2Proof.Machine.execConsoleLengthOver256 p s
  | .branchStartByte b => Sys2Proof.Machine.execBranchStartByte b s
  | .branchDataLengthOver8 b => Sys2Proof.Machine.execBranchDataLengthOver8 b s
  | .lossOfSupply => Sys2Proof.Machine.execLossOfSupply s

end Sys2Proof.Machine
end

