-- ==== Sys2Proof/Machine/Tick.lean ====
section
/-! DEFINITION. What the D48 does when no command waits: it takes the next item of a request or an event that is due, as
`schedule` chooses; with none left, the run count advances by one millisecond (R18, R165, R174, R175). -/

namespace Sys2Proof.Machine

/-- A timer has run out. -/
def expired (now : Nat) (timer : Option Nat) : Bool := timer.any fun e => e ≤ now

/-- A command, where its condition holds. -/
def when (due : Bool) (c : Instr) : List Instr := if due then [c] else []

/-- R80, R119, R135: the input has stood at its new level for `wait` ms. -/
def Input.changes (x : Input) (now wait : Nat) : Bool := x.since.any fun t => t + wait ≤ now

/-- The port events that are due (R156, R163, R166, R170, R171). -/
def State.portEvents (s : State) (p : PortId) : List Instr :=
  let q := s.port p
  when (expired s.runCount q.silenceTimer) (.silenceTimeout p)
    ++ when (q.request.any fun r => match r.wait with
        | some (.delay e) => e ≤ s.runCount
        | _ => false) (.delayExpiry p)
    ++ when (s.refreshIsDue p) (.refreshDue p)
    ++ when (q.sending.isNone && !q.queue.isEmpty) (.responseSend p)
    ++ when (q.reportReady s.runCount && q.transmitterFree) (.reportSend p)

/-- The branch events that are due (R140, R143). -/
def State.branchEvents (s : State) (b : BranchId) : List Instr :=
  when (s.roundDue b) (.roundTimerExpiry b)
    ++ when ((s.branch b).exchange.any fun x => x.deadline ≤ s.runCount) (.replyDeadline b)

/-- The door events that are due (R60, R95, R105, R108, R112). -/
def State.doorEvents (s : State) (i : DoorId) : List Instr :=
  let d := s.door i
  when (match d.state with
      | .reversing dir => !d.mustWait dir s.runCount
      | _ => false) (.reversalInstant i)
    ++ when (d.state = .warning && expired s.runCount (d.leadIn.map fun l => l.expiry)) (.leadInExpiry i)
    ++ when (d.state = .recloseWait && expired s.runCount d.reclose) (.recloseTimerExpiry i)
    ++ when (expired s.runCount d.tail) (.tailExpiry i)
    ++ when (expired s.runCount d.test) (.signalTestExpiry i)

/-- The unit events that are due (R119, R124, R125, R129). -/
def State.unitEvents (s : State) (u : UnitId) : List Instr :=
  let x := s.unit u
  when (s.unitTimerDue u .gathering) (.ageTimerExpiry u)
    ++ when (s.unitTimerDue u .starting) (.startTimerExpiry u)
    ++ when (s.unitTimerDue u .idling) (.holdoffTimerExpiry u)
    ++ when (x.pressLow.changes s.runCount Config.debounceMs) (.pressLowChange u (!x.pressLow.value))

/-- The cabinet, clock and store events that are due (R80, R135, R175, R177, R181); the drive cutoff becomes active at
the first sample that finds it so. -/
def State.deviceEvents (s : State) : List Instr :=
  when (!s.cutoff.value && s.cutoff.changes s.runCount 0) .driveCutoffActive
    ++ when (s.cutoff.value && s.cutoff.changes s.runCount Config.debounceMs) .driveCutoffRelease
    ++ when (s.closeAll.changes s.runCount Config.debounceMs) (.closeAllChange (!s.closeAll.value))
    ++ when s.sync.edge .syncInEdge
    ++ when (expired s.runCount s.clock.trimTimer) .trimStep
    ++ when (s.store.saving.any fun v => v.completion ≤ s.runCount) .saveCompletion

/-- Every event that is due at the present run count. -/
def State.dueEvents (s : State) : List Instr :=
  (portIds.map s.portEvents).flatten ++ (branchIds.map s.branchEvents).flatten ++ (doorIds.map s.doorEvents).flatten
    ++ (unitIds.map s.unitEvents).flatten ++ s.deviceEvents

/-- The ports whose requests may go on, ascending. -/
def State.readyPorts (s : State) : List PortId := portIds.filter fun p => (s.port p).ready

/-- What may be taken at one instant: the next item of a port's request, or an event that is due (R165). -/
inductive Choice where
  | item (p : PortId)
  | event (c : Instr)
  deriving DecidableEq, Repr

/-- R165: everything that may be taken now. -/
def State.choices (s : State) : List Choice := s.readyPorts.map Choice.item ++ s.dueEvents.map Choice.event

/-- R165: what is taken next is any of them, as `schedule` has it (assumption 2). -/
def State.choice (s : State) : Option Choice := s.choices[s.schedule.headD 0 % s.choices.length]?

/-- R174: one sample of an input that is debounced by time. -/
def Input.sample (x : Input) (now : Nat) : Input :=
  { x with since := if x.line = x.value then none else some (x.since.getD now) }

/-- R174, R177: one sample of SYNC_IN; a rising edge is found at an active level after an inactive one. The table has no
command for the end of a pulse, and the sample after the one that found it active finds it inactive (assumption 34). -/
def SyncInput.sample (x : SyncInput) : SyncInput :=
  { line := x.line && !x.sampled, sampled := x.line && !x.sampled, edge := x.line && !x.sampled }

/-- R18, R174, R175: the run count and the Vessel Clock advance by one millisecond, and the inputs are sampled. -/
def State.tick (s : State) : State :=
  let now := s.runCount + 1
  { s with
    runCount := now
    clock := { s.clock with time := s.clock.time.next }
    units := ⟨#[{ s.unit 0 with pressLow := (s.unit 0).pressLow.sample now },
                { s.unit 1 with pressLow := (s.unit 1).pressLow.sample now },
                { s.unit 2 with pressLow := (s.unit 2).pressLow.sample now },
                { s.unit 3 with pressLow := (s.unit 3).pressLow.sample now }], rfl⟩
    closeAll := s.closeAll.sample now
    cutoff := s.cutoff.sample now
    sync := s.sync.sample }

/-- What has been chosen is taken: an item at once, an event by the next step. -/
def State.take (s : State) : Choice → State
  | .item p => s.goOn p
  | .event c => { s with pending := [c] }

/-- What a step does with no command waiting: an item or an event that may be taken is; with none left, a millisecond
passes (assumptions 1 and 2). -/
def State.idle (s : State) : State :=
  if s.powered then
    match s.choice with
    | some c => { s with schedule := s.schedule.tail }.take c
    | none => s.tick
  else s

end Sys2Proof.Machine
end

