-- ==== Sys2Proof/Safety.lean ====
section
/-! DEFINITION. The terms that claims use: when a port is free to take a command, what an answered item leaves, what a
piece of work may change and what it keeps, and the invariants of the machine. -/

namespace Sys2Proof.Machine

/-! ### Ports that are free to take a command -/

/-- The D48 has supply, and no request in execution can go on by itself: each waits for a DELAY or a DIRECT. -/
abbrev State.Quiet (s : State) : Prop := s.powered = true ∧ ∀ q, (s.port q).ready = false

/-- R157: the D48 has supply, and an item command of this port is executed, not answered BUSY. -/
abbrev State.Free (s : State) (p : PortId) : Prop := s.powered = true ∧ (s.port p).request = none

/-- R83: the port is free and its role is COMMAND. -/
abbrev State.MayOrder (s : State) (p : PortId) : Prop := s.Free p ∧ (s.port p).role = .command

/-- R182: the port may order, and the commissioning lock is open. -/
abbrev State.MayInstall (s : State) (p : PortId) : Prop := s.MayOrder p ∧ s.store.lockOpen = true

/-- R151: the pending direct exchange of a branch, if there is one, is of another drop. -/
abbrev Branch.NoDirectFor (x : Branch) (d : DropId) : Prop := ∀ y, x.pendingDirect = some y → y.drop ≠ d

/-- A run of `n` steps. -/
def Runs : Nat → State → State → Prop
  | 0, s, t => s = t
  | n + 1, s, t => ∃ u, step s = .next u ∧ Runs n u t

/-- R156, R157: the state in which the one item of an item command is executed: its port ACTIVE, its silence timer
stopped, the request present. -/
def State.taking (s : State) (p : PortId) (it : Item) : State := s.beginRequest p { token := 0, items := [it] }

/-- The response of an item command. -/
def responseOf (e : List Byte) : Response := { token := 0, busy := false, entries := [e], carriesRestart := false }

/-- The entry of an ORDER (R162, R190). -/
def orderEntry (r : Result) (count : Nat) : List Byte := plainEntry 2 r count

/-- The entry of a SET (R161, R190). -/
def setEntry (r : Result) : List Byte := plainEntry 3 r 0

/-! ### What work may change -/

/-- A port in whose state only the marks of R168 may differ: the changed-door set and the summary changed flag. -/
def Port.SameButMarks (q r : Port) : Prop := r = { q with changed := r.changed, summaryChanged := r.summaryChanged }

/-- Work on doors and power units: nothing else of the D48 differs but the marks of R168. -/
structure OnlyDoors (s t : State) : Prop where
  rest : t = { s with doors := t.doors, units := t.units, ports := t.ports }
  ports : ∀ p, (s.port p).SameButMarks (t.port p)

/-- A port in which, beside the marks of R168, the request in execution and the transmit queue may differ: a waiting
DIRECT is answered, and its request may end with it. -/
def Port.SameButRequest (q r : Port) : Prop :=
  r = { q with changed := r.changed, summaryChanged := r.summaryChanged, request := r.request, queue := r.queue }

/-- Work on a branch: doors, units and branches may differ, and of the ports the marks of R168, the requests
and the transmit queues. -/
structure OnlyLinks (s t : State) : Prop where
  rest : t = { s with doors := t.doors, units := t.units, branches := t.branches, ports := t.ports }
  ports : ∀ p, (s.port p).SameButRequest (t.port p)

/-- The outputs agree with the state they are evaluated from (R173). -/
abbrev State.OutputsHold (s : State) : Prop :=
  s.outputs = { fault := s.faultOut, closure := s.closureOut, allClosed := s.allClosedOut }

/-- Every door but one is as it was. -/
def OtherDoors (i : DoorId) (s t : State) : Prop := ∀ j, j ≠ i → t.door j = s.door j

/-- Every port but one is as it was, but for the marks of R168. -/
def OtherPorts (p : PortId) (s t : State) : Prop := ∀ q, q ≠ p → (s.port q).SameButMarks (t.port q)

/-- The port after an item command answered with entry `e`: as it was, but for the marks, its activity, its stopped
silence timer and the response that has joined its queue (R156, R157). -/
def Port.AnsweredWith (e : List Byte) (q r : Port) : Prop :=
  r = { q with
    active := true, silenceTimer := none, queue := q.queue ++ [responseOf e]
    changed := r.changed, summaryChanged := r.summaryChanged }

/-- What every item command answered with entry `e` leaves of the ports. -/
def Answered (p : PortId) (e : List Byte) (s t : State) : Prop :=
  (s.port p).AnsweredWith e (t.port p) ∧ OtherPorts p s t

/-- R164: the request and the transmit queue of a port whose request `r` waited for a DIRECT that has been answered with
entry `e`: the request goes on behind the item or, after its last item, its response has joined the queue. -/
def Port.DirectAnswered (r : Request) (e : List Byte) (q w : Port) : Prop :=
  (r.index + 1 < r.items.length → w.queue = q.queue ∧
    w.request = some { r with entries := r.entries ++ [e], index := r.index + 1, wait := none }) ∧
  (r.items.length ≤ r.index + 1 → w.request = none ∧
    w.queue = q.queue ++ [{ token := r.token, busy := false, entries := r.entries ++ [e], carriesRestart := false }])

/-- Every power unit but one is as it was. -/
def OtherUnits (u : UnitId) (s t : State) : Prop := ∀ v, v ≠ u → t.unit v = s.unit v

/-- Every branch but one is as it was. -/
def OtherBranches (b : BranchId) (s t : State) : Prop := ∀ c, c ≠ b → t.branch c = s.branch c

/-- The door waits in no admission list. -/
abbrev State.Unlisted (s : State) (i : DoorId) : Prop := ∀ u, ∀ e ∈ (s.unit u).list, e.door ≠ i

/-- R103, R104: a door that has entered WARNING at `now` with a lead-in of cause `c`, timed with its lead-in time. -/
def Door.warned (d : Door) (c : Cause) (now : Nat) : Door :=
  { d with
    state := .warning, leadIn := some { cause := c, expiry := now + d.settings.leadInTime * 100 }
    reclose := none, tail := none, test := none }

/-- R54, R14: a door that has entered a rest state, its pending record applied unless the settings hold is on, before
the closure demand. -/
def Door.rested (d : Door) (st : DoorState) (hold : Bool) : Door :=
  { d with
    state := st, leadIn := none, reclose := none, tail := if st = .closed then d.tail else none
    test := if st.isRest then d.test else none
    settings := if hold then d.settings else d.settings.applied d.pending
    pending := if hold then d.pending else OpRow.noPending }

/-- R21: a door for which a fault kind has been raised at the clock value `now`. -/
def Door.faulted (d : Door) (k : FaultKind) (now : Stamp) : Door :=
  { d with faults := addFault d.faults k, unacked := addFault d.unacked k, lastFault := some now }

/-- R21: a door that a condition fault has left. -/
def Door.cleared (d : Door) (k : FaultKind) : Door :=
  { d with faults := removeFault d.faults k, unacked := removeFault d.unacked k }

/-- R13, R15: a door for which a value has been staged for a setting, and applied at once where R15 says so. -/
def Door.staged (d : Door) (k : OpSetting) (v : Nat) (hold : Bool) : Door :=
  if d.state.isRest && !hold then
    { d with settings := d.settings.applied (d.pending.set k (some v)), pending := OpRow.noPending }
  else { d with pending := d.pending.set k (some v) }

/-- R36, R53: an unsettled door at rest that has followed its UNKNOWN indication. -/
def Door.blanked (d : Door) (hold : Bool) : Door :=
  if d.state = .unknown then d.unsettled else d.unsettled.rested .unknown hold

/-- R23: a door whose drive command has gone OFF at `now`. -/
def Door.undriven (d : Door) (now : Nat) : Door :=
  { d with driveOff := if d.state.drive.isSome && d.lastDriven.isSome then some now else d.driveOff }

/-- R68: a door halted into a rest state at `now`. -/
def Door.haltedAt (d : Door) (st : DoorState) (hold : Bool) (now : Nat) : Door :=
  { (d.undriven now).rested st hold with stroke := none }

/-- R69: a door cut with an event fault at `now`. -/
def Door.cutWith (d : Door) (k : FaultKind) (s : State) : Door :=
  (d.faulted k s.clock.time).haltedAt d.indication.restState s.settingsHold s.runCount

/-- R54, R58: a door that has entered a driving or waiting state. -/
def Door.moving (d : Door) (st : DoorState) : Door :=
  { d with state := st, leadIn := none, reclose := none, tail := none, test := none }

/-- R59: a door that has been admitted at `now` for an entry. -/
def Door.admittedFor (d : Door) (e : Entry) (now : Nat) : Door :=
  { d.moving (if d.mustWait e.direction now then .reversing e.direction else e.direction.driving) with
    stroke := some e.stroke }

/-- R52: a door whose poll at `now` carries its drive command: the first such poll issues the drive. -/
def Door.polled (d : Door) (now : Nat) : Door :=
  match d.state.drive, d.stroke with
  | some dir, some r =>
    if r.driveIssued.isSome then d
    else
      { d with
        stroke := some { r with
          driveIssued := some now, startPosition := d.position
          mark := d.position.map fun p => { position := p, instant := now } }
        lastDriven := some dir, driveOff := none }
  | _, _ => d

/-! ### Rounds -/

/-- R142, R151: a branch that has sent a command frame at `now`. -/
def Branch.sent (x : Branch) (now : Nat) (d : DropId) (k : ExchangeKind) (drive : Drive) (g : Signals) : Branch :=
  { x with
    exchange := some { drop := d, kind := k, sequence := x.sequence, deadline := now + x.replyTimeout }
    sequence := (x.sequence + 1) % 16
    broken := x.broken.filter fun e => e ≠ (d, x.sequence)
    lastSent := some { drop := d, kind := k, sequence := x.sequence, drive := drive, signals := g } }

/-- R140: the drops still to be polled in the round, from the first one that a door claims. -/
def State.toPoll (s : State) (b : BranchId) : List DropId :=
  (s.branch b).members.dropWhile fun d => (s.claimant b d).isNone

/-- R140: the round timer has expired while the round was still running. -/
def State.roundLate (s : State) (b : BranchId) : Bool :=
  (s.branch b).enable && (s.branch b).roundTimer.any fun e => e ≤ s.runCount

/-- R140: the drop polled as an exchange of the branch ends: the round's next, or the first of a round that starts at
once. -/
def State.nextPoll (s : State) (b : BranchId) : Option DropId :=
  match s.toPoll b with
  | d :: _ => some d
  | [] => if s.roundLate b then (s.claimedDrops b).head? else none

/-- R140, R141: a branch that the end of an exchange has left as `y`, its round having gone on, before the next frame is
sent: a round at its end is counted, and one that ends late is followed by the next at once. -/
def State.wentOn (s : State) (b : BranchId) (y : Branch) : Branch :=
  match s.toPoll b with
  | _ :: rest => { y with members := rest }
  | [] =>
    let z := { y with members := [], roundCounter := nextRound y.roundCounter }
    if s.roundLate b then
      match s.claimedDrops b with
      | _ :: rest => { z with members := rest, roundTimer := some (s.runCount + z.roundPeriod) }
      | [] => { z with roundTimer := some (s.runCount + z.roundPeriod), roundCounter := nextRound z.roundCounter }
    else z

/-- R140 to R142: an exchange of the branch has ended and left it as `y`, and its round has gone on: with no drop to
poll nothing is sent, and otherwise the next drop is polled with the drive and signal command of its door. -/
def GoesOn (s : State) (b : BranchId) (y : Branch) (t : State) : Prop :=
  match s.nextPoll b with
  | none => t.branch b = s.wentOn b y
  | some d => ∀ j, s.claimant b d = some j → y.NoDirectFor d →
      t.branch b = (s.wentOn b y).sent s.runCount d .regular (t.driveCommand j) (t.signalCommand j)

/-- The door is the one whose drop is polled as an exchange of the branch ends. -/
def State.polls (s : State) (b : BranchId) (j : DoorId) : Bool :=
  (s.nextPoll b).any fun d => s.claimant b d = some j

/-- R145: a pair after a miss. -/
def DropLink.missed (l : DropLink) (threshold : Nat) : DropLink :=
  { missCount := min (l.missCount + 1) 8, lost := l.lost || decide (threshold ≤ l.missCount + 1) }

/-- R145: the miss makes the drop LOST. -/
def State.losesDrop (s : State) (b : BranchId) (d : DropId) : Bool :=
  !(s.link b d).lost && decide ((s.branch b).lostThreshold ≤ (s.link b d).missCount + 1)

/-! ### Requests of a unit -/

/-- R121 to R126: the unit keeps an entry that joins its list waiting: it does not run, or it has no slot free. -/
def PowerUnit.waits (x : PowerUnit) (cutoff : Bool) : Bool :=
  match x.state with
  | .stopped | .gathering | .starting => true
  | .running | .idling => cutoff || decide (x.slotLimit ≤ x.holders.length)
  | .failed => false

/-- R121, R123, R124, R129: a unit after an entry has joined its list at `now` and waits. -/
def PowerUnit.joined (x : PowerUnit) (e : Entry) (now : Nat) : PowerUnit :=
  let y := { x with list := insertEntry e (removeEntry e.door x.list) }
  let urgent := e.cls = 0 ∨ y.urgentCount ≤ y.list.length
  match x.state with
  | .stopped =>
    if urgent ∨ y.ageTime = 0 then { y with state := .starting, timer := some (now + y.startTime) }
    else { y with state := .gathering, timer := some (now + y.ageTime) }
  | .gathering => if urgent then { y with state := .starting, timer := some (now + y.startTime) } else y
  | .idling => { y with state := .running, timer := none }
  | _ => y

/-- R126, R129: the unit admits a request of the door at once: it runs or idles, nothing else waits, and a slot is
free. -/
def PowerUnit.admitsAlone (x : PowerUnit) (i : DoorId) (cutoff : Bool) : Bool :=
  (x.state = .running || x.state = .idling) && (removeEntry i x.list).isEmpty
    && decide (x.holders.length < x.slotLimit) && !cutoff

/-- R126, R129: a unit that has admitted the one door that waited. -/
def PowerUnit.admitted (x : PowerUnit) (i : DoorId) : PowerUnit :=
  { x with
    state := .running, timer := if x.state = .idling then none else x.timer, list := []
    holders := insertDoor i x.holders }

/-- R122, R124, R128: a unit whose list a door's entry has left at `now`. -/
def PowerUnit.left (x : PowerUnit) (i : DoorId) (now : Nat) : PowerUnit :=
  let y := { x with list := removeEntry i x.list }
  if x.state = .gathering ∧ y.list = [] then { y with state := .stopped, timer := none }
  else if x.state = .running ∧ x.holders = [] ∧ y.list = [] then
    { y with state := .idling, timer := some (now + y.holdoff * 1000) }
  else y

/-! ### Admission runs -/

/-- R126: how many entries an admission run of the unit takes: none unless the unit runs and the cutoff is inactive, and
else as many as wait and find a slot free. -/
def PowerUnit.takes (x : PowerUnit) (cutoff : Bool) : Nat :=
  if x.state = .running ∧ cutoff = false then min x.list.length (x.slotLimit - x.holders.length) else 0

/-- R126: the unit after an admission run: entries from the head of its list on have left it, and their doors have joined
the slot holders. -/
def PowerUnit.ran (x : PowerUnit) (cutoff : Bool) : PowerUnit :=
  { x with
    list := x.list.drop (x.takes cutoff)
    holders := (x.list.take (x.takes cutoff)).foldl (fun l e => insertDoor e.door l) x.holders }

/-- R126: the entry for which an admission run of the unit admits a door, if it does. -/
def PowerUnit.admits (x : PowerUnit) (cutoff : Bool) (j : DoorId) : Option Entry :=
  (x.list.take (x.takes cutoff)).find? fun e => e.door = j

/-- R59, R126: a door after an admission run at `now` that has admitted it for an entry, or has not. -/
def Door.afterRun (d : Door) (e : Option Entry) (now : Nat) : Door :=
  match e with
  | some e => d.admittedFor e now
  | none => d

/-- R126, R128: a unit that at `now` has gone to IDLING if it was RUNNING with no slot held and an empty list. -/
def PowerUnit.idled (x : PowerUnit) (now : Nat) : PowerUnit :=
  if x.state = .running ∧ x.holders = [] ∧ x.list = [] then
    { x with state := .idling, timer := some (now + x.holdoff * 1000) }
  else x

/-- R128: a unit that a door has left as a slot holder, before the admission run that follows. -/
def PowerUnit.without (x : PowerUnit) (i : DoorId) : PowerUnit :=
  { x with holders := x.holders.filter fun j => j ≠ i }

/-- R128: the door has left the slot holders of its unit, and where no door waits there twice, an admission run has
followed, and then IDLING where nothing was left. `rest` says what the event has done to every other door after that. -/
def FreesSlot (s : State) (i : DoorId) (rest : DoorId → Door → Door) (t : State) : Prop :=
  i ∉ (t.unit (s.door i).unit).holders ∧ OtherUnits (s.door i).unit s t ∧
    (((s.unit (s.door i).unit).list.map fun e => e.door).Nodup →
      t.unit (s.door i).unit = (((s.unit (s.door i).unit).without i).ran s.cutoff.value).idled s.runCount ∧
      ∀ j, j ≠ i → t.door j =
        rest j ((s.door j).afterRun (((s.unit (s.door i).unit).without i).admits s.cutoff.value j) s.runCount))

/-- R70: what a door that loses its indication has in flight has ended: an entry has left its list, a stroke, of a door
in no list, has freed its slot, and no unit has changed with a door at rest, in WARNING or in RECLOSE_WAIT. `rest` says
what the event has done to every other door after that. -/
def EndsWork (s : State) (i : DoorId) (rest : DoorId → Door → Door) (t : State) : Prop :=
  ((s.door i).state.isRest = true ∨ (s.door i).state ∈ [.warning, .recloseWait] →
    t.units = s.units ∧ ∀ j, j ≠ i → t.door j = rest j (s.door j)) ∧
  (∀ dir, (s.door i).state = .queued dir →
    t.unit (s.door i).unit = (s.unit (s.door i).unit).left i s.runCount ∧ OtherUnits (s.door i).unit s t ∧
    ∀ j, j ≠ i → t.door j = rest j (s.door j)) ∧
  ((s.door i).state.hasStroke = true → s.Unlisted i → FreesSlot s i rest t)

/-- R145, steps 2 to 4, and R70: the door has lost its indication with its drop, LINK_LOST is raised, and what it has in
flight has ended. `rest` says what the event has done to every other door after that. -/
def LosesDrop (s : State) (i : DoorId) (rest : DoorId → Door → Door) (t : State) : Prop :=
  EndsWork s i rest t ∧
  ∀ d, d = (if hasFault (s.door i).faults .linkLost then s.door i else (s.door i).faulted .linkLost s.clock.time) →
    ((s.door i).state.isRest = true → t.door i = d.blanked s.settingsHold) ∧
    ((s.door i).state ∈ [.warning, .recloseWait] ∨ (∃ dir, (s.door i).state = .queued dir) →
      t.door i = d.unsettled.rested .unknown s.settingsHold) ∧
    ((s.door i).state.hasStroke = true → s.Unlisted i →
      t.door i = d.unsettled.haltedAt .unknown s.settingsHold s.runCount)

/-- R52: what the poll sent as an exchange of the branch ends does to a door. -/
def State.ifPolled (s : State) (b : BranchId) (j : DoorId) (d : Door) : Door :=
  if s.polls b j then d.polled s.runCount else d

/-- R55, R57, R59: a door, standing as `d`, has made the stroke request of entry `e`: it waits in its unit's list, or is
admitted at once. -/
def Requested (s : State) (i : DoorId) (d : Door) (e : Entry) (t : State) : Prop :=
  ((s.unit d.unit).waits s.cutoff.value = true →
    t.door i = d.moving (.queued e.direction) ∧ t.unit d.unit = (s.unit d.unit).joined e s.runCount) ∧
  ((s.unit d.unit).admitsAlone i s.cutoff.value = true →
    t.door i = d.admittedFor e s.runCount ∧ t.unit d.unit = (s.unit d.unit).admitted i)

/-- R61, R62: a driving or reversing door, standing as `d`, after a direction change at `now`. -/
def Door.turned (d : Door) (dir : Dir) (c : Cause) (cls now : Nat) : Door :=
  { (d.undriven now).moving (if (d.undriven now).mustWait dir now then .reversing dir else dir.driving) with
    stroke := some { direction := dir, cause := c, cls := cls, driveIssued := none, startPosition := none, mark := none
                     estimate := none, lateForecast := false } }

/-! ### Debouncing -/

/-- R34, R37: a debounced input with value `v` and change count `n` has taken a reply that carries `r`, with a confirm
count of `c`, or as the initial take of a door in AWAITING: its value is then `w` and its count `m`. -/
def Debounced (awaiting : Bool) (c : Nat) (v : Bool) (n : Nat) (r w : Bool) (m : Nat) : Prop :=
  (awaiting = true → w = r ∧ m = 0) ∧
    (awaiting = false →
      (r = v → w = v ∧ m = 0) ∧
      (r ≠ v → c ≤ min (n + 1) 4 → w = r ∧ m = 0) ∧
      (r ≠ v → min (n + 1) 4 < c → w = v ∧ m = min (n + 1) 4))

/-! ### Console orders -/

/-- R96: the order `order j`, a command of port `p`, has been executed for one door `j` of the list after another, from
`s` to `u`; its answers, in that order, are `results`. -/
def OrderedOneByOne (p : PortId) (order : DoorId → Instr) : List DoorId → List Result → State → State → Prop
  | [], [], s, u => u = s
  | j :: doors, r :: results, s, u => ∃ v, exec (order j) s = .next v ∧
      (v.port p).queue = (s.port p).queue ++ [responseOf (orderEntry r 0)] ∧ OrderedOneByOne p order doors results v u
  | _, _, _, _ => False

/-- R97: the answer of CLOSE for a door. -/
def State.closeResult (s : State) (i : DoorId) : Result :=
  let d := s.door i
  if !d.inService then .refusedService
  else if d.state = .unknown || d.eventFaulted then .refusedState
  else if s.doorHeld i && d.localOpen then .refusedMode
  else .ok

/-- R98: the answer of OPEN for a door. -/
def State.openResult (s : State) (i : DoorId) : Result :=
  let d := s.door i
  if s.doorHeld i then .refusedMode
  else if !d.inService then .refusedService
  else if d.state = .unknown || d.eventFaulted then .refusedState
  else if d.state ∈ [.closed, .halted, .warning, .queued .close] ∧ (s.unit d.unit).state = .failed then .refusedPower
  else .ok

/-- R96: the entry of a zone order from the doors' answers in their order: the first refusal, or OK, and the count of
those accepted. -/
def zoneEntry (l : List Result) : List Byte :=
  orderEntry ((l.find? fun r => r ≠ .ok).getD .ok) (l.countP fun r => r = .ok)

/-! ### Sampled inputs -/

/-- R174: the input after `n` samples, one a millisecond, the first of them at `first`. -/
def Input.sampledFrom (x : Input) (first : Nat) : Nat → Input
  | 0 => x
  | n + 1 => (x.sampledFrom first n).sample (first + n)

/-! ### Bytes -/

/-- The `n` bytes of a run of bytes from one of its places on. -/
def field (l : List Byte) (start n : Nat) : List Byte := (l.drop start).take n

/-- The bytes stand in a run of bytes where a layout puts them. -/
def LaidOut (l : List Byte) (layout : List (Nat × List Byte)) : Prop := ∀ x ∈ layout, field l x.1 x.2.length = x.2

/-- R185, steps 1 to 5: an installed door after a warm restart. -/
def Door.afterRestart (d : Door) (s : State) : Door :=
  let e := { (d.undriven s.runCount).unsettled.rested .unknown s.settingsHold with
    stroke := none, tail := none, test := none
    faults := d.faults &&& eventFaults, unacked := d.unacked &&& eventFaults }
  let f := if (s.branch d.branch).enable then e else e.faulted .branchOff s.clock.time
  if !d.inService && s.held d.zone then f.faulted .notControlled s.clock.time else f

/-- R182: the settings that the commissioning lock guards. -/
def guardedByLock : SettingWrite → Bool
  | .op _ _ => false
  | .silenceTime _ => false
  | .reportsEnabled _ => false
  | .reportSpacing _ => false
  | .refreshPeriod _ => false
  | .vesselIdentity _ => false
  | .clockTrim _ _ => false
  | .installed _ => true
  | .branch _ => true
  | .drop _ => true
  | .zone _ => true
  | .unit _ => true
  | .geometry _ _ => true
  | .label _ => true
  | .slotLimit _ => true
  | .startTime _ => true
  | .holdoff _ => true
  | .ageTime _ => true
  | .urgentCount _ => true
  | .enable _ => true
  | .roundPeriod _ => true
  | .replyTimeout _ => true
  | .lostThreshold _ => true
  | .portRole _ => true
  | .startClosed _ => true
  | .faultAlarmMask _ => true

/-! ### Invariants -/

/-- R120: the direction in which a door waits in QUEUED. -/
def DoorState.waitsFor : DoorState → Option Dir
  | .queued d => some d
  | _ => none

/-- R21: every member of a door's unacknowledged set is a member of its fault set. -/
abbrev State.FaultsLawful (s : State) : Prop := ∀ i, (s.door i).unacked &&& ~~~(s.door i).faults = 0

/-- R175: a clock value. -/
abbrev Stamp.Legal (t : Stamp) : Prop := t.day < Config.dayCount ∧ t.ms < Config.dayMs

/-- R175: the time, the capture and the armed load are clock values. -/
def State.ClockLawful (s : State) : Prop :=
  s.clock.time.Legal ∧ (∀ t, s.clock.capture = some t → t.Legal) ∧ ∀ t, s.clock.armed = some t → t.Legal

/-- R135: while the drive cutoff is active no door is in a state that drives or holds a slot. -/
abbrev State.CutoffLawful (s : State) : Prop := s.cutoff.value = true → ∀ i, (s.door i).state.hasStroke = false

/-- R20, R120, R126, R127: every door's stroke record, slot and admission list entry go with its state, and every unit's
slots, entries and state with one another:
* a door has a stroke record exactly in REVERSING, CLOSING and OPENING, and then, and only then, holds a slot of its unit;
* a door has an entry in its unit's list exactly in QUEUED, with its direction, and never two entries;
* an uninstalled door is UNKNOWN;
* the slot holders of a unit are at most its slot limit, and it has them only while RUNNING;
* the entries of a unit stand in the order of their classes;
* a STOPPED, IDLING or FAILED unit has no entry. -/
abbrev State.AdmissionLawful (s : State) : Prop :=
  (∀ i, (s.door i).stroke.isSome = (s.door i).state.hasStroke ∧
    ((s.door i).installed = false → (s.door i).state = .unknown) ∧
    ((s.entryOf i).map fun e => e.direction) = (s.door i).state.waitsFor) ∧
  ∀ u, (∀ i, i ∈ (s.unit u).holders ↔ (s.door i).unit = u ∧ (s.door i).state.hasStroke = true) ∧
    (s.unit u).holders.Nodup ∧ (s.unit u).holders.length ≤ (s.unit u).slotLimit ∧
    (∀ e ∈ (s.unit u).list, (s.door e.door).unit = u) ∧ ((s.unit u).list.map fun e => e.door).Nodup ∧
    (s.unit u).list.Pairwise (fun e f => e.cls ≤ f.cls) ∧
    ((s.unit u).state ≠ .running → (s.unit u).holders = []) ∧
    ((s.unit u).state ∈ [.stopped, .idling, .failed] → (s.unit u).list = [])

/-- The causes CONSOLE with the number of a port. -/
abbrev Cause.OfConsole (c : Cause) : Prop := c ∈ [.console 0, .console 1, .console 2]

/-- R51, R53, R70, R89, R90, R100, R102: how a door's records, indication and service go with its state, and with the
holding of its zone:
* the lead-in record is present exactly in WARNING, and the reclose timer runs exactly in RECLOSE_WAIT;
* a stroke record has the direction of its state, and no drive is issued in REVERSING;
* an unsettled door has the indication UNKNOWN, a door at rest stands as its indication says, and with the indication
  UNKNOWN no door does anything else;
* a door out of service is at rest;
* only a door of a held zone is in RECLOSE_WAIT, and one is in QUEUED(open), REVERSING-to-open or OPENING only while its
  local open is held;
* no lead-in is of cause LOCAL, and in a held zone none is of cause CONSOLE. -/
abbrev Door.Lawful (d : Door) (held : Bool) : Prop :=
  (d.leadIn.isSome = true ↔ d.state = .warning) ∧ (d.reclose.isSome = true ↔ d.state = .recloseWait) ∧
  (∀ r ∈ d.stroke, d.state ∈ [.reversing r.direction, r.direction.driving] ∧
    (d.state = .reversing r.direction → r.driveIssued = none)) ∧
  (d.phase ≠ .settled → d.indication = .unknown) ∧ (d.state.isRest = true → d.state = d.indication.restState) ∧
  (d.indication = .unknown → d.state = .unknown) ∧ (d.inService = false → d.state.isRest = true) ∧
  (d.state = .recloseWait → held = true) ∧
  (held = true → d.state ∈ [.queued .opening, .reversing .opening, .opening] → d.localOpen = true) ∧
  ∀ l ∈ d.leadIn, l.cause ≠ .localControl ∧ (held = true → ¬l.cause.OfConsole)

/-- R55, R89: the class of an entry goes with its direction and cause, and a door of a held zone has none of cause
CONSOLE. -/
abbrev Entry.Lawful (e : Entry) (held : Bool) : Prop :=
  (e.cls = 2 ↔ e.direction = .opening) ∧ (e.cls = 0 ∨ held = true → ¬e.cause.OfConsole)

/-- R51, R83, R89, R102: every door and every entry goes with the holding of the door's zone, and the holder set of a
MONITOR port is empty. -/
def State.MotionLawful (s : State) : Prop :=
  (∀ i, (s.door i).Lawful (s.doorHeld i)) ∧ (∀ u, ∀ e ∈ (s.unit u).list, e.Lawful (s.doorHeld e.door)) ∧
    ∀ p, (s.port p).role = .monitor → s.holds.console[p] = 0

/-- R6: no two installed doors of the image have one pair. -/
abbrev Image.PairsDistinct (m : Image) : Prop :=
  ∀ i j : DoorId, i ≠ j → m.doors[i].installed = true → m.doors[j].installed = true →
    (m.doors[i].branch, m.doors[i].drop) ≠ (m.doors[j].branch, m.doors[j].drop)

/-- R6: no two installed doors have one pair, in the running settings, in the image, or in the copy of a save in
progress. -/
def State.PairsLawful (s : State) : Prop :=
  (∀ i j, i ≠ j → (s.door i).installed = true → (s.door j).installed = true →
    ((s.door i).branch, (s.door i).drop) ≠ ((s.door j).branch, (s.door j).drop)) ∧
  (∀ m, s.store.image = some m → m.PairsDistinct) ∧ ∀ v, s.store.saving = some v → v.copy.PairsDistinct

/-- R139, R141: the ranges of a branch's round counter, sequence and miss counts. -/
abbrev State.LinksLawful (s : State) : Prop :=
  ∀ b, (s.branch b).roundCounter ≤ 255 ∧ (s.branch b).sequence < 16 ∧
    ∀ d, (s.link b d).missCount ≤ Config.maxMiss

end Sys2Proof.Machine
end

