-- ==== Sys2Proof/Certificates/Slice0/Obligations.lean ====
section
/-! DEFINITION. The obligations: statements about the commands, the state and the step of the D48, for the provers.
Each docstring says what the statement says; OBLIGATIONS.json gives the rule or sections it rests on. -/

open Sys2Proof Sys2Proof.Machine

/-- For every state whose queue is c :: rest, the step is exec of c on the state with the queue rest; and exec of every
command on every state answers a next state, never a fault or a refusal. (The queue is the model's, assumption 6.)
(notes/assumptions/6.md, 95_what_each_step_holds.md) -/
def Obligations.StepTakesFrontCommand : Prop :=
  ∀ (s : State) (c : Instr), (∀ rest, s.pending = c :: rest → step s = exec c { s with pending := rest }) ∧
    ∃ t, exec c s = .next t

/-- With an empty queue and supply: where no request can go on and no event is due, a step advances the run count and
the Vessel Clock by one millisecond and samples the inputs, and changes nothing else. Otherwise it takes the next
item of one port's request that can go on, or queues one of the events due, for every value of the schedule, of
which it uses one number and changes nothing else; and each item and each event that may be taken is the one taken
for some value of that number. Of n+1 samples of a debounced input, one a millisecond, that all find the level it
does not have, none before them: a pressure or close-all change, and the release of an active cutoff, is due exactly
if n is at least 50, and an inactive cutoff becomes active with the first. A sample that finds the old level ends
the wait, and the next change waits anew. Power-on sets the run count to 0, and every other command leaves it. That
a step on an empty queue is this, and the schedule, are the model's (assumptions 1, 2 and 13). (01_the_door_table.md
section 1.5, 04_closure_holds_and_command_authority.md section 4.1, 06_power_units_and_stroke_admission.md section
6.2, 06_power_units_and_stroke_admission.md section 6.6, 08_console_ports_and_request_frames.md section 8.5,
09_change_reports_and_cabinet_lines.md section 9.7, 10_vessel_clock.md section 10.1, notes/assumptions/1.md,
notes/assumptions/2.md, notes/assumptions/13.md) -/
def Obligations.IdleStepsTakeWhatMayBeTaken : Prop :=
  ∀ (s : State),
    (s.pending = [] → s.powered = true →
      ((∀ p, (s.port p).ready = false) → s.dueEvents = [] →
        ∃ t, step s = .next t ∧ t.runCount = s.runCount + 1 ∧ t.clock = { s.clock with time := s.clock.time.next } ∧
          t = { s with runCount := t.runCount, clock := t.clock, units := t.units, closeAll := t.closeAll
                       cutoff := t.cutoff, sync := t.sync } ∧
          (∀ u, t.unit u = { s.unit u with pressLow := (s.unit u).pressLow.sample t.runCount }) ∧
          t.closeAll = s.closeAll.sample t.runCount ∧ t.cutoff = s.cutoff.sample t.runCount ∧
          t.sync = s.sync.sample) ∧
      (((∃ p, (s.port p).ready = true) ∨ s.dueEvents ≠ []) →
        (∃ p, (s.port p).ready = true ∧ step s = .next ({ s with schedule := s.schedule.tail }.goOn p)) ∨
          ∃ c ∈ s.dueEvents, step s = .next { s with pending := [c], schedule := s.schedule.tail }) ∧
      (∀ p, (s.port p).ready = true → ∃ k, ∀ rest,
        step { s with schedule := k :: rest } = .next ({ s with schedule := rest }.goOn p)) ∧
      (∀ c ∈ s.dueEvents, ∃ k, ∀ rest,
        step { s with schedule := k :: rest } = .next { s with pending := [c], schedule := rest })) ∧
    (∀ (x y : Input) (u : UnitId) (first n : Nat), y = x.sampledFrom first (n + 1) →
      (x.line = x.value → y = { x with since := none }) ∧
      (x.line ≠ x.value → x.since = none → s.powered = true → s.runCount = first + n → y = { x with since := some first } ∧
        { y with line := x.value }.sample (first + n + 1) = { line := x.value, value := x.value, since := none } ∧
        (y = (s.unit u).pressLow → (.pressLowChange u x.line ∈ s.dueEvents ↔ 50 ≤ n)) ∧
        (y = s.closeAll → (.closeAllChange x.line ∈ s.dueEvents ↔ 50 ≤ n)) ∧
        (y = s.cutoff → (x.line = true → .driveCutoffActive ∈ s.dueEvents) ∧
          (x.line = false → (.driveCutoffRelease ∈ s.dueEvents ↔ 50 ≤ n))))) ∧
    ∀ (c : Instr) (t : State), exec c s = .next t →
      ((∃ k a o l y, c = .powerOn k a o l y) → t.runCount = 0) ∧
        ((∀ k a o l y, c ≠ .powerOn k a o l y) → t.runCount = s.runCount)

/-- Of every command, with the state alone to judge by: a silence timer, DELAY, refresh period, round timer, reply
deadline, lead-in, reclose timer, tail, signal test, unit timer of the state it belongs to, trim timer or save that
has run out; a dead time that has passed; a pressure, close-all or cutoff input whose samples have stood at the
other level for 50 ms (an active cutoff at once); an edge of SYNC_IN found; a response that waits at a free
transmitter; and a report that is due, spaced and meets no response. Each of these is due, and nothing else is.
(What makes a refresh, a report and a round due is R171, R170 and R140; that these events arise from the state by
themselves is the model's, assumption 1; that a report due before its spacing was changed keeps the old one is
assumption 27, DEDUCED.) (03_door_motion_and_stroke_supervision.md section 3.4,
04_closure_holds_and_command_authority.md section 4.6, 05_warning_signals.md,
06_power_units_and_stroke_admission.md, 07_station_branches.md, 08_console_ports_and_request_frames.md,
09_change_reports_and_cabinet_lines.md section 9.3, 09_change_reports_and_cabinet_lines.md section 9.4,
09_change_reports_and_cabinet_lines.md section 9.7, 10_vessel_clock.md, notes/assumptions/1.md,
notes/assumptions/27.md) -/
def Obligations.DueEventsAreThoseOfTimersAndInputs : Prop :=
  ∀ (s : State) (c : Instr), c ∈ s.dueEvents ↔
    (∃ p e, c = .silenceTimeout p ∧ (s.port p).silenceTimer = some e ∧ e ≤ s.runCount) ∨
    (∃ p r e, c = .delayExpiry p ∧ (s.port p).request = some r ∧ r.wait = some (.delay e) ∧ e ≤ s.runCount) ∨
    (∃ p e, c = .refreshDue p ∧ (s.port p).reportsEnabled = true ∧ (s.port p).refreshCycle = none ∧
      (s.port p).refreshStart = some e ∧
      e + (if ∃ i, (s.door i).installed = true ∧ (s.door i).unacked ≠ 0 then (s.port p).refreshPeriod * 1000 / 2
        else (s.port p).refreshPeriod * 1000) ≤ s.runCount) ∨
    (∃ p, c = .responseSend p ∧ (s.port p).sending = none ∧ (s.port p).queue ≠ []) ∨
    (∃ p, c = .reportSend p ∧ (s.port p).sending = none ∧ (s.port p).queue = [] ∧ (s.port p).reportsEnabled = true ∧
      ((s.port p).changed ≠ [] ∨ (s.port p).summaryChanged = true ∨ (s.port p).refreshCycle ≠ none) ∧
      ∀ e, (s.port p).lastReport = some e → e + (s.port p).governingSpacing ≤ s.runCount) ∨
    (∃ b e, c = .roundTimerExpiry b ∧ (s.branch b).enable = true ∧ (s.branch b).exchange = none ∧
      (s.branch b).roundTimer = some e ∧ e ≤ s.runCount) ∨
    (∃ b x, c = .replyDeadline b ∧ (s.branch b).exchange = some x ∧ x.deadline ≤ s.runCount) ∨
    (∃ i dir, c = .reversalInstant i ∧ (s.door i).state = .reversing dir ∧
      (s.door i).mustWait dir s.runCount = false) ∨
    (∃ i l, c = .leadInExpiry i ∧ (s.door i).state = .warning ∧ (s.door i).leadIn = some l ∧ l.expiry ≤ s.runCount) ∨
    (∃ i e, c = .recloseTimerExpiry i ∧ (s.door i).state = .recloseWait ∧ (s.door i).reclose = some e ∧
      e ≤ s.runCount) ∨
    (∃ i e, c = .tailExpiry i ∧ (s.door i).tail = some e ∧ e ≤ s.runCount) ∨
    (∃ i e, c = .signalTestExpiry i ∧ (s.door i).test = some e ∧ e ≤ s.runCount) ∨
    (∃ u e, (s.unit u).timer = some e ∧ e ≤ s.runCount ∧
      (c = .ageTimerExpiry u ∧ (s.unit u).state = .gathering ∨ c = .startTimerExpiry u ∧ (s.unit u).state = .starting ∨
        c = .holdoffTimerExpiry u ∧ (s.unit u).state = .idling)) ∨
    (∃ u e, c = .pressLowChange u (!(s.unit u).pressLow.value) ∧ (s.unit u).pressLow.since = some e ∧
      e + 50 ≤ s.runCount) ∨
    (∃ e, s.cutoff.since = some e ∧
      (c = .driveCutoffActive ∧ s.cutoff.value = false ∧ e ≤ s.runCount ∨
        c = .driveCutoffRelease ∧ s.cutoff.value = true ∧ e + 50 ≤ s.runCount)) ∨
    (∃ e, c = .closeAllChange (!s.closeAll.value) ∧ s.closeAll.since = some e ∧ e + 50 ≤ s.runCount) ∨
    (c = .syncInEdge ∧ s.sync.edge = true) ∨
    (∃ e, c = .trimStep ∧ s.clock.trimTimer = some e ∧ e ≤ s.runCount) ∨
    (∃ v, c = .saveCompletion ∧ s.store.saving = some v ∧ v.completion ≤ s.runCount)

/-- State.reset, whose image and lines are the model's choice (assumption 6), keeps the fault rule, the clock ranges,
the cutoff rule, the branch ranges, the rule of strokes, slots and entries, the rule of doors and their zones, and
the rule of distinct pairs; no request of it can go on, and its outputs agree with it. (01_the_door_table.md section
1.2, 01_the_door_table.md section 1.5, 03_door_motion_and_stroke_supervision.md section 3.1,
04_closure_holds_and_command_authority.md section 4.5, 06_power_units_and_stroke_admission.md section 6.2,
06_power_units_and_stroke_admission.md section 6.3, 06_power_units_and_stroke_admission.md section 6.6,
07_station_branches.md section 7.1, 10_vessel_clock.md section 10.1, notes/assumptions/6.md) -/
def Obligations.ResetIsLawful : Prop :=
  State.reset.FaultsLawful ∧ State.reset.ClockLawful ∧ State.reset.CutoffLawful ∧ State.reset.LinksLawful ∧
    State.reset.AdmissionLawful ∧ State.reset.MotionLawful ∧ State.reset.PairsLawful ∧ State.reset.Quiet ∧ State.reset.OutputsHold

/-- If in a state every door's unacknowledged set is a subset of its fault set, it is so after every step that answers a
next state. If the time, the capture record and the armed load of a state lie within day 0..65535 and ms
0..86,399,999, they do so after every step; if every round counter is at most 255, every exchange sequence below 16
and every miss count at most 8, it is so after every step. (01_the_door_table.md section 1.5, 07_station_branches.md
section 7.1, 07_station_branches.md section 7.2, 10_vessel_clock.md section 10.1, 10_vessel_clock.md section 10.2,
10_vessel_clock.md section 10.3) -/
def Obligations.StepKeepsFaultsClockAndBranchRanges : Prop :=
  ∀ (s t : State), step s = .next t →
    (s.FaultsLawful → t.FaultsLawful) ∧ (s.ClockLawful → t.ClockLawful) ∧ (s.LinksLawful → t.LinksLawful)

/-- If in a state every door has a stroke record and a slot of its unit exactly in REVERSING, CLOSING and OPENING, and
one entry in its unit's list exactly in QUEUED, with its direction, if no unit has more slot holders than its slot
limit, none but a RUNNING one any, if every list stands in the order of the classes, and no STOPPED, IDLING or
FAILED one an entry, and if uninstalled doors are UNKNOWN, then all this is so after every step that answers a next
state. Beside that, if in a state the lead-in record is present exactly in WARNING and the reclose timer runs
exactly in RECLOSE_WAIT; if stroke records have the direction of their door's state and in REVERSING no issued
drive; if unsettled doors have the indication UNKNOWN, doors at rest stand as their indication says, a door without
indication is UNKNOWN, and one out of service is at rest; if a door of a held zone is in QUEUED(open), REVERSING-to-
open or OPENING only while its local open is held, and only such a zone has doors in RECLOSE_WAIT; if a held zone
has no lead-in or entry of cause CONSOLE, class 2 goes with opening, and class 0 with another cause than CONSOLE;
and if the set of every MONITOR port is empty, then all this too is so after every step, a power-on among them.
(01_the_door_table.md section 1.2, 01_the_door_table.md section 1.4, 03_door_motion_and_stroke_supervision.md
section 3.1, 03_door_motion_and_stroke_supervision.md section 3.2, 03_door_motion_and_stroke_supervision.md section
3.3, 03_door_motion_and_stroke_supervision.md section 3.6, 04_closure_holds_and_command_authority.md section 4.2,
04_closure_holds_and_command_authority.md section 4.5, 04_closure_holds_and_command_authority.md section 4.7,
05_warning_signals.md section 5.1, 06_power_units_and_stroke_admission.md section 6.3,
06_power_units_and_stroke_admission.md section 6.4) -/
def Obligations.StepKeepsStrokesSlotsAndEntries : Prop :=
  ∀ (s t : State), s.AdmissionLawful → step s = .next t → t.AdmissionLawful ∧ (s.MotionLawful → t.MotionLawful)

/-- If in a state no two installed doors have one pair, and the same holds in the image and in the copy of a save in
progress, it is so after every step that answers a next state. (01_the_door_table.md section 1.2,
07_station_branches.md section 7.5, 11_commissioning_settings_store_and_start_up.md section 11.1,
11_commissioning_settings_store_and_start_up.md section 11.2) -/
def Obligations.StepKeepsPairsDistinct : Prop :=
  ∀ (s t : State), s.PairsLawful → step s = .next t → t.PairsLawful

/-- If in a state an active drive cutoff leaves no door in REVERSING, CLOSING or OPENING, it is so after every step; in
such a state every drive command is OFF while the cutoff is active. (06_power_units_and_stroke_admission.md section
6.6, 03_door_motion_and_stroke_supervision.md section 3.1) -/
def Obligations.StepKeepsCutoffLawful : Prop :=
  ∀ (s t : State), s.CutoffLawful → step s = .next t →
    t.CutoffLawful ∧ (t.cutoff.value = true → ∀ i, t.driveCommand i = none)

/-- No step but one that takes a power-on with COMMISSION_KEY_IN active leads from a state whose lock is closed to one
whose lock is open, be it a step that takes a command, an item of a request, an event that is due or a millisecond;
and while the lock is closed no step but a power-on changes what installation SETs write: doors' places, unit and
branch settings, start closed, the alarm mask and the roles of the ports.
(11_commissioning_settings_store_and_start_up.md section 11.3) -/
def Obligations.LockOpensOnlyAtPowerOn : Prop :=
  ∀ (s t : State), step s = .next t → s.store.lockOpen = false →
    (t.store.lockOpen = true → ∃ a o l y rest, s.pending = .powerOn true a o l y :: rest) ∧
    ((∀ k a o l y rest, s.pending ≠ .powerOn k a o l y :: rest) →
      t.store.startClosed = s.store.startClosed ∧ t.store.alarmMask = s.store.alarmMask ∧
      (∀ i, (t.door i).image = { (s.door i).image with settings := (t.door i).settings }) ∧
      (∀ u, (t.unit u).image = (s.unit u).image) ∧ (∀ b, (t.branch b).image = (s.branch b).image) ∧
      ∀ p, (t.port p).role = (s.port p).role)

/-- No step but one that takes a CLOSE_ALL_CHANGE or a POWER_ON changes the LINE set, none but one that takes a POWER_ON
adds a zone to the START set, and a CLOSE_ALL_CHANGE that changes the debounced input makes the LINE set all zones
or none. If the set of every MONITOR port is empty, it is so after every step, be it one that takes a command, an
item of a request, an event that is due or a millisecond, but a POWER_ON, which empties all three sets
(PowerOnLoadsTheImage). (04_closure_holds_and_command_authority.md section 4.1,
04_closure_holds_and_command_authority.md section 4.2, 04_closure_holds_and_command_authority.md section 4.3) -/
def Obligations.HoldersKeepTheirSets : Prop :=
  ∀ (s t : State), step s = .next t → (∀ k a o l y rest, s.pending ≠ .powerOn k a o l y :: rest) →
    ((∀ a rest, s.pending ≠ .closeAllChange a :: rest) → t.holds.line = s.holds.line) ∧
      t.holds.start &&& ~~~s.holds.start = 0 ∧
      (∀ a rest, s.pending = .closeAllChange a :: rest → s.powered = true → s.closeAll.value ≠ a →
        t.holds.line = if a then allZones else 0) ∧
      ((∀ p, (s.port p).role = .monitor → s.holds.console[p] = 0) →
        ∀ p, (t.port p).role = .monitor → t.holds.console[p] = 0)

/-- For every well-formed item, with every operand at every value its field admits, reading its bytes followed by any
bytes gives the item and those bytes. For every port, token and list of at most 32 well-formed items whose frame is
at most 256 bytes long, the frame written for them reads as a good request of that port with that token and those
items, and as none on another port. (08_console_ports_and_request_frames.md section 8.2,
12_frame_and_record_layouts.md section 12.1, 12_frame_and_record_layouts.md section 12.2,
12_frame_and_record_layouts.md section 12.3) -/
def Obligations.ItemsAndFramesReadBackAsWritten : Prop :=
  (∀ (it : Item) (rest : List Byte), it.wellFormed = true → readItem (itemBytes it ++ rest) = (it, rest)) ∧
    ∀ (p q : PortId) (token : Nat) (items : List Item), token < 65536 → items.length ≤ 32 →
      (∀ it ∈ items, it.wellFormed = true) → (requestFrame p token items).length ≤ 256 →
      readRequest p (requestFrame p token items) = some { token := token, items := items } ∧
        (q ≠ p → readRequest q (requestFrame p token items) = none)

/-- The frame that the D48 sends to a drop is 0x3C, the drop, the kind in the high and the sequence in the low nibble, a
signals byte with the drive in bits 0 and 1, the sounder in bit 2, the beacon in bits 3 and 4, the closure lamp in
bit 5 and zeros above (which section 12.6 does not name: the model's choice, assumption 12), and the CRC of the
bytes from the drop on, high byte first. The bytes of a reply frame with any drop, echo, status, count bytes and at
most 8 data bytes read as those fields, and as a frame with a good CRC exactly when its two last bytes are the CRC
of the bytes from the drop byte on. The CRC of "123456789" is 0x29B1. (12_frame_and_record_layouts.md section 12.1,
12_frame_and_record_layouts.md section 12.6, 07_station_branches.md section 7.3, notes/assumptions/12.md) -/
def Obligations.StationFramesAreLaidOut : Prop :=
  (∀ f : CommandFrame, f.sequence < 16 → f.bytes.length = 6 ∧
      LaidOut f.bytes [(0, [0x3C]), (1, [byteOf (number f.drop)]), (4, crcBytes (field f.bytes 1 3))] ∧
      (natOf (field f.bytes 2 1) / 16 = match f.kind with
        | .regular => 0
        | .ident => 1
        | .lampTest => 2) ∧ natOf (field f.bytes 2 1) % 16 = f.sequence ∧
      (natOf (field f.bytes 3 1) % 4 = match f.drive with
        | none => 0
        | some .opening => 1
        | some .close => 2) ∧ (natOf (field f.bytes 3 1)).testBit 2 = f.signals.sounder ∧
      (natOf (field f.bytes 3 1) / 8 % 4 = match f.signals.beacon with
        | .off => 0
        | .steady => 1
        | .flash => 2) ∧ (natOf (field f.bytes 3 1)).testBit 5 = f.signals.lamp ∧ natOf (field f.bytes 3 1) < 64) ∧
    (∀ (drop echo status c1 c0 k1 k0 : Byte) (data : List Byte), data.length ≤ 8 →
      readStationFrame ([0x3C, drop, echo, status, c1, c0, byteOf data.length] ++ data ++ [k1, k0]) =
        some { drop := drop.toNat, kind := echo.toNat / 16, sequence := echo.toNat % 16, status := status
               count := c1.toNat * 256 + c0.toNat, data := data
               crcGood := [k1, k0] = crcBytes ([drop, echo, status, c1, c0, byteOf data.length] ++ data) }) ∧
    crcBytes [0x31, 0x32, 0x33, 0x34, 0x35, 0x36, 0x37, 0x38, 0x39] = [0x29, 0xB1]

/-- A response frame is 0xC3, the length of the bytes from the version to the last entry, version 2, kind 2, the port,
the token, the status (0 EXECUTED, 1 BUSY), the count of its entries, the entries, and the CRC of the bytes from the
length on; it is 12 bytes longer than its entries. A report frame with a 26-byte summary and ten-byte entries, its
sequence in the low byte of the token field, is laid out as section 12.2 gives, 43 bytes longer than its entries.
The summary block of a state is 26 bytes and a door entry ten, each field where section 12.5 puts it. The
transmitter sends these bytes. (12_frame_and_record_layouts.md section 12.1, 12_frame_and_record_layouts.md section
12.2, 12_frame_and_record_layouts.md section 12.5, 08_console_ports_and_request_frames.md section 8.6,
09_change_reports_and_cabinet_lines.md section 9.3) -/
def Obligations.ResponsesAndReportsAreLaidOut : Prop :=
  ∀ (s : State) (p : PortId) (r : Response) (w : Report) (i : DoorId) (n : Nat),
    (r.entries.length < 256 → r.entries.flatten.length ≤ 1012 →
      (r.frame p).length = 12 + r.entries.flatten.length ∧
      LaidOut (r.frame p) [(0, [0xC3]), (1, bytesOf 2 (7 + r.entries.flatten.length)), (3, [2, 2, byteOf p.val]),
        (6, bytesOf 2 r.token), (8, [if r.busy then 1 else 0]), (9, [byteOf r.entries.length]), (10, r.entries.flatten),
        (10 + r.entries.flatten.length, crcBytes (field (r.frame p) 1 (9 + r.entries.flatten.length)))]) ∧
    (w.sequence < 256 → w.summary.length = 26 → w.entries.length ≤ 24 → (∀ e ∈ w.entries, e.length = 10) →
      (w.frame p).length = 43 + 10 * w.entries.length ∧
      LaidOut (w.frame p) [(0, [0xC3]), (1, bytesOf 2 (38 + 10 * w.entries.length)), (3, [2, 3, byteOf p.val]),
        (6, [0, byteOf w.sequence]), (8, bytesOf 2 w.stamp.day), (10, bytesOf 4 w.stamp.ms), (14, w.summary),
        (40, [byteOf w.entries.length]), (41, w.entries.flatten),
        (41 + 10 * w.entries.length, crcBytes (field (w.frame p) 1 (40 + 10 * w.entries.length)))]) ∧
    ((s.summaryBlock n).length = 26 ∧
      LaidOut (s.summaryBlock n) [(0, bytesOf 2 s.holds.union.toNat), (2, bytesOf 2 s.holds.console[0].toNat),
        (4, bytesOf 2 s.holds.console[1].toNat), (6, bytesOf 2 s.holds.console[2].toNat),
        (8, bytesOf 2 s.holds.line.toNat), (10, bytesOf 2 s.holds.start.toNat),
        (12, unitIds.map fun u => byteOf (UnitState.code (s.unit u).state)),
        (19, branchIds.map fun b => byteOf (s.branch b).roundCounter),
        (25, [byteOf n])] ∧
      (natOf (field (s.summaryBlock n) 24 1)).testBit 0 = s.store.imageFault ∧
      (∀ u, (natOf (field (s.summaryBlock n) 16 1)).testBit u.val = (s.unit u).attention) ∧
      (natOf (field (s.summaryBlock n) 17 1)).testBit 0 = s.closeAll.value ∧
      (natOf (field (s.summaryBlock n) 17 1)).testBit 1 = s.cutoff.value ∧
      (∀ u, (natOf (field (s.summaryBlock n) 17 1)).testBit (2 + u.val) = (s.unit u).pressLow.value) ∧
      (natOf (field (s.summaryBlock n) 18 1)).testBit 0 = s.outputs.fault ∧
      (natOf (field (s.summaryBlock n) 18 1)).testBit 1 = s.outputs.closure ∧
      (natOf (field (s.summaryBlock n) 18 1)).testBit 2 = s.outputs.allClosed ∧
      (∀ q, (natOf (field (s.summaryBlock n) 23 1)).testBit q.val = !(s.port q).active ∧
        (natOf (field (s.summaryBlock n) 23 1)).testBit (3 + q.val) = (s.port q).attention)) ∧
    (((s.door i).entryBytes i).length = 10 ∧
      LaidOut ((s.door i).entryBytes i) [(0, [byteOf (number i)]), (2, [byteOf (s.door i).state.code]),
        (3, [byteOf (Indication.code (s.door i).indication)]),
        (4, match (s.door i).position with
          | some v => bytesOf 2 v
          | none => [0xFF, 0xFF]), (6, bytesOf 2 (s.door i).faults.toNat), (8, bytesOf 2 (s.door i).unacked.toNat)] ∧
      (natOf (field ((s.door i).entryBytes i) 1 1)).testBit 0 = (s.door i).installed ∧
      (natOf (field ((s.door i).entryBytes i) 1 1)).testBit 1 = (s.door i).inService ∧
      (natOf (field ((s.door i).entryBytes i) 1 1)).testBit 2 = (s.door i).lateForecast) ∧
    ((s.port p).sending = some (.response r) → s.transmission p = some (r.frame p)) ∧
    ((s.port p).sending = some (.report w) → s.transmission p = some (w.frame p))

/-- Every FETCH entry with an argument in range begins with 1, OK, the object code and the argument, and its length is
the one of R190: 200, 24, 27, 6 + 4n, 28 + 11n, 16, 29, 18 and 21. A DOOR record carries each field at its byte,
absent values as their markers, an absent stroke as zeros, and zeros from byte 98 on; DOOR settings and DOOR
pending, a ZONE summary, a UNIT, HOLDS, CLOCK, PORT status and IDENTITY carry theirs in the same way. A number in k
bytes stands most significant byte first. (Bytes that R190 leaves open are free, assumption 12, and none is named
here; that the bits it leaves unnamed in a flag byte are zero is the model's choice, assumption 12, and so is that
HOLDS, CLOCK and IDENTITY take any argument and echo it, assumption 14.) (01_the_door_table.md section 1.7,
08_console_ports_and_request_frames.md section 8.3, 08_console_ports_and_request_frames.md section 8.4,
12_frame_and_record_layouts.md section 12.1, 12_frame_and_record_layouts.md section 12.4, notes/assumptions/12.md,
notes/assumptions/14.md) -/
def Obligations.FetchEntriesAreLaidOut : Prop :=
  ∀ (s : State) (i : DoorId) (z : ZoneId) (u : UnitId) (p : PortId),
    (∀ k n, (bytesOf k n).length = k ∧ natOf (bytesOf k n) = n % 256 ^ k) ∧
    (∀ o a, fetchMalformed o a = false → (s.fetchEntry o a).length = s.fetchSize o a ∧
      field (s.fetchEntry o a) 0 4 = [1, 0, byteOf (FetchObject.code o), byteOf a]) ∧
    ((∀ a, ∀ x ∈ [(FetchObject.doorRecord, 200), (.doorSettings, 24), (.doorPending, 27), (.holds, 16), (.clock, 29),
        (.portStatus, 18), (.identity, 21)], s.fetchSize x.1 a = x.2) ∧
      s.fetchSize .zoneSummary (number z) = 6 + 4 * (s.doorsOfZone z).length ∧
      s.fetchSize .unit (number u) = 28 + 11 * (s.unit u).list.length) ∧
    (∀ d, d = s.door i →
      LaidOut (s.fetchEntry .doorRecord (number i))
        [(4, flag d.installed), (5, [byteOf (number d.branch), byteOf (number d.drop), byteOf (number d.zone),
          byteOf (number d.unit)]), (9, bytesOf 2 d.closedCount), (11, bytesOf 2 d.openCount),
        (13, [byteOf d.label.length]), (14, d.label.take 8), (22, flag d.inService),
        (23, [byteOf d.state.code, byteOf (Indication.code d.indication)]),
        (25, [byteOf (bit d.closedSwitch 0 + bit d.openSwitch 1 + bit d.localOpen 2 + bit d.localClose 3 +
          bit (decide (d.phase = .settled)) 4)]),
        (26, optBytes 2 d.position), (28, optBytes 2 d.lastCount), (30, rawBytes d.lastRaw),
        (32, bytesOf 2 d.faults.toNat), (34, bytesOf 2 d.unacked.toNat), (66, [byteOf (Drive.code d.lastDriven)]),
        (67, optBytes 8 d.driveOff), (75, optBytes 4 (d.reclose.map fun e => e - s.runCount)),
        (79, optBytes 4 d.lastStrokeTime), (83, bytesOf 2 d.strokeCount),
        (97, [byteOf ((d.lastSource.map Source.code).getD 0)]), (98, List.replicate 102 0)] ∧
      (d.stroke = none → field (s.fetchEntry .doorRecord (number i)) 36 30 = List.replicate 30 0) ∧
      (∀ r, d.stroke = some r → LaidOut (s.fetchEntry .doorRecord (number i))
        [(36, [1, byteOf (Dir.code r.direction), byteOf (Cause.code r.cause)]), (40, [byteOf r.cls]),
        (41, optBytes 8 r.driveIssued), (49, optBytes 2 r.startPosition),
        (51, optBytes 2 (r.mark.map fun m => m.position)), (53, optBytes 8 (r.mark.map fun m => m.instant)),
        (61, optBytes 4 r.estimate), (65, flag r.lateForecast)] ∧
        ∀ q, r.cause = .console q → field (s.fetchEntry .doorRecord (number i)) 39 1 = [byteOf q.val]) ∧
      (∀ t, d.lastClosed = some t → LaidOut (s.fetchEntry .doorRecord (number i))
        [(85, bytesOf 2 t.day), (87, bytesOf 4 t.ms)]) ∧
      (d.lastClosed = none → field (s.fetchEntry .doorRecord (number i)) 87 4 = List.replicate 4 0xFF) ∧
      (∀ t, d.lastFault = some t → LaidOut (s.fetchEntry .doorRecord (number i))
        [(91, bytesOf 2 t.day), (93, bytesOf 4 t.ms)]) ∧
      (d.lastFault = none → field (s.fetchEntry .doorRecord (number i)) 93 4 = List.replicate 4 0xFF) ∧
      (∀ k : Fin 10, ∀ m, OpSetting.all[k.val]? = some m →
        field (s.fetchEntry .doorSettings (number i)) (4 + 2 * k.val) 2 = bytesOf 2 (d.settings.get m) ∧
        field (s.fetchEntry .doorPending (number i)) (6 + 2 * k.val) 2 = bytesOf 2 ((d.pending.get m).getD 0) ∧
        (natOf (field (s.fetchEntry .doorPending (number i)) 4 2)).testBit k.val = (d.pending.get m).isSome) ∧
      field (s.fetchEntry .doorPending (number i)) 26 1 = flag s.settingsHold) ∧
    ((∀ q : PortId, (natOf (field (s.fetchEntry .zoneSummary (number z)) 4 1)).testBit q.val =
        zoneIn s.holds.console[q] z) ∧
      (natOf (field (s.fetchEntry .zoneSummary (number z)) 4 1)).testBit 3 = zoneIn s.holds.line z ∧
      (natOf (field (s.fetchEntry .zoneSummary (number z)) 4 1)).testBit 4 = zoneIn s.holds.start z ∧
      field (s.fetchEntry .zoneSummary (number z)) 5 1 = [byteOf (s.doorsOfZone z).length] ∧
      ∀ k j, (s.doorsOfZone z)[k]? = some j → field (s.fetchEntry .zoneSummary (number z)) (6 + 4 * k) 4 =
        [byteOf (number j), byteOf (s.door j).state.code, byteOf (Indication.code (s.door j).indication),
          byteOf (bit (s.door j).inService 0 + bit (s.door j).eventFaulted 1)]) ∧
    (∀ x, x = s.unit u → LaidOut (s.fetchEntry .unit (number u))
        [(4, [byteOf (UnitState.code x.state), byteOf x.slotLimit]), (6, bytesOf 2 x.startTime),
        (8, bytesOf 2 x.holdoff), (10, bytesOf 2 x.ageTime), (12, [byteOf x.urgentCount]),
        (13, optBytes 4 (x.timer.map fun e => e - s.runCount)), (17, [byteOf x.holders.length]),
        (18, ((x.holders.map fun j => byteOf (number j)) ++ List.replicate 8 0).take 8),
        (26, [byteOf (bit x.pressLow.value 0 + bit s.cutoff.value 1 + bit x.attention 2)]),
        (27, [byteOf x.list.length])] ∧
      ∀ k e, x.list[k]? = some e → LaidOut (s.fetchEntry .unit (number u))
        [(28 + 11 * k, [byteOf (number e.door), byteOf (e.cls + bit (decide (e.direction = .opening)) 7)]),
        (31 + 11 * k, bytesOf 8 e.arrival)] ∧
        natOf (field (s.fetchEntry .unit (number u)) (30 + 11 * k) 1) % 16 = Cause.code e.cause ∧
        ∀ q, e.cause = .console q → natOf (field (s.fetchEntry .unit (number u)) (30 + 11 * k) 1) / 16 = q.val) ∧
    LaidOut (s.fetchEntry .holds 0) [(4, bytesOf 2 s.holds.console[0].toNat), (6, bytesOf 2 s.holds.console[1].toNat),
      (8, bytesOf 2 s.holds.console[2].toNat), (10, bytesOf 2 s.holds.line.toNat), (12, bytesOf 2 s.holds.start.toNat),
      (14, bytesOf 2 s.holds.union.toNat)] ∧
    LaidOut (s.fetchEntry .clock 0) [(4, bytesOf 2 s.clock.time.day), (6, bytesOf 4 s.clock.time.ms),
      (10, bytesOf 2 s.clock.trimInterval), (12, [if s.clock.trimForward then 0x01 else 0xFF]),
      (13, optBytes 4 (s.clock.trimTimer.map fun e => e - s.runCount))] ∧
    (∀ x ∈ [(s.clock.capture, 17), (s.clock.armed, 23)],
      (∀ t, x.1 = some t → LaidOut (s.fetchEntry .clock 0) [(x.2, bytesOf 2 t.day), (x.2 + 2, bytesOf 4 t.ms)]) ∧
      (x.1 = none → field (s.fetchEntry .clock 0) (x.2 + 2) 4 = List.replicate 4 0xFF)) ∧
    (∀ q, q = s.port p → LaidOut (s.fetchEntry .portStatus p.val)
        [(4, [byteOf (Role.code q.role), byteOf q.silenceTime, if q.active then 0 else 1]),
        (7, optBytes 4 (q.silenceTimer.map fun e => e - s.runCount)), (11, flag q.request.isSome),
        (14, flag q.reportsEnabled ++ [byteOf q.reportSequence] ++ flag q.attention ++ [byteOf q.changed.length])] ∧
      ∀ r, q.request = some r → field (s.fetchEntry .portStatus p.val) 12 2 = bytesOf 2 r.token) ∧
    LaidOut (s.fetchEntry .identity 0) [(4, (s.store.identity ++ List.replicate 16 0).take 16),
      (20, [byteOf (bit s.store.lockOpen 0 + bit s.store.imageFault 1 + bit s.store.saving.isSome 2)])]

/-- A complete frame that cannot be read as a request of its port, or that finds two responses of the port in the
transmit queue, leaves everything as it was but for the receiver, which hunts. A good request of a port with a
request in execution and fewer than two responses is answered at once: a response with its token, the status BUSY
and no entries joins the queue, and nothing else changes but the receiver. A frame that begins with 0xC3, a length
of at least 5, a header and items of that length and two CRC bytes is no good request exactly if the length is above
251, the CRC is not that of the bytes from the length on, the version is not 2, the kind is not 1 or the port is not
the receiving port's; if it is one, its token is the header's. A frame with a length below 5 is none.
(08_console_ports_and_request_frames.md section 8.2, 08_console_ports_and_request_frames.md section 8.3,
12_frame_and_record_layouts.md section 12.1, 12_frame_and_record_layouts.md section 12.2) -/
def Obligations.FramesAreDiscardedOrAnsweredBusy : Prop :=
  ∀ (s : State) (p : PortId) (l : List Byte), s.powered = true →
    ((readRequest p l = none ∨ 2 ≤ (s.port p).responses) →
      exec (.consoleFrame p l) s = .next { s with ports := s.ports.set p { s.port p with collecting := false } }) ∧
    (∀ g, readRequest p l = some g → (s.port p).responses < 2 → (s.port p).request ≠ none →
      exec (.consoleFrame p l) s = .next { s with
        ports := s.ports.set p { s.port p with
          collecting := false
          queue := (s.port p).queue ++ [{ token := g.token, busy := true, entries := [], carriesRestart := false }] } }) ∧
    (∀ (l1 l0 version kind port t1 t0 : Byte) (items crc : List Byte), crc.length = 2 →
      natOf [l1, l0] = 5 + items.length →
      l = 0xC3 :: l1 :: l0 :: ([version, kind, port, t1, t0] ++ items ++ crc) →
      (readRequest p l = none ↔
        251 < natOf [l1, l0] ∨ crc ≠ crcBytes ([l1, l0, version, kind, port, t1, t0] ++ items) ∨ version ≠ 2 ∨
          kind ≠ 1 ∨ port.toNat ≠ p.val) ∧
      ∀ g, readRequest p l = some g → g.token = natOf [t1, t0]) ∧
    (∀ (l1 l0 : Byte) (rest : List Byte), natOf [l1, l0] < 5 → l = 0xC3 :: l1 :: l0 :: rest → readRequest p l = none)

/-- A request frame of markers, whatever their words and token, taken by a free ACTIVE port with fewer than two
responses waiting, while no other request can go on, no event is due and no command waits, has its first marker
taken by the frame and each further one by one further step (one item a step is the model's, assumption 13). It is
then answered with one EXECUTED response with that token and one entry OK for each marker, its word unchanged and in
frame order; the silence timer is stopped, and nothing else of the D48 changes but the schedule. (That a request
with no item is answered at once in the same form is the model's choice, assumption 38.)
(08_console_ports_and_request_frames.md section 8.3, 08_console_ports_and_request_frames.md section 8.4,
12_frame_and_record_layouts.md section 12.3, 12_frame_and_record_layouts.md section 12.4, notes/assumptions/13.md,
notes/assumptions/38.md) -/
def Obligations.MarkersAreEchoedInOrder : Prop :=
  ∀ (s : State) (p : PortId) (token : Nat) (words : List (BitVec 32)), s.Free p → token < 65536 → words.length ≤ 32 →
    (s.port p).responses < 2 → (s.port p).active = true → (∀ q, (s.port q).ready = false) → s.dueEvents = [] →
    s.pending = [] →
    ∃ u t, exec (.consoleFrame p (requestFrame p token (words.map Item.marker))) s = .next u ∧
      Runs (words.length - 1) u t ∧ t = { s with ports := t.ports, schedule := t.schedule } ∧
      (∀ q, q ≠ p → t.port q = s.port q) ∧
      t.port p = { s.port p with
        collecting := false, silenceTimer := none
        queue := (s.port p).queue ++
          [{ token := token, busy := false, entries := words.map fun w => [4, 0] ++ bytesOf 4 w.toNat
             carriesRestart := false }] }

/-- A step that the schedule gives to a port whose request can go on takes that request's next item, and nothing else.
An item whose entry would take the response past 1024 bytes is not executed, and the response holds the entries so
far; a malformed one is answered BAD_ITEM and is the last; a RESTART answered OK is the last; a MARKER, and every
item answered at once, has its entry added, the next item standing next, and after the last item the response joins
the queue and the request is absent; a DELAY waits. An item that fits changes of the D48 outside the ports exactly
what the command of that item changes. (That a step takes one item, and the schedule, are the model's, assumptions 2
and 13.) (08_console_ports_and_request_frames.md section 8.3, 08_console_ports_and_request_frames.md section 8.4,
08_console_ports_and_request_frames.md section 8.5, 11_commissioning_settings_store_and_start_up.md section 11.5,
12_frame_and_record_layouts.md section 12.4, notes/assumptions/2.md, notes/assumptions/13.md) -/
def Obligations.RequestsGoOnItemByItem : Prop :=
  ∀ (s : State) (p : PortId) (r : Request) (it : Item) (size : Nat), s.pending = [] → s.powered = true →
    s.choice = some (.item p) → (s.port p).request = some r → r.items[r.index]? = some it →
    size = (if itemMalformed it then 4 else match it with
      | .fetch o a => s.fetchSize o a
      | .marker _ => 6
      | .direct _ _ _ => 13
      | _ => 4) →
    ∃ t, step s = .next t ∧ t.pending = [] ∧ t.schedule = s.schedule.tail ∧
      (1024 < 12 + r.entries.flatten.length + size →
        t = { s with ports := t.ports, schedule := t.schedule } ∧ (∀ q, q ≠ p → t.port q = s.port q) ∧
        t.port p = { s.port p with
          request := none
          queue := (s.port p).queue ++
            [{ token := r.token, busy := false, entries := r.entries, carriesRestart := false }] }) ∧
      (12 + r.entries.flatten.length + size ≤ 1024 →
        (itemMalformed it = true →
          t = { s with ports := t.ports, schedule := t.schedule } ∧ (∀ q, q ≠ p → t.port q = s.port q) ∧
          t.port p = { s.port p with
            request := none
            queue := (s.port p).queue ++
              [{ token := r.token, busy := false, entries := r.entries ++ [[itemCode it, 14, 0, 0]]
                 carriesRestart := false }] }) ∧
        (∀ w, it = .marker w →
          t = { s with ports := t.ports, schedule := t.schedule } ∧ (∀ q, q ≠ p → t.port q = s.port q) ∧
          t.port p = (if r.index + 1 < r.items.length then
            { s.port p with request := some { r with
                entries := r.entries ++ [[4, 0] ++ bytesOf 4 w.toNat], index := r.index + 1, wait := none } }
          else { s.port p with
            request := none
            queue := (s.port p).queue ++
              [{ token := r.token, busy := false, entries := r.entries ++ [[4, 0] ++ bytesOf 4 w.toNat]
                 carriesRestart := false }] })) ∧
        (∀ w, it = .order .restart w → (s.port p).role = .command → s.store.saving = none →
          t = { s with ports := t.ports, schedule := t.schedule
                       store := { s.store with restartPending := some (s.store.restartPending.getD p) } } ∧
          (t.port p).request = none ∧ (t.port p).queue = (s.port p).queue ++
            [{ token := r.token, busy := false, entries := r.entries ++ [[2, 0, 0, 0]]
               carriesRestart := s.store.restartPending.isNone }]) ∧
        (∀ ms, it = .delay ms → 1 ≤ ms → ms ≤ 5000 →
          t = { s with ports := t.ports, schedule := t.schedule } ∧ (∀ q, q ≠ p → t.port q = s.port q) ∧
          t.port p = { s.port p with request := some { r with wait := some (.delay (s.runCount + ms)) } }) ∧
        ((∃ o w, it = .order o w ∧ o ≠ .restart) ∨ (∃ w v, it = .set w v) ∨ (∃ o a, it = .fetch o a) →
          itemMalformed it = false → ∃ e, e.length = size ∧
          (r.index + 1 < r.items.length → (t.port p).queue = (s.port p).queue ∧ (t.port p).request = some { r with
            entries := r.entries ++ [e], index := r.index + 1, wait := none }) ∧
          (r.items.length ≤ r.index + 1 → (t.port p).request = none ∧ (t.port p).queue = (s.port p).queue ++
            [{ token := r.token, busy := false, entries := r.entries ++ [e], carriesRestart := false }])) ∧
        (∀ c, c.item = some (p, it) → ∃ u,
          exec c { s with ports := s.ports.set p { s.port p with request := none } } = .next u ∧
          t = { u with ports := t.ports, schedule := t.schedule }))

/-- For every item command with a well-formed item, at a port that is not collecting and has fewer than two responses
waiting, the command does what the request frame with its one item and token 0 does. That an item command stands for
this frame is the model's choice (assumption 3); the frame's one item is taken with it (assumption 13).
(notes/assumptions/3.md, notes/assumptions/13.md, 08_console_ports_and_request_frames.md section 8.3) -/
def Obligations.ItemCommandIsItsOneItemFrame : Prop :=
  ∀ (s : State) (p : PortId) (c : Instr) (it : Item), c.item = some (p, it) → it.wellFormed = true →
    (requestFrame p 0 [it]).length ≤ 256 → (s.port p).collecting = false → (s.port p).responses < 2 →
    exec c s = exec (.consoleFrame p (requestFrame p 0 [it])) s

/-- An item is malformed exactly if it is a FETCH of a door outside 1..48, a zone outside 1..16, a unit outside 1..4 or
a port outside 0..2; an ORDER that takes a target, with a door outside 1..48, a holder outside 0..4 or a form
outside 0..9; a SET with such a door; a DELAY outside 1..5000; a DIRECT with a branch outside 1..4, a drop outside
1..12 or a kind other than 1 and 2; or cannot be decoded: exactly if its code is outside 1..6, it runs past the end
of its bytes, its FETCH object, order or setting code does not exist, or its numeric value has not the width of its
setting. No good request has an item behind its 33rd, which is one that cannot be decoded. An item command whose
item is malformed, at a free port, is answered BAD_ITEM with its item code. From a free MONITOR port, every well-
formed ORDER and every SET but that of reports enabled is answered REFUSED_ROLE, and so is a well-formed DIRECT; for
a port setting that names another port this rests on assumption 20 (DEDUCED), and that BAD_ITEM comes before the
role on assumption 23 (DEDUCED). None changes anything but the port and the marks of the reports.
(08_console_ports_and_request_frames.md section 8.3, 08_console_ports_and_request_frames.md section 8.4,
12_frame_and_record_layouts.md section 12.1, 12_frame_and_record_layouts.md section 12.3,
04_closure_holds_and_command_authority.md section 4.2, 09_change_reports_and_cabinet_lines.md section 9.2,
notes/assumptions/20.md, notes/assumptions/23.md) -/
def Obligations.MalformedAndMonitorItemsAreRefused : Prop :=
  (∀ (s : State) (p : PortId) (c : Instr) (it : Item), c.item = some (p, it) → s.Free p →
    (itemMalformed it = true → ∃ t, exec c s = .next t ∧ t = { s with ports := t.ports } ∧
      Answered p (plainEntry (itemCode it) .badItem 0) s t) ∧
    (itemMalformed it = false → (s.port p).role = .monitor → s.OutputsHold →
      ((∃ o t, it = .order o t) → ∃ t, exec c s = .next t ∧ t = { s with ports := t.ports } ∧
          Answered p (orderEntry .refusedRole 0) s t) ∧
        ((∃ w t, it = .set w t ∧ ∀ v, w ≠ .reportsEnabled v) → ∃ t, exec c s = .next t ∧
          t = { s with ports := t.ports } ∧ Answered p (setEntry .refusedRole) s t) ∧
        (∀ b d k, it = .direct b d k → ∃ t, exec c s = .next t ∧ t = { s with ports := t.ports } ∧
          Answered p (directEntry .refusedRole b d k []) s t))) ∧
    (∀ it : Item, itemMalformed it = true ↔ match it with
      | .fetch o a => o ∈ [.doorRecord, .doorSettings, .doorPending] ∧ (a = 0 ∨ 48 < a) ∨
          o = .zoneSummary ∧ (a = 0 ∨ 16 < a) ∨ o = .unit ∧ (a = 0 ∨ 4 < a) ∨ o = .portStatus ∧ 2 < a
      | .order o w => ((∃ v, o = .service v) ∨ o ∈ [.close, .openDoor, .stop, .holdZones, .releaseZones, .releaseForeign,
            .resetFaults, .signalTest, .resetUnit, .ack, .ackPort, .ackUnit]) ∧
          ((∃ n, w = .door n ∧ (n = 0 ∨ 48 < n)) ∨ (∃ n, w = .holder n ∧ 4 < n) ∨ ∃ f v, w = .other f v)
      | .set _ w => ∃ n, w = .door n ∧ (n = 0 ∨ 48 < n)
      | .marker _ => False
      | .delay ms => ms = 0 ∨ 5000 < ms
      | .direct b d k => b = 0 ∨ 4 < b ∨ d = 0 ∨ 12 < d ∨ k ≠ 1 ∧ k ≠ 2
      | .undecodable _ => True) ∧
    (∀ (code : Byte) (l : List Byte), readItem (code :: l) = (.undecodable code, []) ↔
      code.toNat = 0 ∨ 6 < code.toNat ∨
      code = 1 ∧ (l.length < 2 ∨ ∃ o rest, l = o :: rest ∧ (o.toNat = 0 ∨ 9 < o.toNat)) ∨
      code = 2 ∧ (l.length < 10 ∨ ∃ o rest, l = o :: rest ∧ (o.toNat = 0 ∨ 21 < o.toNat)) ∨
      code = 3 ∧ (l.length < 5 ∨ ∃ k form v1 v0 n rest, l = k :: form :: v1 :: v0 :: n :: rest ∧
        (rest.length < n.toNat ∨ k.toNat = 0 ∨ 35 < k.toNat ∨
          k.toNat ∉ [17, 34] ∧ n.toNat ≠ (if k = 16 then 4 else if k = 35 then 3 else 2))) ∨
      code = 4 ∧ l.length < 4 ∨ code = 5 ∧ l.length < 2 ∨ code = 6 ∧ l.length < 3) ∧
    ∀ (p : PortId) (l : List Byte) (g : GoodRequest), readRequest p l = some g →
      g.items.length ≤ 33 ∧ ∀ it, g.items[32]? = some it → ∃ c, it = .undecodable c

/-- Each of the nine FETCH commands with an argument in range whose entry fits the response, from a free port of either
role, is answered OK with the object's content as the state stands when the item executes (the port showing the
request in execution); nothing changes but the port, the marks of the reports and the model's counter of free values
(assumption 12). A MARKER from a free port of either role is answered OK, its entry carrying the word unchanged, and
leaves even that counter. (08_console_ports_and_request_frames.md section 8.4, 12_frame_and_record_layouts.md
section 12.4, notes/assumptions/12.md) -/
def Obligations.FetchAndMarkerOnlyAnswer : Prop :=
  ∀ (s : State) (p : PortId) (c : Instr) (o : FetchObject) (a : Nat) (w : BitVec 32), s.Free p →
    (c.item = some (p, .fetch o a) → fetchMalformed o a = false → s.fetchSize o a ≤ 1012 →
      ∃ t, exec c s = .next t ∧ t = { s with ports := t.ports, freeCount := t.freeCount } ∧
        Answered p ([1, 0, byteOf (FetchObject.code o), byteOf a] ++ (s.taking p (.fetch o a)).objectBytes o a) s t) ∧
    ∃ t, exec (.marker p w) s = .next t ∧ t = { s with ports := t.ports } ∧
      Answered p ([4, 0] ++ bytesOf 4 w.toNat) s t

/-- A DELAY of 1 to 5000 ms from a free port leaves its request in execution with an expiry instant that many ms later,
the port ACTIVE with its silence timer stopped and nothing answered yet; at the expiry DELAY_EXPIRY answers the item
OK: after the last item of its request the response is queued, and otherwise the next item is the one to take.
Before the expiry it changes nothing (the model's choice, assumption 4). A DIRECT for an enabled branch with no
pending direct exchange, whose drop an installed door at rest has, from a free COMMAND port, makes the pending
direct exchange present and waits; a disabled branch answers BRANCH_OFF, a pair without a door UNCLAIMED, a pending
exchange BUSY, a door not at rest REFUSED_STATE, each changing nothing but the port.
(08_console_ports_and_request_frames.md section 8.2, 08_console_ports_and_request_frames.md section 8.3,
08_console_ports_and_request_frames.md section 8.4, 07_station_branches.md section 7.6, notes/assumptions/4.md) -/
def Obligations.DelaysAndDirectsWaitOrAreAnswered : Prop :=
  (∀ (s : State) (p : PortId) (ms : Nat) (r : Request) (e : Nat),
    (s.Free p → 1 ≤ ms → ms ≤ 5000 →
      ∃ t, exec (.delay p ms) s = .next t ∧ t = { s with ports := t.ports } ∧ OtherPorts p s t ∧
        t.port p = { s.port p with
          active := true, silenceTimer := none, changed := (t.port p).changed
          summaryChanged := (t.port p).summaryChanged
          request := some { token := 0, items := [.delay ms], index := 0, entries := []
                            wait := some (.delay (s.runCount + ms)) } }) ∧
    (s.powered = true → (s.port p).request = some r → r.wait = some (.delay e) →
      (s.runCount < e → exec (.delayExpiry p) s = .next s) ∧
      (e ≤ s.runCount →
        ∃ t, exec (.delayExpiry p) s = .next t ∧ t = { s with ports := t.ports } ∧ (∀ q, q ≠ p → t.port q = s.port q) ∧
          t.port p = (if r.index + 1 < r.items.length then
            { s.port p with request := some { r with
                entries := r.entries ++ [[5, 0, 0, 0]], index := r.index + 1, wait := none } }
          else { s.port p with
            request := none
            queue := (s.port p).queue ++ [{ token := r.token, busy := false, entries := r.entries ++ [[5, 0, 0, 0]]
                                            carriesRestart := false }] })))) ∧
    ∀ (s : State) (p : PortId) (b : BranchId) (d : DropId) (k : Nat) (x : ExchangeKind), s.MayOrder p →
    directKind k = some x →
    (∀ i, (s.branch b).enable = true → s.claimant b d = some i → (s.branch b).pendingDirect = none →
      (s.door i).state.isRest = true →
      ∃ t, exec (.direct p (number b) (number d) k) s = .next t ∧
        t = { s with ports := t.ports, branches := t.branches } ∧ OtherPorts p s t ∧ OtherBranches b s t ∧
        t.branch b = { s.branch b with pendingDirect := some { drop := d, kind := x, port := p } } ∧
        (t.port p).request = some { token := 0, items := [.direct (number b) (number d) k], index := 0, entries := []
                                    wait := some (.direct b) } ∧
        (t.port p).queue = (s.port p).queue ∧ (t.port p).silenceTimer = none ∧ (t.port p).active = true) ∧
    (∀ r, (r = .branchOff ∧ (s.branch b).enable = false ∨
        r = .unclaimed ∧ (s.branch b).enable = true ∧ s.claimant b d = none ∨
        r = .busy ∧ (s.branch b).enable = true ∧ (s.claimant b d).isSome ∧ (s.branch b).pendingDirect ≠ none ∨
        r = .refusedState ∧ (s.branch b).enable = true ∧ (s.branch b).pendingDirect = none ∧
          ∃ i, s.claimant b d = some i ∧ (s.door i).state.isRest = false) →
      ∃ t, exec (.direct p (number b) (number d) k) s = .next t ∧ t = { s with ports := t.ports } ∧
        Answered p (directEntry r (number b) (number d) k []) s t)

/-- A port's request waits for the pending direct exchange of a branch. When a round starts with its drop, or comes to
it as the exchange before it is missed: if the door is at rest, a direct frame of its kind goes out with drive OFF,
no regular poll, and the item waits on; if not, the item is answered REFUSED_STATE and the drop is polled. With its
exchange in flight: a good reply answers OK with the data padded to eight bytes, the miss count being 0 and the link
state as it was, and nothing is handed to the door; the passing of the deadline, and a frame that is not good and
not for a broken exchange, answers TIMEOUT and counts a miss; where the count so reaches the lost threshold of a
LINKED drop, its door loses its indication and what it has in flight, as by a regular poll. The exchange is then no
longer pending and the round goes on. The request goes on behind the item, or its response joins the queue.
(lastSent is the model's record, assumption 19.) (07_station_branches.md section 7.2, 07_station_branches.md section
7.4, 07_station_branches.md section 7.6, 08_console_ports_and_request_frames.md section 8.4,
12_frame_and_record_layouts.md section 12.4, notes/assumptions/19.md) -/
def Obligations.WaitingDirectsAreAnsweredByTheRound : Prop :=
  ∀ (s : State) (b : BranchId) (pd : PendingDirect) (r : Request) (entry : Result → List Byte → List Byte),
    s.powered = true → (s.branch b).pendingDirect = some pd → (s.port pd.port).request = some r →
    r.wait = some (.direct b) →
    (∀ res data, entry res data =
      [6, byteOf res.code, byteOf (number b), byteOf (number pd.drop), byteOf pd.kind.code] ++
        (data ++ List.replicate 8 0).take 8) →
    (∀ e i rest, (s.branch b).enable = true → (s.branch b).exchange = none → (s.branch b).roundTimer = some e →
      e ≤ s.runCount → s.claimedDrops b = pd.drop :: rest → s.claimant b pd.drop = some i →
      ∃ t, exec (.roundTimerExpiry b) s = .next t ∧
        t = { s with branches := t.branches, doors := t.doors, ports := t.ports } ∧ OtherBranches b s t ∧
        OtherDoors i s t ∧ t.door i = (s.door i).polled s.runCount ∧ OtherPorts pd.port s t ∧
        ((s.door i).state.isRest = true → (s.port pd.port).SameButMarks (t.port pd.port) ∧
          t.branch b = { s.branch b with
            roundTimer := some (s.runCount + (s.branch b).roundPeriod), members := rest }.sent s.runCount pd.drop pd.kind
              none (s.signalCommand i)) ∧
        ((s.door i).state.isRest = false →
          Port.DirectAnswered r (entry .refusedState []) (s.port pd.port) (t.port pd.port) ∧
          t.branch b = { s.branch b with
            pendingDirect := none, roundTimer := some (s.runCount + (s.branch b).roundPeriod), members := rest }.sent
              s.runCount pd.drop .regular (s.driveCommand i) (s.signalCommand i))) ∧
    (∀ x i y, (s.branch b).exchange = some x → x.kind = .regular → x.deadline ≤ s.runCount →
      s.losesDrop b x.drop = false → s.nextPoll b = some pd.drop → s.claimant b pd.drop = some i →
      y = s.wentOn b { s.branch b with
        exchange := none
        drops := (s.branch b).drops.set x.drop ((s.link b x.drop).missed (s.branch b).lostThreshold) } →
      ∃ t, exec (.replyDeadline b) s = .next t ∧
        t = { s with branches := t.branches, doors := t.doors, ports := t.ports, outputs := t.outputs } ∧
        t.OutputsHold ∧ OtherBranches b s t ∧ OtherDoors i s t ∧ t.door i = (s.door i).polled s.runCount ∧
        OtherPorts pd.port s t ∧
        ((s.door i).state.isRest = true → (s.port pd.port).SameButMarks (t.port pd.port) ∧
          t.branch b = y.sent s.runCount pd.drop pd.kind none (s.signalCommand i)) ∧
        ((s.door i).state.isRest = false →
          Port.DirectAnswered r (entry .refusedState []) (s.port pd.port) (t.port pd.port) ∧
          t.branch b = { y with pendingDirect := none }.sent s.runCount pd.drop .regular (s.driveCommand i)
            (s.signalCommand i))) ∧
    (∀ x, (s.branch b).exchange = some x → x.kind = pd.kind → x.kind ≠ .regular → x.drop = pd.drop →
      (∀ l f, readStationFrame l = some f → f.goodFor x = true →
        ∃ t, exec (.stationReplyFrame b l) s = .next t ∧
          t = { s with branches := t.branches, doors := t.doors, ports := t.ports, outputs := t.outputs } ∧
          t.OutputsHold ∧ OtherBranches b s t ∧ OtherPorts pd.port s t ∧
          (∀ j, t.door j = if s.polls b j then (s.door j).polled s.runCount else s.door j) ∧
          Port.DirectAnswered r (entry .ok f.data) (s.port pd.port) (t.port pd.port) ∧
          GoesOn s b { s.branch b with
            pendingDirect := none, exchange := none, collecting := false
            drops := (s.branch b).drops.set x.drop { s.link b x.drop with missCount := 0 } } t) ∧
      (∀ c col, (c = .replyDeadline b ∧ x.deadline ≤ s.runCount ∧ col = (s.branch b).collecting ∨
          ∃ l f, c = .stationReplyFrame b l ∧ readStationFrame l = some f ∧ f.goodFor x = false ∧
            f.answersBroken (s.branch b) = false ∧ col = false) →
        ∃ t, exec c s = .next t ∧
          t = { s with branches := t.branches, doors := t.doors, units := t.units, ports := t.ports
                       outputs := t.outputs } ∧
          t.OutputsHold ∧ OtherBranches b s t ∧ OtherPorts pd.port s t ∧
          (s.losesDrop b x.drop = false ∨ s.claimant b x.drop = none →
            t.units = s.units ∧ ∀ j, t.door j = s.ifPolled b j (s.door j)) ∧
          (∀ i, s.losesDrop b x.drop = true → s.claimant b x.drop = some i → LosesDrop s i (s.ifPolled b) t) ∧
          Port.DirectAnswered r (entry .timeout []) (s.port pd.port) (t.port pd.port) ∧
          GoesOn s b { s.branch b with
            pendingDirect := none, exchange := none, collecting := col
            drops := (s.branch b).drops.set x.drop ((s.link b x.drop).missed (s.branch b).lostThreshold) } t))

/-- A port's request waits for the pending direct exchange of a branch, in flight or not. With the lock open, a SET from
a free COMMAND port that disables the branch answers the item BRANCH_OFF; one that, where installed doors have
distinct pairs, removes the door of its drop, or gives that door, at rest, another branch or drop whose pair is
free, answers it UNCLAIMED. The exchange is then neither pending nor in flight, no miss being counted, and a frame
for it that comes later is discarded (assumption 16). A warm restart answers the item TIMEOUT if its exchange is in
flight, and otherwise leaves it waiting. Each answer is the item's entry: the request goes on behind it, or its
response joins the queue. (01_the_door_table.md section 1.2, 07_station_branches.md section 7.5,
07_station_branches.md section 7.6, 07_station_branches.md section 7.7, 08_console_ports_and_request_frames.md
section 8.4, 11_commissioning_settings_store_and_start_up.md section 11.5, notes/assumptions/16.md) -/
def Obligations.WaitingDirectsAreAnsweredWhenTheirPairGoes : Prop :=
  ∀ (s : State) (p : PortId) (b : BranchId) (pd : PendingDirect) (r : Request) (i : DoorId)
    (entry : Result → List Byte), (s.branch b).pendingDirect = some pd → (s.port pd.port).request = some r →
    r.wait = some (.direct b) →
    (∀ x, (s.branch b).exchange = some x → x.kind ≠ .regular → x.drop = pd.drop ∧ x.kind = pd.kind) →
    (∀ res, entry res = [6, byteOf res.code, byteOf (number b), byteOf (number pd.drop), byteOf pd.kind.code] ++
      List.replicate 8 0) →
    (s.MayInstall p → (s.branch b).enable = true →
      ∃ t, exec (.setEnable p (.branch (number b)) 0) s = .next t ∧ (t.branch b).pendingDirect = none ∧
        (t.branch b).exchange = none ∧
        Port.DirectAnswered r (entry .branchOff) (s.port pd.port) (t.port pd.port) ∧
        (∀ d, t.link b d = { missCount := 0, lost := false }) ∧
        ∀ x, (s.branch b).exchange = some x → (x.drop, x.sequence) ∈ (t.branch b).broken) ∧
    (∀ c, s.MayInstall p → s.PairsLawful → s.claimant b pd.drop = some i → (s.door i).state.isRest = true →
      (c = .setInstalled p (.door (number i)) 0 ∨
        (∃ nb, c = .setBranch p (.door (number i)) (number nb) ∧ nb ≠ b ∧ s.pairTaken i nb pd.drop = false) ∨
        ∃ nd, c = .setDrop p (.door (number i)) (number nd) ∧ nd ≠ pd.drop ∧ s.pairTaken i b nd = false) →
      ∃ t, exec c s = .next t ∧ (t.branch b).pendingDirect = none ∧
        Port.DirectAnswered r (entry .unclaimed) (s.port pd.port) (t.port pd.port) ∧
        t.link b pd.drop = { missCount := 0, lost := false } ∧
        ∀ x, (s.branch b).exchange = some x → x.drop = pd.drop →
          (t.branch b).exchange ≠ some x ∧ (x.drop, x.sequence) ∈ (t.branch b).broken) ∧
    (∀ q w, s.powered = true → (s.port q).sending = some (.response w) → w.carriesRestart = true →
      s.store.restartPending ≠ none →
      ∃ t, exec (.responseSent q) s = .next t ∧
        ((∃ x, (s.branch b).exchange = some x ∧ x.kind ≠ .regular) →
          (t.branch b).pendingDirect = none ∧
          Port.DirectAnswered r (entry .timeout) (s.port pd.port) (t.port pd.port)) ∧
        ((∀ x, (s.branch b).exchange = some x → x.kind = .regular) →
          (t.branch b).pendingDirect = some pd ∧ (t.port pd.port).request = some r ∧
          (t.port pd.port).queue = (s.port pd.port).queue))

/-- From a free COMMAND port: CLOCK_LOAD with a day below 65536 and a ms of day below 86,400,000 sets the time;
CLOCK_ADJUST of at most a day adds the delta; CLOCK_ARM makes the armed load present; CLOCK_DISARM makes it absent;
each answers OK and changes nothing else. A ms of day or a delta out of range answers RANGE and changes nothing. For
a clock value in range and a delta of at most a day, the adjusted value is in range and its count of ms is the old
count plus the delta, modulo 65536 days; an advance adds 1 and a step back takes 1 in the same sense.
(10_vessel_clock.md section 10.1, 10_vessel_clock.md section 10.2, 12_frame_and_record_layouts.md section 12.4) -/
def Obligations.ClockOrdersSetTheClock : Prop :=
  ∀ (s : State) (p : PortId) (day ms : Nat) (delta : Int),
    (s.MayOrder p → day < 65536 → ms < 86400000 →
      (∃ t, exec (.clockLoad p day ms) s = .next t ∧
        t = { s with ports := t.ports, clock := { s.clock with time := { day := day, ms := ms } } } ∧
        Answered p (orderEntry .ok 0) s t) ∧
      (∃ t, exec (.clockArm p day ms) s = .next t ∧
        t = { s with ports := t.ports, clock := { s.clock with armed := some { day := day, ms := ms } } } ∧
        Answered p (orderEntry .ok 0) s t)) ∧
    (s.MayOrder p → 86400000 ≤ ms →
      (∃ t, exec (.clockLoad p day ms) s = .next t ∧ t = { s with ports := t.ports } ∧
        Answered p (orderEntry .range 0) s t) ∧
      (∃ t, exec (.clockArm p day ms) s = .next t ∧ t = { s with ports := t.ports } ∧
        Answered p (orderEntry .range 0) s t)) ∧
    (s.MayOrder p → -86400000 ≤ delta → delta ≤ 86400000 →
      ∃ t, exec (.clockAdjust p delta) s = .next t ∧
        t = { s with ports := t.ports, clock := { s.clock with time := s.clock.time.adjust delta } } ∧
        Answered p (orderEntry .ok 0) s t) ∧
    (s.MayOrder p → (delta < -86400000 ∨ 86400000 < delta) →
      ∃ t, exec (.clockAdjust p delta) s = .next t ∧ t = { s with ports := t.ports } ∧
        Answered p (orderEntry .range 0) s t) ∧
    (s.MayOrder p →
      ∃ t, exec (.clockDisarm p) s = .next t ∧ t = { s with ports := t.ports, clock := { s.clock with armed := none } } ∧
      Answered p (orderEntry .ok 0) s t) ∧
    (∀ t : Stamp, t.Legal → -86400000 ≤ delta → delta ≤ 86400000 → (t.adjust delta).Legal ∧ t.next.Legal ∧ t.prev.Legal ∧
      (((t.adjust delta).day * 86400000 + (t.adjust delta).ms : Nat) : Int) =
        ((t.day * 86400000 + t.ms : Nat) + delta) % (65536 * 86400000) ∧
      ((t.next.day * 86400000 + t.next.ms : Nat) : Int) = ((t.day * 86400000 + t.ms : Nat) + 1) % (65536 * 86400000) ∧
      ((t.prev.day * 86400000 + t.prev.ms : Nat) : Int) = ((t.day * 86400000 + t.ms : Nat) - 1) % (65536 * 86400000))

/-- From a free COMMAND port: SAVE with no save running and no restart pending takes a copy of the running settings that
completes 400 ms later; SAVE while SAVING answers BUSY, and with a restart pending REFUSED_STATE; LOCK closes the
lock; RESTART with no save running makes the restart pending, and its response alone carries it; RESTART while
SAVING answers REFUSED_STATE, and with a restart pending OK without a second one. Nothing else changes but the port
and the marks. SAVE_COMPLETION at or after the completion instant makes the copy the image, ends the save and clears
the image fault; LOSS_OF_SUPPLY takes the supply away and changes nothing else; during a save it leaves a bad image
too, with which every later power-on starts with the image fault and FAULT_OUT, and without one the image stays as
it was, and every later power-on reads it. That a completion before its instant changes nothing is the model's
(assumption 4), and so are the supply and the image as parts of the state (assumptions 5 and 7).
(11_commissioning_settings_store_and_start_up.md section 11.1, 11_commissioning_settings_store_and_start_up.md
section 11.2, 11_commissioning_settings_store_and_start_up.md section 11.3,
11_commissioning_settings_store_and_start_up.md section 11.4, 11_commissioning_settings_store_and_start_up.md
section 11.5, notes/assumptions/4.md, notes/assumptions/5.md, notes/assumptions/7.md) -/
def Obligations.StoreOrdersAndSaves : Prop :=
  ∀ (s : State) (p : PortId),
    (s.MayOrder p → s.store.saving = none → s.store.restartPending = none →
      (∃ t, exec (.save p) s = .next t ∧
        t = { s with ports := t.ports
                     store := { s.store with
                       saving := some { copy := s.settingsImage, completion := s.runCount + 400 } } } ∧
        Answered p (orderEntry .ok 0) s t) ∧
      (∃ t, exec (.restart p) s = .next t ∧
        t = { s with ports := t.ports, store := { s.store with restartPending := some p } } ∧ OtherPorts p s t ∧
        (t.port p).request = none ∧ (t.port p).queue = (s.port p).queue ++
          [{ token := 0, busy := false, entries := [orderEntry .ok 0], carriesRestart := true }])) ∧
    (s.MayOrder p → s.store.saving ≠ none →
      (∃ t, exec (.save p) s = .next t ∧ t = { s with ports := t.ports } ∧ Answered p (orderEntry .busy 0) s t) ∧
      (∃ t, exec (.restart p) s = .next t ∧ t = { s with ports := t.ports } ∧
        Answered p (orderEntry .refusedState 0) s t)) ∧
    (s.MayOrder p → s.store.saving = none → s.store.restartPending ≠ none →
      (∃ t, exec (.save p) s = .next t ∧ t = { s with ports := t.ports } ∧
        Answered p (orderEntry .refusedState 0) s t) ∧
      (∃ t, exec (.restart p) s = .next t ∧ t = { s with ports := t.ports } ∧ Answered p (orderEntry .ok 0) s t)) ∧
    (s.MayOrder p →
      ∃ t, exec (.lock p) s = .next t ∧ t = { s with ports := t.ports, store := { s.store with lockOpen := false } } ∧
      Answered p (orderEntry .ok 0) s t) ∧
    (∀ v : Saving, s.powered = true → s.store.saving = some v →
    (v.completion ≤ s.runCount →
      ∃ t, exec .saveCompletion s = .next t ∧ t = { s with store := t.store, ports := t.ports, outputs := t.outputs } ∧
        t.store = { s.store with image := some v.copy, imageFault := false, saving := none } ∧ t.OutputsHold ∧
        ∀ p, (s.port p).SameButMarks (t.port p)) ∧
    (s.runCount < v.completion → s.OutputsHold → exec .saveCompletion s = .next s) ∧
    (∃ t, exec .lossOfSupply s = .next t ∧
      t = { s with powered := false, store := { s.store with image := none, saving := none } } ∧
      ∀ k a o l y, ∃ w, exec (.powerOn k a o l y) t = .next w ∧ w.store.image = none ∧ w.store.imageFault = true ∧
        w.outputs.fault = true)) ∧
    (s.powered = true → s.store.saving = none →
      exec .lossOfSupply s = .next { s with powered := false } ∧
      ∀ k a o l y, ∃ w, exec (.powerOn k a o l y) { s with powered := false } = .next w ∧
        w.store.image = s.store.image ∧ w.store.imageFault = s.store.image.isNone)

/-- A CLOSE from a free COMMAND port naming an installed door in service, not UNKNOWN, with no event fault, and with
local open not held if its zone is held, puts the door into WARNING with a lead-in of cause CLOSURE in a held zone
and CONSOLE with the port otherwise, expiring one lead-in time later, the port being its last order source: from
OPEN, HALTED and RECLOSE_WAIT, whose reclose timer stops, with no unit and no other door changed; from QUEUED(open),
whose entry leaves its unit's list; from REVERSING-to-open and OPENING, for a door in no list, whose drive goes off,
stroke record goes and slot is freed. In CLOSED, WARNING, QUEUED(close), REVERSING-to-close and CLOSING it is
answered OK without change. Not installed NO_DOOR, out of service REFUSED_SERVICE, UNKNOWN or event-faulted
REFUSED_STATE, local open held in a held zone REFUSED_MODE: in this order, without change.
(03_door_motion_and_stroke_supervision.md section 3.3, 03_door_motion_and_stroke_supervision.md section 3.6,
04_closure_holds_and_command_authority.md section 4.7, 05_warning_signals.md section 5.2,
06_power_units_and_stroke_admission.md section 6.3, 06_power_units_and_stroke_admission.md section 6.4) -/
def Obligations.CloseStartsTheLeadIn : Prop :=
  ∀ (s : State) (p : PortId) (i : DoorId) (e : Door), s.MayOrder p →
    ((s.door i).installed = true → s.closeResult i = .ok →
      e = { ((s.door i).undriven s.runCount).warned (if s.doorHeld i then .closure else .console p) s.runCount with
        stroke := if (s.door i).state.hasStroke then none else (s.door i).stroke, lastSource := some (.port p) } →
      ((s.door i).state ∈ [.opened, .halted, .recloseWait] →
        ∃ t, exec (.close p (.door (number i))) s = .next t ∧ t.door i = e ∧ OtherDoors i s t ∧
          t = { s with ports := t.ports, doors := t.doors, outputs := t.outputs } ∧ t.OutputsHold ∧
          Answered p (orderEntry .ok 0) s t) ∧
      ((s.door i).state = .queued .opening →
        ∃ t, exec (.close p (.door (number i))) s = .next t ∧ t.door i = e ∧ OtherDoors i s t ∧
          t.unit (s.door i).unit = (s.unit (s.door i).unit).left i s.runCount ∧ OtherUnits (s.door i).unit s t ∧
          t = { s with ports := t.ports, doors := t.doors, units := t.units, outputs := t.outputs } ∧ t.OutputsHold ∧
          Answered p (orderEntry .ok 0) s t) ∧
      ((s.door i).state ∈ [.reversing .opening, .opening] → s.Unlisted i →
        ∃ t, exec (.close p (.door (number i))) s = .next t ∧ t.door i = e ∧
          i ∉ (t.unit (s.door i).unit).holders ∧ OtherUnits (s.door i).unit s t ∧
          (∀ j, j ≠ i → s.Unlisted j → t.door j = s.door j) ∧
          ((s.unit (s.door i).unit).list = [] → OtherDoors i s t) ∧
          t = { s with ports := t.ports, doors := t.doors, units := t.units, outputs := t.outputs } ∧ t.OutputsHold ∧
          Answered p (orderEntry .ok 0) s t)) ∧
    (∀ r, s.OutputsHold →
      ((s.door i).installed = false ∧ r = .noDoor ∨
        (s.door i).installed = true ∧ (r = s.closeResult i ∧ r ≠ .ok ∨ r = .ok ∧ s.closeResult i = .ok ∧
          (s.door i).state ∈ [.closed, .warning, .queued .close, .reversing .close, .closing])) →
      ∃ t, exec (.close p (.door (number i))) s = .next t ∧ t = { s with ports := t.ports } ∧
        Answered p (orderEntry r 0) s t) ∧
    s.closeResult i = (if (s.door i).inService = false then .refusedService
      else if (s.door i).state = .unknown ∨ (s.door i).eventFaulted = true then .refusedState
      else if s.doorHeld i = true ∧ (s.door i).localOpen = true then .refusedMode else .ok)

/-- From a free COMMAND port. CLOSE of a zone none of whose doors waits or moves to open: each installed door of the
zone takes what its own CLOSE gives it, the standing ones and those in RECLOSE_WAIT entering WARNING. STOP of a free
zone none of whose doors is queued or moving: each door in WARNING takes the rest state of its indication. OPEN of a
free zone each of whose doors is refused, closing, or already open or opening: the closing ones turn; a door that
meets a FAILED unit takes NO_POWER. STOP and OPEN of a held zone refuse every door with REFUSED_MODE. The entry
carries the first refusal in ascending door number, or OK, and the number of doors answered OK; a zone without
installed doors is answered OK with 0. In these cases no door outside the zone and no unit changes. In every case,
with any doors in any states, the doors and units after CLOSE, OPEN and STOP of a zone are those after the same
order for each installed door of the zone, one after another in ascending door number, and the entry is made from
the results of those orders. (04_closure_holds_and_command_authority.md section 4.7,
08_console_ports_and_request_frames.md section 8.4, 12_frame_and_record_layouts.md section 12.4) -/
def Obligations.ZoneOrdersAnswerForTheirDoors : Prop :=
  ∀ (s : State) (p : PortId) (z : ZoneId), s.MayOrder p →
    ((∀ j ∈ s.doorsOfZone z, (s.door j).state ∉ [.queued .opening, .reversing .opening, .opening]) →
      ∃ t, exec (.close p (.zone (number z))) s = .next t ∧
        (∀ j, t.door j = if j ∈ s.doorsOfZone z ∧ s.closeResult j = .ok ∧
            (s.door j).state ∈ [.opened, .halted, .recloseWait] then
          { (s.door j).warned (if s.held z then .closure else .console p) s.runCount with lastSource := some (.port p) }
        else s.door j) ∧
        t = { s with ports := t.ports, doors := t.doors, outputs := t.outputs } ∧ t.OutputsHold ∧
        Answered p (zoneEntry ((s.doorsOfZone z).map s.closeResult)) s t) ∧
    (s.held z = false →
      ((∀ j ∈ s.doorsOfZone z, (s.door j).state.isRest = true ∨ (s.door j).state ∈ [.warning, .recloseWait]) →
        ∃ t, exec (.stop p (.zone (number z))) s = .next t ∧
          (∀ j, t.door j = if j ∈ s.doorsOfZone z ∧ (s.door j).state = .warning then
            { (s.door j).rested (s.door j).indication.restState s.settingsHold with lastSource := some (.port p) }
          else s.door j) ∧
          t = { s with ports := t.ports, doors := t.doors, outputs := t.outputs } ∧ t.OutputsHold ∧
          Answered p (zoneEntry ((s.doorsOfZone z).map fun _ => .ok)) s t) ∧
      ((∀ j ∈ s.doorsOfZone z, s.openResult j = .ok →
          (s.door j).state ∉ [.closed, .halted, .warning, .queued .close]) →
        ∃ t, exec (.openDoor p (.zone (number z))) s = .next t ∧
          (∀ j, t.door j = if j ∈ s.doorsOfZone z ∧ s.openResult j = .refusedPower then
              ((s.door j).faulted .noPower s.clock.time).rested (s.door j).indication.restState s.settingsHold
            else if j ∈ s.doorsOfZone z ∧ s.openResult j = .ok ∧ (s.door j).state ∈ [.reversing .close, .closing] then
              { (s.door j).turned .opening (.console p) 2 s.runCount with lastSource := some (.port p) }
            else s.door j) ∧
          t = { s with ports := t.ports, doors := t.doors, outputs := t.outputs } ∧ t.OutputsHold ∧
          Answered p (zoneEntry ((s.doorsOfZone z).map s.openResult)) s t)) ∧
    (s.held z = true → s.OutputsHold → ∀ c ∈ [Instr.openDoor p (.zone (number z)), .stop p (.zone (number z))],
      ∃ t, exec c s = .next t ∧ t = { s with ports := t.ports } ∧
        Answered p (orderEntry (if s.doorsOfZone z = [] then .ok else .refusedMode) 0) s t) ∧
    ∀ order ∈ [Instr.close p, Instr.openDoor p, Instr.stop p],
      ∃ t u results, exec (order (.zone (number z))) s = .next t ∧
        OrderedOneByOne p (fun j => order (.door (number j))) (s.doorsOfZone z) results s u ∧
        t.doors = u.doors ∧ t.units = u.units ∧ Answered p (zoneEntry results) s t ∧
        t = { s with ports := t.ports, doors := t.doors, units := t.units, outputs := t.outputs } ∧ t.OutputsHold

/-- An OPEN from a free COMMAND port naming an installed door of a free zone, in service, not event-faulted. CLOSED,
HALTED, WARNING or QUEUED(close): a class 2 request of cause CONSOLE with the order's instant, its old entry leaving
the list; in a STOPPED, GATHERING or STARTING unit, and in a RUNNING or IDLING one with the cutoff active or no slot
free, the door is QUEUED(open) and the unit starts, gathers or runs on as its list and settings say; a RUNNING or
IDLING unit in which nothing else waits and a slot is free admits it at once; with the unit FAILED it takes NO_POWER
and the rest state of its indication, answered REFUSED_POWER. CLOSING or REVERSING-to-close: the door keeps its
slot, its drive goes off, and it turns. OPEN, QUEUED(open), REVERSING-to-open, OPENING: OK without change. Refusals:
the first that applies. Other doors and other units stay. (03_door_motion_and_stroke_supervision.md section 3.3,
03_door_motion_and_stroke_supervision.md section 3.4, 04_closure_holds_and_command_authority.md section 4.7,
06_power_units_and_stroke_admission.md section 6.2, 06_power_units_and_stroke_admission.md section 6.3,
06_power_units_and_stroke_admission.md section 6.4) -/
def Obligations.OpenQueuesOrReverses : Prop :=
  ∀ (s : State) (p : PortId) (i : DoorId) (n : Entry) (x : PowerUnit), s.MayOrder p → (s.door i).installed = true →
    x = s.unit (s.door i).unit → n = { door := i, direction := .opening, cls := 2, cause := .console p, arrival := s.runCount } →
    (s.openResult i = .ok →
      ((s.door i).state ∈ [.closed, .halted, .warning, .queued .close] →
        (x.waits s.cutoff.value = true ∨ x.admitsAlone i s.cutoff.value = true) →
        ∃ t, exec (.openDoor p (.door (number i))) s = .next t ∧
          Requested s i { s.door i with lastSource := some (.port p) } n t ∧
          OtherDoors i s t ∧ OtherUnits (s.door i).unit s t ∧
          t = { s with ports := t.ports, doors := t.doors, units := t.units, outputs := t.outputs } ∧ t.OutputsHold ∧
          Answered p (orderEntry .ok 0) s t) ∧
      ((s.door i).state ∈ [.closing, .reversing .close] →
        ∃ t, exec (.openDoor p (.door (number i))) s = .next t ∧
          t.door i = { (s.door i).turned .opening (.console p) 2 s.runCount with lastSource := some (.port p) } ∧
          OtherDoors i s t ∧ t = { s with ports := t.ports, doors := t.doors, outputs := t.outputs } ∧ t.OutputsHold ∧
          Answered p (orderEntry .ok 0) s t)) ∧
    (s.openResult i = .refusedPower →
      ∃ t, exec (.openDoor p (.door (number i))) s = .next t ∧
        t.door i = ((s.door i).faulted .noPower s.clock.time).rested (s.door i).indication.restState s.settingsHold ∧
        OtherDoors i s t ∧ t = { s with ports := t.ports, doors := t.doors, outputs := t.outputs } ∧ t.OutputsHold ∧
        Answered p (orderEntry .refusedPower 0) s t) ∧
    (s.OutputsHold →
      (s.openResult i ∉ [.ok, .refusedPower] ∨
        (s.door i).state ∈ [.opened, .queued .opening, .reversing .opening, .opening]) →
      ∃ t, exec (.openDoor p (.door (number i))) s = .next t ∧ t = { s with ports := t.ports } ∧
        Answered p (orderEntry (s.openResult i) 0) s t) ∧
    s.openResult i = (if s.doorHeld i = true then .refusedMode
      else if (s.door i).inService = false then .refusedService
      else if (s.door i).state = .unknown ∨ (s.door i).eventFaulted = true then .refusedState
      else if x.state = .failed ∧ (s.door i).state ∈ [.closed, .halted, .warning, .queued .close] then .refusedPower
      else .ok)

/-- A STOP from a free COMMAND port naming an installed door: in a held zone REFUSED_MODE without change; at rest or in
RECLOSE_WAIT in a free zone OK without change. In a free zone a door in WARNING, QUEUED, REVERSING, CLOSING or
OPENING takes the rest state of its indication, its pending record applied unless the hold is on, the port being its
last order source: from WARNING nothing else changes; from QUEUED its entry leaves its unit's list, a GATHERING unit
left without entries stopping and a RUNNING one with neither entries nor holders idling; from a stroke, for a door
in no admission list, its stroke record is absent, its drive-off instant the order's instant if its drive was on,
and it leaves its unit's slot holders: the slot goes at once to the head of the list where the unit may admit, and a
unit left with nothing goes to IDLING. (03_door_motion_and_stroke_supervision.md section 3.3,
03_door_motion_and_stroke_supervision.md section 3.6, 04_closure_holds_and_command_authority.md section 4.7,
06_power_units_and_stroke_admission.md section 6.3, 06_power_units_and_stroke_admission.md section 6.4) -/
def Obligations.StopHaltsAndCancels : Prop :=
  ∀ (s : State) (p : PortId) (i : DoorId), s.MayOrder p → (s.door i).installed = true →
    (s.doorHeld i = true → s.OutputsHold →
      ∃ t, exec (.stop p (.door (number i))) s = .next t ∧ t = { s with ports := t.ports } ∧
        Answered p (orderEntry .refusedMode 0) s t) ∧
    (s.doorHeld i = false → ((s.door i).state.isRest = true ∨ (s.door i).state = .recloseWait) → s.OutputsHold →
      ∃ t, exec (.stop p (.door (number i))) s = .next t ∧ t = { s with ports := t.ports } ∧
        Answered p (orderEntry .ok 0) s t) ∧
    (s.doorHeld i = false → (s.door i).state = .warning →
      ∃ t, exec (.stop p (.door (number i))) s = .next t ∧
        t.door i = { (s.door i).rested (s.door i).indication.restState s.settingsHold with
          lastSource := some (.port p) } ∧
        OtherDoors i s t ∧ t = { s with ports := t.ports, doors := t.doors, outputs := t.outputs } ∧ t.OutputsHold ∧
        Answered p (orderEntry .ok 0) s t) ∧
    (∀ dir, s.doorHeld i = false → (s.door i).state = .queued dir →
      ∃ t, exec (.stop p (.door (number i))) s = .next t ∧
        t.door i = { (s.door i).rested (s.door i).indication.restState s.settingsHold with
          lastSource := some (.port p) } ∧
        t.unit (s.door i).unit = (s.unit (s.door i).unit).left i s.runCount ∧ OtherUnits (s.door i).unit s t ∧
        OtherDoors i s t ∧
        t = { s with ports := t.ports, doors := t.doors, units := t.units, outputs := t.outputs } ∧ t.OutputsHold ∧
        Answered p (orderEntry .ok 0) s t) ∧
    (s.doorHeld i = false → (s.door i).state.hasStroke = true → s.Unlisted i →
      ∃ t, exec (.stop p (.door (number i))) s = .next t ∧
        t.door i = { (s.door i).haltedAt (s.door i).indication.restState s.settingsHold s.runCount with
          lastSource := some (.port p) } ∧
        FreesSlot s i (fun _ d => d) t ∧ (∀ j, j ≠ i → s.Unlisted j → t.door j = s.door j) ∧
        t = { s with ports := t.ports, doors := t.doors, units := t.units, outputs := t.outputs } ∧ t.OutputsHold ∧
        Answered p (orderEntry .ok 0) s t)

/-- A SERVICE from a free COMMAND port naming an installed door: out, for a door in service at rest in a free zone,
makes it out of service with the port as its last order source; out for a door of a free zone not at rest is
REFUSED_STATE, and for a door of a held zone REFUSED_MODE; in makes an out-of-service door of a free zone in
service, NOT_CONTROLLED leaving both its sets, and in a held zone the door, if then demanded closed, enters WARNING
with cause CLOSURE, CLOSURE being its last order source (the model's choice, assumption 29). RESET_FAULTS naming an
installed door removes STROKE_TIMEOUT, STALL, NO_POWER and CUT_OFF from both its sets, leaving its condition faults;
if the door is then demanded closed it enters WARNING with cause CLOSURE. Naming a zone, held or free, it does so
for each installed door of the zone, and answers their number. Nothing else changes but the outputs by their own
rule. (03_door_motion_and_stroke_supervision.md section 3.8, 04_closure_holds_and_command_authority.md section 4.4,
04_closure_holds_and_command_authority.md section 4.5, 04_closure_holds_and_command_authority.md section 4.7,
notes/assumptions/29.md) -/
def Obligations.ServiceAndResetFaultsActOnADoor : Prop :=
  (∀ (s : State) (p : PortId) (i : DoorId), s.MayOrder p → (s.door i).installed = true →
    (s.doorHeld i = false → (s.door i).state.isRest = true → (s.door i).inService = true →
      ∃ t, exec (.service p (.door (number i)) 0) s = .next t ∧
        t.door i = { s.door i with inService := false, lastSource := some (.port p) } ∧
        OtherDoors i s t ∧ t = { s with ports := t.ports, doors := t.doors, outputs := t.outputs } ∧ t.OutputsHold ∧
        Answered p (orderEntry .ok 0) s t) ∧
    (s.doorHeld i = false → (s.door i).inService = false →
      ∃ t, exec (.service p (.door (number i)) 1) s = .next t ∧
        t.door i = { (s.door i).cleared .notControlled with inService := true, lastSource := some (.port p) } ∧
        OtherDoors i s t ∧ t = { s with ports := t.ports, doors := t.doors, outputs := t.outputs } ∧ t.OutputsHold ∧
        Answered p (orderEntry .ok 0) s t) ∧
    (s.OutputsHold → s.doorHeld i = true →
      ∃ t, exec (.service p (.door (number i)) 0) s = .next t ∧ t = { s with ports := t.ports } ∧
        Answered p (orderEntry .refusedMode 0) s t) ∧
    (s.OutputsHold → s.doorHeld i = false → (s.door i).state.isRest = false →
      ∃ t, exec (.service p (.door (number i)) 0) s = .next t ∧ t = { s with ports := t.ports } ∧
        Answered p (orderEntry .refusedState 0) s t)) ∧
    (∀ (s : State) (p : PortId) (i : DoorId), s.MayOrder p → (s.door i).installed = true → (s.door i).inService = false →
      s.doorHeld i = true →
      ∃ t, exec (.service p (.door (number i)) 1) s = .next t ∧
        t.door i = (if (s.door i).eventFaulted = false ∧ (s.door i).localOpen = false ∧
            ((s.door i).state = .opened ∨ (s.door i).state = .halted) then
          { ((s.door i).cleared .notControlled).warned .closure s.runCount with
            inService := true, lastSource := some .closure }
        else { (s.door i).cleared .notControlled with inService := true, lastSource := some (.port p) }) ∧
        OtherDoors i s t ∧ t = { s with ports := t.ports, doors := t.doors, outputs := t.outputs } ∧ t.OutputsHold ∧
        Answered p (orderEntry .ok 0) s t) ∧
    ∀ (s : State) (p : PortId) (i : DoorId) (z : ZoneId), s.MayOrder p →
    ((s.door i).installed = true →
      ∃ t, exec (.resetFaults p (.door (number i))) s = .next t ∧
        (t.door i = if s.doorHeld i ∧ (s.door i).inService = true ∧ (s.door i).localOpen = false ∧
            ((s.door i).state = .opened ∨ (s.door i).state = .halted) then
          { (s.door i).withoutEventFaults.warned .closure s.runCount with lastSource := some .closure }
        else (s.door i).withoutEventFaults) ∧
        OtherDoors i s t ∧ t = { s with ports := t.ports, doors := t.doors, outputs := t.outputs } ∧ t.OutputsHold ∧
        Answered p (orderEntry .ok 0) s t) ∧
    ∃ t, exec (.resetFaults p (.zone (number z))) s = .next t ∧
      (∀ j, t.door j = if (s.door j).installed ∧ (s.door j).zone = z then
          (if s.held z ∧ (s.door j).inService = true ∧ (s.door j).localOpen = false ∧
              ((s.door j).state = .opened ∨ (s.door j).state = .halted) then
            { (s.door j).withoutEventFaults.warned .closure s.runCount with lastSource := some .closure }
          else (s.door j).withoutEventFaults)
        else s.door j) ∧
      t = { s with ports := t.ports, doors := t.doors, outputs := t.outputs } ∧ t.OutputsHold ∧
      Answered p (orderEntry .ok (s.doorsOfZone z).length) s t

/-- A SIGNAL_TEST from a free COMMAND port naming an installed door at rest starts its test timer with an expiry 3000 ms
later and changes nothing else; a door not at rest is answered REFUSED_STATE without change. SIGNAL_TEST_EXPIRY and
TAIL_EXPIRY stop a timer that has run out, and leave one that has not (the model's choice, assumption 4). In every
state a door's beacon is FLASH exactly while its sounder is on, or, the door carrying neither LINK_LOST nor
BRANCH_OFF, it is OPENING in a held zone; else OFF with LINK_LOST or BRANCH_OFF; else STEADY exactly while its tail
timer runs, or CUT_OFF is in its fault set and its zone is held (also after a warm restart: the model's choice,
assumption 30); else OFF. From a free COMMAND port: ACK of an installed door empties its unacknowledged set; ACK of
a zone that of each installed door of the zone, with their number as its count; ACK ALL that of every installed
door, with a count of 0; ACK_PORT clears the port's attention, ACK_UNIT the unit's. Fault sets and everything else
stay. (05_warning_signals.md section 5.3, 05_warning_signals.md section 5.4, 05_warning_signals.md section 5.5,
07_station_branches.md section 7.4, 09_change_reports_and_cabinet_lines.md section 9.5, notes/assumptions/4.md,
notes/assumptions/30.md) -/
def Obligations.TestsAndAcknowledgementsWriteOneField : Prop :=
  (∀ (s : State) (p : PortId) (i : DoorId),
    (s.MayOrder p → (s.door i).installed = true →
      ((s.door i).state.isRest = true →
        ∃ t, exec (.signalTest p (.door (number i))) s = .next t ∧
          t.door i = { s.door i with test := some (s.runCount + 3000) } ∧ OtherDoors i s t ∧
          t = { s with ports := t.ports, doors := t.doors } ∧ Answered p (orderEntry .ok 0) s t) ∧
      ((s.door i).state.isRest = false →
        ∃ t, exec (.signalTest p (.door (number i))) s = .next t ∧ t = { s with ports := t.ports } ∧
          Answered p (orderEntry .refusedState 0) s t)) ∧
    (∀ e, s.powered = true → (s.door i).test = some e →
      (e ≤ s.runCount → ∃ t, exec (.signalTestExpiry i) s = .next t ∧
        t = { s with doors := s.doors.set i { s.door i with test := none } }) ∧
      (s.runCount < e → exec (.signalTestExpiry i) s = .next s)) ∧
    (∀ e, s.powered = true → (s.door i).tail = some e →
      (e ≤ s.runCount → ∃ t, exec (.tailExpiry i) s = .next t ∧
        t = { s with doors := s.doors.set i { s.door i with tail := none } }) ∧
      (s.runCount < e → exec (.tailExpiry i) s = .next s)) ∧
    ((hasFault (s.door i).faults .linkLost = true ∨ hasFault (s.door i).faults .branchOff = true) →
      (s.signalCommand i).beacon = if (s.signalCommand i).sounder then .flash else .off) ∧
    (hasFault (s.door i).faults .linkLost = false → hasFault (s.door i).faults .branchOff = false →
      ((s.signalCommand i).beacon = .flash ↔
        (s.signalCommand i).sounder = true ∨ (s.door i).state = .opening ∧ s.doorHeld i = true) ∧
      ((s.signalCommand i).beacon = .steady ↔
        ((s.signalCommand i).sounder = false ∧ ((s.door i).state = .opening → s.doorHeld i = false)) ∧
          ((s.door i).tail ≠ none ∨ hasFault (s.door i).faults .cutOff = true ∧ s.doorHeld i = true)) ∧
      ((s.signalCommand i).beacon = .off ↔
        (s.signalCommand i).sounder = false ∧ ((s.door i).state = .opening → s.doorHeld i = false) ∧
          (s.door i).tail = none ∧ (hasFault (s.door i).faults .cutOff = true → s.doorHeld i = false)))) ∧
    ∀ (s : State) (p q : PortId) (i : DoorId) (z : ZoneId) (u : UnitId), s.MayOrder p →
    ((s.door i).installed = true → ∃ t, exec (.ack p (.door (number i))) s = .next t ∧
      t.door i = { s.door i with unacked := 0 } ∧ OtherDoors i s t ∧
      t = { s with ports := t.ports, doors := t.doors, outputs := t.outputs } ∧ t.OutputsHold ∧
      Answered p (orderEntry .ok 0) s t) ∧
    (∃ t, exec (.ack p (.zone (number z))) s = .next t ∧
      (∀ j, t.door j = if (s.door j).installed ∧ (s.door j).zone = z then { s.door j with unacked := 0 }
        else s.door j) ∧
      t = { s with ports := t.ports, doors := t.doors, outputs := t.outputs } ∧ t.OutputsHold ∧
      Answered p (orderEntry .ok (s.doorsOfZone z).length) s t) ∧
    (∃ t, exec (.ack p .all) s = .next t ∧
      (∀ j, t.door j = if (s.door j).installed then { s.door j with unacked := 0 } else s.door j) ∧
      t = { s with ports := t.ports, doors := t.doors, outputs := t.outputs } ∧ t.OutputsHold ∧
      Answered p (orderEntry .ok 0) s t) ∧
    (∃ t, exec (.ackPort p (.port q.val)) s = .next t ∧ t = { s with ports := t.ports, outputs := t.outputs } ∧
      t.OutputsHold ∧ (t.port q).attention = false ∧ (∀ r, r ≠ q → (t.port r).attention = (s.port r).attention) ∧
      (q ≠ p → Answered p (orderEntry .ok 0)
        { s with ports := s.ports.set q { s.port q with attention := false } } t)) ∧
    (∃ t, exec (.ackUnit p (.unit (number u))) s = .next t ∧
      t = { s with ports := t.ports, units := s.units.set u { s.unit u with attention := false }
                   outputs := t.outputs } ∧ t.OutputsHold ∧ Answered p (orderEntry .ok 0) s t)

/-- From a free COMMAND port: HOLD_ZONES adds its zones to the port's set, RELEASE_ZONES takes them from it,
RELEASE_FOREIGN empties the START set or that of another port that is SILENT, each answering OK and leaving every
other holder's set; RELEASE_FOREIGN of LINE is REFUSED_MODE, of an ACTIVE port or of itself REFUSED_STATE, without
change. Branches, the clock, the store, the inputs and the settings hold stay. The outputs hold afterwards, and in
every state whose outputs hold: FAULT_OUT is asserted exactly while an installed door's unacknowledged set has a
kind of the fault alarm mask, a unit's attention or that of a COMMAND port is set, or the image fault is present;
CLOSURE_OUT exactly while some zone is held; ALL_CLOSED_OUT exactly while some zone is held and every installed door
of every held zone is indicated CLOSED. (04_closure_holds_and_command_authority.md section 4.1,
04_closure_holds_and_command_authority.md section 4.3, 09_change_reports_and_cabinet_lines.md section 9.6) -/
def Obligations.HoldAndReleaseWriteOwnSet : Prop :=
  (∀ (s : State), s.OutputsHold →
      (s.outputs.fault = true ↔
        (∃ i, (s.door i).installed = true ∧
          ∃ k, hasFault (s.door i).unacked k = true ∧ hasFault s.store.alarmMask k = true) ∨
        (∃ u, (s.unit u).attention = true) ∨ (∃ q, (s.port q).attention = true ∧ (s.port q).role = .command) ∨
        s.store.imageFault = true) ∧
      (s.outputs.closure = true ↔ ∃ z, s.held z = true) ∧
      (s.outputs.allClosed = true ↔ (∃ z, s.held z = true) ∧
        ∀ i, (s.door i).installed = true → s.doorHeld i = true → (s.door i).indication = .closed)) ∧
    ∀ (s : State) (p q : PortId) (m : ZoneSet), s.MayOrder p →
    (∃ t, exec (.holdZones p (.zoneSet m)) s = .next t ∧
      t.holds = s.holds.setConsole p (s.holds.console[p] ||| m) ∧
      t = { s with ports := t.ports, doors := t.doors, units := t.units, outputs := t.outputs, holds := t.holds } ∧
      t.OutputsHold ∧ t.outputs.closure = (t.holds.union != 0) ∧ Answered p (orderEntry .ok 0) s t) ∧
    (∃ t, exec (.releaseZones p (.zoneSet m)) s = .next t ∧
      t.holds = s.holds.setConsole p (s.holds.console[p] &&& ~~~m) ∧
      t = { s with ports := t.ports, doors := t.doors, units := t.units, outputs := t.outputs, holds := t.holds } ∧
      t.OutputsHold ∧ t.outputs.closure = (t.holds.union != 0) ∧ Answered p (orderEntry .ok 0) s t) ∧
    (∃ t, exec (.releaseForeign p (.holder 4)) s = .next t ∧ t.holds = { s.holds with start := 0 } ∧
      t = { s with ports := t.ports, doors := t.doors, units := t.units, outputs := t.outputs, holds := t.holds } ∧
      t.OutputsHold ∧ Answered p (orderEntry .ok 0) s t) ∧
    (q ≠ p → (s.port q).active = false → ∃ t, exec (.releaseForeign p (.holder q.val)) s = .next t ∧
      t.holds = s.holds.setConsole q 0 ∧
      t = { s with ports := t.ports, doors := t.doors, units := t.units, outputs := t.outputs, holds := t.holds } ∧
      t.OutputsHold ∧ Answered p (orderEntry .ok 0) s t) ∧
    (s.OutputsHold → (q = p ∨ (s.port q).active = true) →
      ∃ t, exec (.releaseForeign p (.holder q.val)) s = .next t ∧ t = { s with ports := t.ports } ∧
        Answered p (orderEntry .refusedState 0) s t) ∧
    (s.OutputsHold → ∃ t, exec (.releaseForeign p (.holder 3)) s = .next t ∧ t = { s with ports := t.ports } ∧
      Answered p (orderEntry .refusedMode 0) s t)

/-- When a HOLD_ZONES from a free COMMAND port makes a zone held, an installed door of the zone is taken by its state.
OPEN or HALTED, in service, not event-faulted and local open not held, it enters WARNING with cause CLOSURE and a
full lead-in. In WARNING a cause CONSOLE becomes CLOSURE. REVERSING-to-open or OPENING with local open held its
cause CONSOLE becomes LOCAL; not held, it is halted, into WARNING with cause CLOSURE or, event-faulted, into the
rest state of its indication, and its slot is freed. UNKNOWN, CLOSED, closing or otherwise standing it stays; out of
service at rest it takes NOT_CONTROLLED. Where it is the one door of the zones so held: QUEUED(close) of class 1 its
entry moves to the end of class 0 with the order's instant, CONSOLE becoming CLOSURE, and joins the unit as such; of
class 0 it stays; QUEUED(open) with local open held its entry's CONSOLE becomes LOCAL; not held its entry leaves,
and the door goes into WARNING or, event-faulted, into its rest state. CLOSURE is the last order source of every
door that enters WARNING. A door whose zone was held before, or is not held after, and that is in no admission list,
is as it was. When a RELEASE_ZONES ends the holding of a zone, an installed door of the zone in RECLOSE_WAIT takes
the rest state of its indication with its reclose timer stopped and its pending record applied unless the hold is
on; a door of the zone in any other state keeps it; and NOT_CONTROLLED leaves the door, be it in service or out of
service (doors in no admission list). RECLOSE_TIMER_EXPIRY of a timer that has run out puts a door in RECLOSE_WAIT
into WARNING with cause RECLOSE; before its instant it changes nothing (the model's choice, assumption 4).
(04_closure_holds_and_command_authority.md section 4.4, 04_closure_holds_and_command_authority.md section 4.5,
04_closure_holds_and_command_authority.md section 4.6, 05_warning_signals.md section 5.2, notes/assumptions/4.md) -/
def Obligations.DoorsFollowTheHolds : Prop :=
  (∀ (s : State) (p : PortId) (m : ZoneSet) (i : DoorId), s.MayOrder p → s.Unlisted i →
    ∃ t, exec (.holdZones p (.zoneSet m)) s = .next t ∧
      (s.doorHeld i = false → zoneIn m (s.door i).zone = true → (s.door i).installed = true →
        (s.door i).inService = true → (s.door i).eventFaulted = false → (s.door i).localOpen = false →
        ((s.door i).state = .opened ∨ (s.door i).state = .halted) →
        t.door i = { (((s.door i).warned .closure s.runCount).cleared .notControlled) with
          lastSource := some .closure }) ∧
      ((s.doorHeld i = true ∨ zoneIn m (s.door i).zone = false) → t.door i = s.door i) ∧
      (s.doorHeld i = false → zoneIn m (s.door i).zone = true → (s.door i).installed = true →
        ((s.door i).inService = false → (s.door i).state.isRest = true → t.door i =
          if hasFault (s.door i).faults .notControlled then s.door i
          else (s.door i).faulted .notControlled s.clock.time) ∧
        ((s.door i).inService = true →
          ((s.door i).state ∈ [.unknown, .closed, .reversing .close, .closing] ∨
              (s.door i).state ∈ [.opened, .halted] ∧ ((s.door i).eventFaulted = true ∨ (s.door i).localOpen = true) →
            t.door i = (s.door i).cleared .notControlled) ∧
          ((s.door i).state = .warning → t.door i = Door.cleared { s.door i with
            leadIn := (s.door i).leadIn.map fun l => { l with
              cause := if l.cause ∈ [.console 0, .console 1, .console 2] then .closure else l.cause } } .notControlled) ∧
          ((s.door i).state ∈ [.reversing .opening, .opening] →
            ((s.door i).localOpen = true → t.door i = Door.cleared { s.door i with
              stroke := (s.door i).stroke.map fun r => { r with
                cause := if r.cause ∈ [.console 0, .console 1, .console 2] then .localControl else r.cause } }
                  .notControlled) ∧
            ((s.door i).localOpen = false → i ∉ (t.unit (s.door i).unit).holders ∧
              t.door i = if (s.door i).eventFaulted then
                ((s.door i).haltedAt (s.door i).indication.restState s.settingsHold s.runCount).cleared .notControlled
              else Door.cleared { ((s.door i).undriven s.runCount).warned .closure s.runCount with
                stroke := none, lastSource := some .closure } .notControlled))))) ∧
    (∀ (s : State) (p : PortId) (m : ZoneSet) (i : DoorId) (n : Entry) (x : PowerUnit), s.MayOrder p →
      (s.door i).installed = true → (s.door i).inService = true → s.doorHeld i = false →
      zoneIn m (s.door i).zone = true → s.entryOf i = some n → x = s.unit (s.door i).unit →
      (∀ j, (s.door j).installed = true → zoneIn m (s.door j).zone = true → s.doorHeld j = false → j = i) →
      ∃ t, exec (.holdZones p (.zoneSet m)) s = .next t ∧ OtherUnits (s.door i).unit s t ∧
        ((s.door i).state = .queued .close → n.cls = 0 →
          t.door i = (s.door i).cleared .notControlled ∧ t.unit (s.door i).unit = x ∧ OtherDoors i s t) ∧
        (∀ e, e = { n with
            cls := 0, arrival := s.runCount
            cause := if n.cause ∈ [.console 0, .console 1, .console 2] then .closure else n.cause } →
          (s.door i).state = .queued .close → n.cls = 1 →
          (x.waits s.cutoff.value = true →
            t.door i = (s.door i).cleared .notControlled ∧ t.unit (s.door i).unit = x.joined e s.runCount ∧
            OtherDoors i s t) ∧
          (x.admitsAlone i s.cutoff.value = true →
            t.door i = ((s.door i).admittedFor e s.runCount).cleared .notControlled ∧
            t.unit (s.door i).unit = x.admitted i ∧ OtherDoors i s t)) ∧
        ((s.door i).state = .queued .opening → OtherDoors i s t ∧
          ((s.door i).localOpen = true → (s.door i).stroke = none → t.door i = (s.door i).cleared .notControlled ∧
            t.unit (s.door i).unit = { x with list := x.list.map fun e => if e.door = i then { e with
              cause := if e.cause ∈ [.console 0, .console 1, .console 2] then .localControl else e.cause } else e }) ∧
          ((s.door i).localOpen = false → t.unit (s.door i).unit = x.left i s.runCount ∧
            t.door i = if (s.door i).eventFaulted then
              ((s.door i).rested (s.door i).indication.restState s.settingsHold).cleared .notControlled
            else Door.cleared { (s.door i).warned .closure s.runCount with lastSource := some .closure }
              .notControlled))) ∧
    ∀ (s : State) (p : PortId) (m : ZoneSet) (i : DoorId),
    (s.MayOrder p → s.Unlisted i → (s.door i).installed = true → s.doorHeld i = true →
      zoneIn (s.holds.setConsole p (s.holds.console[p] &&& ~~~m)).union (s.door i).zone = false →
      ∃ t, exec (.releaseZones p (.zoneSet m)) s = .next t ∧
        t.door i = if (s.door i).state = .recloseWait then
          ((s.door i).rested (s.door i).indication.restState s.settingsHold).cleared .notControlled
        else (s.door i).cleared .notControlled) ∧
    (s.powered = true → (s.door i).state = .recloseWait →
      (∀ e, (s.door i).reclose = some e → e ≤ s.runCount →
        ∃ t, exec (.recloseTimerExpiry i) s = .next t ∧
          t.door i = { (s.door i).warned .reclose s.runCount with lastSource := some .reclose } ∧
          OtherDoors i s t ∧ t = { s with ports := t.ports, doors := t.doors } ∧
          ∀ q, (s.port q).SameButMarks (t.port q)) ∧
      (∀ e, (s.door i).reclose = some e → s.runCount < e → exec (.recloseTimerExpiry i) s = .next s))

/-- From a free COMMAND port: RESET_UNIT of a FAILED unit with its pressure input inactive takes it to STOPPED, and each
of its installed doors that is demanded closed enters WARNING with cause CLOSURE; of a FAILED unit with the input
active it is REFUSED_STATE without change; of a unit in any other state it evaluates the demand in the same way and
leaves the unit. (06_power_units_and_stroke_admission.md section 6.5, 04_closure_holds_and_command_authority.md
section 4.4) -/
def Obligations.ResetUnitStopsAFailedUnit : Prop :=
  ∀ (s : State) (p : PortId) (u : UnitId), s.MayOrder p →
    (((s.unit u).state = .failed → (s.unit u).pressLow.value = false) →
      ∃ t, exec (.resetUnit p (.unit (number u))) s = .next t ∧
        t.unit u = (if (s.unit u).state = .failed then { s.unit u with state := .stopped, timer := none }
          else s.unit u) ∧
        (∀ j, t.door j = if (s.door j).unit = u ∧ s.demanded j = true then
            { (s.door j).warned .closure s.runCount with lastSource := some .closure }
          else s.door j) ∧
        OtherUnits u s t ∧ t = { s with ports := t.ports, doors := t.doors, units := t.units, outputs := t.outputs } ∧
        t.OutputsHold ∧ Answered p (orderEntry .ok 0) s t) ∧
    (s.OutputsHold → (s.unit u).state = .failed → (s.unit u).pressLow.value = true →
      ∃ t, exec (.resetUnit p (.unit (number u))) s = .next t ∧ t = { s with ports := t.ports } ∧
        Answered p (orderEntry .refusedState 0) s t)

/-- Each of the ten operational SETs from a free COMMAND port, naming an installed door, a zone or ALL, stages the value
carried, moved to the nearer bound of the setting's range, in the pending record of the door, of each installed door
of the zone, or of each installed door; a door at rest with the settings hold off has its pending record applied at
once and left empty. The answer is OK, or CLAMPED where the value was moved; a zone with no installed door is
answered OK (for ALL with none see assumption 28). SETTINGS_HOLD on sets the hold and changes no door; off, with the
hold set, clears it and applies the pending record of every installed door at rest, every other door being as it
was; off with the hold clear changes nothing. Each answers OK. Every other door and everything else stay.
(01_the_door_table.md section 1.3, 01_the_door_table.md section 1.4, notes/assumptions/28.md) -/
def Obligations.OperationalSetsAreStaged : Prop :=
  (∀ (s : State) (p : PortId) (c : Instr) (k : OpSetting) (v : Nat) (target : Target) (sel : DoorId → Bool)
    (r : Result),
    s.MayOrder p → c.item = some (p, .set (.op k v) target) →
    ((∃ i, target = .door (number i) ∧ (s.door i).installed = true ∧ ∀ j, sel j = decide (j = i)) ∨
      (∃ z, target = .zone (number z) ∧ ∀ j, sel j = ((s.door j).installed && decide ((s.door j).zone = z))) ∨
      (target = .all ∧ ∀ j, sel j = (s.door j).installed)) →
    (OpSetting.clamped k v = v ∨ (∃ z, target = .zone z) ∧ (∀ j, sel j = false) → r = .ok) →
    (OpSetting.clamped k v ≠ v → ((∀ z, target ≠ .zone z) ∨ ∃ j, sel j = true) → r = .clamped) →
    ∃ t, exec c s = .next t ∧
      (∀ j, t.door j = if sel j then (s.door j).staged k (OpSetting.clamped k v) s.settingsHold else s.door j) ∧
      OpSetting.clamped k v = (if v < OpSetting.low k then OpSetting.low k
        else if OpSetting.high k < v then OpSetting.high k else v) ∧
      t = { s with ports := t.ports, doors := t.doors, outputs := t.outputs } ∧ t.OutputsHold ∧
      Answered p (setEntry r) s t) ∧
    ∀ (s : State) (p : PortId), s.MayOrder p →
    (∃ t, exec (.settingsHold p 1) s = .next t ∧ t = { s with ports := t.ports, settingsHold := true } ∧
      Answered p (orderEntry .ok 0) s t) ∧
    (s.settingsHold = false → ∃ t, exec (.settingsHold p 0) s = .next t ∧ t = { s with ports := t.ports } ∧
      Answered p (orderEntry .ok 0) s t) ∧
    (s.settingsHold = true → ∃ t, exec (.settingsHold p 0) s = .next t ∧
      t = { s with ports := t.ports, settingsHold := false, doors := t.doors } ∧
      (∀ i, t.door i = if (s.door i).installed && (s.door i).state.isRest then
          { s.door i with settings := (s.door i).settings.applied (s.door i).pending, pending := OpRow.noPending }
        else s.door i) ∧
      Answered p (orderEntry .ok 0) s t)

/-- With the lock open, from a free COMMAND port: yes, for a blank uninstalled door whose pair no installed door has,
makes it installed, AWAITING and UNKNOWN, its pair claimed with a miss count of 0 and LINKED, with BRANCH_OFF raised
if its branch is disabled; no, for an installed door at rest whose pair has no exchange in flight and no pending
direct exchange, blanks the record as R9 gives it, frees its pair, takes the drop out of the round and the door out
of every refresh cycle, which stays present when it is emptied (assumption 15, DEDUCED). Where no other installed
door has that pair and its regular poll is in flight, the poll ends too, without a result and to be remembered for
its late frame (assumption 16, DEDUCED), and the round goes on without the drop. Both are answered OK, and nothing
else changes but the outputs by their own rule. (01_the_door_table.md section 1.2, 07_station_branches.md section
7.2, 07_station_branches.md section 7.5, 09_change_reports_and_cabinet_lines.md section 9.4,
notes/assumptions/15.md, notes/assumptions/16.md) -/
def Obligations.DoorsAreInstalledAndRemoved : Prop :=
  ∀ (s : State) (p : PortId) (i : DoorId), s.MayInstall p →
    ((s.door i).installed = false → (s.door i).state = .unknown → (s.door i).inService = true → (s.door i).faults = 0 →
      (s.door i).unacked = 0 → s.pairTaken i (s.door i).branch (s.door i).drop = false →
      ∃ t, exec (.setInstalled p (.door (number i)) 1) s = .next t ∧
        t.door i = (if (s.branch (s.door i).branch).enable then { (s.door i).unsettled with installed := true }
          else { (s.door i).unsettled.faulted .branchOff s.clock.time with installed := true }) ∧
        OtherDoors i s t ∧ t.branches = (s.modLink (s.door i).branch (s.door i).drop fun _ => DropLink.fresh).branches ∧
        t = { s with ports := t.ports, doors := t.doors, branches := t.branches, outputs := t.outputs } ∧ t.OutputsHold ∧ Answered p (setEntry .ok) s t) ∧
    ((s.door i).installed = true → (s.door i).state.isRest = true →
      (∀ x, (s.branch (s.door i).branch).exchange = some x → x.drop ≠ (s.door i).drop) →
      (∀ x, (s.branch (s.door i).branch).pendingDirect = some x → x.drop ≠ (s.door i).drop) →
      ∃ t, exec (.setInstalled p (.door (number i)) 0) s = .next t ∧ t.door i = (s.door i).removed ∧ OtherDoors i s t ∧
        t.branches = ((s.modLink (s.door i).branch (s.door i).drop fun _ => DropLink.fresh).modBranch
          (s.door i).branch fun x => { x with members := x.members.filter fun e => e ≠ (s.door i).drop }).branches ∧
        t = { s with ports := t.ports, doors := t.doors, branches := t.branches, outputs := t.outputs } ∧ t.OutputsHold ∧ Answered p (setEntry .ok) (s.leaveCycles i) t) ∧
    (∀ x b v, b = (s.door i).branch → (s.door i).installed = true → (s.door i).state.isRest = true → s.PairsLawful →
      (s.branch b).exchange = some x → x.kind = .regular → x.drop = (s.door i).drop → (s.branch b).NoDirectFor x.drop →
      v = { s with
        doors := s.doors.set i (s.door i).removed
        branches := s.branches.set b { s.branch b with
          members := (s.branch b).members.filter fun e => e ≠ x.drop } } →
      (∀ d, v.nextPoll b = some d → (s.branch b).NoDirectFor d) →
      ∃ t, exec (.setInstalled p (.door (number i)) 0) s = .next t ∧ t.door i = (s.door i).removed ∧
        (∀ j, j ≠ i → t.door j = v.ifPolled b j (s.door j)) ∧ OtherBranches b s t ∧
        GoesOn v b { v.branch b with
          exchange := none, broken := (s.branch b).broken ++ [(x.drop, x.sequence)]
          drops := (s.branch b).drops.set x.drop DropLink.fresh } t ∧
        t = { s with ports := t.ports, doors := t.doors, branches := t.branches, outputs := t.outputs } ∧
        t.OutputsHold ∧ Answered p (setEntry .ok) (s.leaveCycles i) t)

/-- With the lock open, from a free COMMAND port: a SET of branch or drop to another value, for an installed door at
rest whose new pair is free and whose old pair has no exchange in flight and no pending direct exchange, writes it,
claims the new pair and frees the old one, takes LINK_LOST and BRANCH_OFF from the door, raises BRANCH_OFF if the
new branch is disabled, and unsettles the door, which becomes UNKNOWN. Where a regular poll of the old pair is in
flight, it ends without a result, to be remembered for its late frame (assumption 16, DEDUCED), and the round of the
old branch goes on without the drop. For an uninstalled door it writes the field alone. Both are answered OK, and
nothing else changes but the outputs by their own rule. (01_the_door_table.md section 1.2,
02_position_and_indication.md section 2.6, 07_station_branches.md section 7.2, 07_station_branches.md section 7.5,
notes/assumptions/16.md) -/
def Obligations.MovedDoorsTakeTheNewPair : Prop :=
  ∀ (s : State) (p : PortId) (i : DoorId) (c : Instr) (nb : BranchId) (nd : DropId), s.MayInstall p →
    (c = .setBranch p (.door (number i)) (number nb) ∧ nd = (s.door i).drop ∧ nb ≠ (s.door i).branch ∨
      c = .setDrop p (.door (number i)) (number nd) ∧ nb = (s.door i).branch ∧ nd ≠ (s.door i).drop) →
    ((s.door i).installed = true → (s.door i).state.isRest = true → s.pairTaken i nb nd = false →
      (∀ x, (s.branch (s.door i).branch).exchange = some x → x.drop ≠ (s.door i).drop) →
      (∀ x, (s.branch (s.door i).branch).pendingDirect = some x → x.drop ≠ (s.door i).drop) →
      ∃ t, exec c s = .next t ∧
        t.door i = (if (s.branch nb).enable then
            { ((s.door i).cleared .linkLost).cleared .branchOff with branch := nb, drop := nd }
          else
            { (((s.door i).cleared .linkLost).cleared .branchOff).faulted .branchOff s.clock.time with
              branch := nb, drop := nd }).blanked s.settingsHold ∧
        OtherDoors i s t ∧
        t.branches = (((s.modLink nb nd fun _ => DropLink.fresh).modLink (s.door i).branch (s.door i).drop fun _ =>
          DropLink.fresh).modBranch (s.door i).branch fun x =>
            { x with members := x.members.filter fun e => e ≠ (s.door i).drop }).branches ∧
        t = { s with ports := t.ports, doors := t.doors, branches := t.branches, outputs := t.outputs } ∧ t.OutputsHold ∧ Answered p (setEntry .ok) s t) ∧
    (∀ x b d v, b = (s.door i).branch → (s.door i).installed = true → (s.door i).state.isRest = true →
      s.pairTaken i nb nd = false → s.PairsLawful → (s.branch b).exchange = some x → x.kind = .regular →
      x.drop = (s.door i).drop → (s.branch b).NoDirectFor x.drop →
      d = (if (s.branch nb).enable then
          { ((s.door i).cleared .linkLost).cleared .branchOff with branch := nb, drop := nd }
        else
          { (((s.door i).cleared .linkLost).cleared .branchOff).faulted .branchOff s.clock.time with
            branch := nb, drop := nd }).blanked s.settingsHold →
      v = { s with
        doors := s.doors.set i d
        branches := (((s.modLink nb nd fun _ => DropLink.fresh).modLink b x.drop fun _ => DropLink.fresh).modBranch b
          fun y => { y with members := y.members.filter fun e => e ≠ x.drop }).branches } →
      (∀ e, v.nextPoll b = some e → (s.branch b).NoDirectFor e) →
      ∃ t, exec c s = .next t ∧ t.door i = d ∧ (∀ j, j ≠ i → t.door j = v.ifPolled b j (s.door j)) ∧
        OtherBranches b v t ∧
        GoesOn v b { v.branch b with
          exchange := none, broken := (s.branch b).broken ++ [(x.drop, x.sequence)] } t ∧
        t = { s with ports := t.ports, doors := t.doors, branches := t.branches, outputs := t.outputs } ∧
        t.OutputsHold ∧ Answered p (setEntry .ok) s t) ∧
    ((s.door i).installed = false →
      ∃ t, exec c s = .next t ∧ t.door i = { s.door i with branch := nb, drop := nd } ∧ OtherDoors i s t ∧
        t = { s with ports := t.ports, doors := t.doors, outputs := t.outputs } ∧ t.OutputsHold ∧ Answered p (setEntry .ok) s t)

/-- With the lock open, from a free COMMAND port. Zone, to another zone, of an installed door in service at rest:
NOT_CONTROLLED leaves the door, and if the new zone is held and the door stands OPEN or HALTED without event fault
and with local open not held, it enters WARNING with cause CLOSURE; of one out of service, the zone is written, and
NOT_CONTROLLED is raised if the new zone is held and leaves the door if not. Unit, of a door at rest or not
installed: written. Geometry, legal and different, of a door at rest or not installed: written, and an installed
door is unsettled and becomes UNKNOWN. Label of at most 8 printable characters: written, in any state. Each is
answered OK, and nothing else changes but the outputs by their own rule. (01_the_door_table.md section 1.1,
01_the_door_table.md section 1.2, 02_position_and_indication.md section 2.6,
04_closure_holds_and_command_authority.md section 4.4, 04_closure_holds_and_command_authority.md section 4.5) -/
def Obligations.PlaceSetsWriteTheDoor : Prop :=
  ∀ (s : State) (p : PortId) (i : DoorId) (z : ZoneId) (u : UnitId) (c o : Nat) (text : List Byte), s.MayInstall p →
    ((s.door i).installed = true → (s.door i).inService = true → (s.door i).state.isRest = true → z ≠ (s.door i).zone →
      ∃ t, exec (.setZone p (.door (number i)) (number z)) s = .next t ∧
        t.door i = (if s.held z ∧ ((s.door i).state = .opened ∨ (s.door i).state = .halted) ∧
            (s.door i).eventFaulted = false ∧ (s.door i).localOpen = false then
          { ((s.door i).cleared .notControlled).warned .closure s.runCount with zone := z, lastSource := some .closure }
        else { (s.door i).cleared .notControlled with zone := z }) ∧
        OtherDoors i s t ∧ t = { s with ports := t.ports, doors := t.doors, outputs := t.outputs } ∧ t.OutputsHold ∧ Answered p (setEntry .ok) s t) ∧
    ((s.door i).installed = true → (s.door i).inService = false → (s.door i).state.isRest = true → z ≠ (s.door i).zone →
      ∃ t, exec (.setZone p (.door (number i)) (number z)) s = .next t ∧
        t.door i = { (if s.held z = false then (s.door i).cleared .notControlled
          else if hasFault (s.door i).faults .notControlled then s.door i
          else (s.door i).faulted .notControlled s.clock.time) with zone := z } ∧
        OtherDoors i s t ∧ t = { s with ports := t.ports, doors := t.doors, outputs := t.outputs } ∧ t.OutputsHold ∧
        Answered p (setEntry .ok) s t) ∧
    (((s.door i).installed = false ∨ (s.door i).state.isRest = true) →
      (∃ t, exec (.setUnit p (.door (number i)) (number u)) s = .next t ∧ t.door i = { s.door i with unit := u } ∧
        OtherDoors i s t ∧ t = { s with ports := t.ports, doors := t.doors, outputs := t.outputs } ∧ t.OutputsHold ∧ Answered p (setEntry .ok) s t) ∧
      (c ≤ 4095 → o ≤ 4095 → (c + 200 ≤ o ∨ o + 200 ≤ c) → ((s.door i).closedCount ≠ c ∨ (s.door i).openCount ≠ o) →
        ∃ t, exec (.setGeometry p (.door (number i)) c o) s = .next t ∧
          t.door i = (if (s.door i).installed then
            { s.door i with closedCount := c, openCount := o }.blanked s.settingsHold
          else { s.door i with closedCount := c, openCount := o }) ∧
          OtherDoors i s t ∧ t = { s with ports := t.ports, doors := t.doors, outputs := t.outputs } ∧ t.OutputsHold ∧ Answered p (setEntry .ok) s t)) ∧
    (text.length ≤ 8 → (∀ b ∈ text, 0x20 ≤ b.toNat ∧ b.toNat ≤ 0x7E) →
      ∃ t, exec (.setLabel p (.door (number i)) text) s = .next t ∧ t.door i = { s.door i with label := text } ∧
        OtherDoors i s t ∧ t = { s with ports := t.ports, doors := t.doors, outputs := t.outputs } ∧ t.OutputsHold ∧ Answered p (setEntry .ok) s t)

/-- From a free COMMAND port with the lock open: a SET of installed (no), branch or drop (to a free pair), zone, unit or
geometry with a legal value, for an installed door not at rest, is answered REFUSED_STATE; an installation SET whose
value no check allows, or that installs a door whose pair another installed door has, or gives an installed door
such a pair, RANGE; one whose target is a zone or ALL, RANGE. With any lock: an operational SET, CLOSE, OPEN, STOP,
SERVICE, RESET_FAULTS, SIGNAL_TEST or ACK naming a door that is not installed is answered NO_DOOR. None changes
anything but the port and the marks of the reports. (01_the_door_table.md section 1.2, 01_the_door_table.md section
1.3, 04_closure_holds_and_command_authority.md section 4.7, 08_console_ports_and_request_frames.md section 8.4) -/
def Obligations.DoorItemsAreRefused : Prop :=
  ∀ (s : State) (p : PortId) (i : DoorId) (c : Instr) (w : SettingWrite) (target : Target), s.OutputsHold →
    (s.MayInstall p → c.item = some (p, .set w (.door (number i))) → (s.door i).installed = true →
      (s.door i).state.isRest = false →
      (w = .installed 0 ∨ (∃ b : BranchId, w = .branch (number b) ∧ s.pairTaken i b (s.door i).drop = false) ∨
        (∃ d : DropId, w = .drop (number d) ∧ s.pairTaken i (s.door i).branch d = false) ∨ (∃ z : ZoneId, w = .zone (number z)) ∨ (∃ u : UnitId, w = .unit (number u)) ∨
        ∃ a b, w = .geometry a b ∧ a ≤ 4095 ∧ b ≤ 4095 ∧ (a + 200 ≤ b ∨ b + 200 ≤ a)) →
      ∃ t, exec c s = .next t ∧ t = { s with ports := t.ports } ∧ Answered p (setEntry .refusedState) s t) ∧
    (s.MayInstall p → c.item = some (p, .set w (.door (number i))) →
      ((∃ v, w = .installed v ∧ 2 ≤ v) ∨ (∃ v, w = .branch v ∧ (v = 0 ∨ 4 < v)) ∨
        (∃ v, w = .drop v ∧ (v = 0 ∨ 12 < v)) ∨ (∃ v, w = .zone v ∧ (v = 0 ∨ 16 < v)) ∨
        (∃ v, w = .unit v ∧ (v = 0 ∨ 4 < v)) ∨
        (∃ a b, w = .geometry a b ∧ (4095 < a ∨ 4095 < b ∨ (a < b + 200 ∧ b < a + 200))) ∨
        (∃ x, w = .label x ∧ (8 < x.length ∨ ∃ b ∈ x, b.toNat < 0x20 ∨ 0x7E < b.toNat)) ∨
        (w = .installed 1 ∧ s.pairTaken i (s.door i).branch (s.door i).drop = true) ∨
        (s.door i).installed = true ∧
          ((∃ b : BranchId, w = .branch (number b) ∧ s.pairTaken i b (s.door i).drop = true) ∨
            ∃ d : DropId, w = .drop (number d) ∧ s.pairTaken i (s.door i).branch d = true)) →
      ∃ t, exec c s = .next t ∧ t = { s with ports := t.ports } ∧ Answered p (setEntry .range) s t) ∧
    (s.MayInstall p → c.item = some (p, .set w target) → ((∃ z, target = .zone z) ∨ target = .all) →
      ((∃ v, w = .installed v ∨ w = .branch v ∨ w = .drop v ∨ w = .zone v ∨ w = .unit v) ∨
        (∃ a b, w = .geometry a b) ∨ ∃ x, w = .label x) →
      ∃ t, exec c s = .next t ∧ t = { s with ports := t.ports } ∧ Answered p (setEntry .range) s t) ∧
    (s.MayOrder p → (s.door i).installed = false →
      (∀ k v, c.item = some (p, .set (.op k v) (.door (number i))) →
        ∃ t, exec c s = .next t ∧ t = { s with ports := t.ports } ∧ Answered p (setEntry .noDoor) s t) ∧
      (c ∈ [.close p (.door (number i)), .openDoor p (.door (number i)), .stop p (.door (number i)),
          .service p (.door (number i)) 0, .service p (.door (number i)) 1, .resetFaults p (.door (number i)),
          .signalTest p (.door (number i)), .ack p (.door (number i))] →
        ∃ t, exec c s = .next t ∧ t = { s with ports := t.ports } ∧ Answered p (orderEntry .noDoor 0) s t))

/-- A power-on opens the lock exactly if the key is active; no other command opens it; a warm restart keeps it. LOCK
from a MONITOR port is answered REFUSED_ROLE without change, from a COMMAND port OK, the lock closed afterwards and,
if it was open, every port's summary changed flag set. While the lock is closed every SET of a door installation
setting, unit setting, branch setting, port role, start closed or the fault alarm mask from a COMMAND port is
answered LOCKED without change. FETCH IDENTITY shows the lock in bit 0 of its last byte. (The image has no field for
the lock.) (R182) -/
def Obligations.CommissioningLockRule : Prop :=
  ∀ (s : State) (p : PortId) (c : Instr) (w : SettingWrite) (target : Target),
    (∀ k a o l y t, exec (.powerOn k a o l y) s = .next t → t.store.lockOpen = k) ∧
    (∀ t, (∀ k a o l y, c ≠ .powerOn k a o l y) → exec c s = .next t → t.store.lockOpen = true →
      s.store.lockOpen = true) ∧
    (∀ t, exec (.responseSent p) s = .next t → t.store.lockOpen = s.store.lockOpen) ∧
    (s.Free p → (s.port p).role = .monitor →
      ∃ t, exec (.lock p) s = .next t ∧ t = { s with ports := t.ports } ∧ Answered p (orderEntry .refusedRole 0) s t) ∧
    (s.MayOrder p →
      ∃ t, exec (.lock p) s = .next t ∧ t = { s with ports := t.ports, store := { s.store with lockOpen := false } } ∧
        Answered p (orderEntry .ok 0) s t ∧ (s.store.lockOpen = true → ∀ q, (t.port q).summaryChanged = true)) ∧
    (s.MayOrder p → s.OutputsHold → s.store.lockOpen = false → guardedByLock w = true →
      itemMalformed (.set w target) = false → c.item = some (p, .set w target) →
      ∃ t, exec c s = .next t ∧ t = { s with ports := t.ports } ∧ Answered p (setEntry .locked) s t) ∧
    ((s.objectBytes .identity 0)[16]?.map fun b => b.getLsbD 0) = some s.store.lockOpen

/-- With the lock open, from a free COMMAND port: a SET of slot limit (1..8, unit STOPPED), start time (500..30000),
holdoff (10..600), age time (0..10000), urgent count (1..8), round period (50..1000), reply timeout (5..50) or lost
threshold (2..8) writes the field and is answered OK; a slot limit in range for a unit not STOPPED is answered
REFUSED_STATE; any value outside its range RANGE. Nothing else changes but the outputs by their own rule.
(06_power_units_and_stroke_admission.md section 6.1, 07_station_branches.md section 7.1) -/
def Obligations.UnitAndBranchSetsWriteOneField : Prop :=
  ∀ (s : State) (p : PortId) (c : Instr) (u : UnitId) (b : BranchId) (v : Nat), s.MayInstall p →
    (∀ x : PowerUnit,
      (c = .setSlotLimit p (.unit (number u)) v ∧ 1 ≤ v ∧ v ≤ 8 ∧ (s.unit u).state = .stopped ∧
          x = { s.unit u with slotLimit := v } ∨
        c = .setStartTime p (.unit (number u)) v ∧ 500 ≤ v ∧ v ≤ 30000 ∧ x = { s.unit u with startTime := v } ∨
        c = .setHoldoff p (.unit (number u)) v ∧ 10 ≤ v ∧ v ≤ 600 ∧ x = { s.unit u with holdoff := v } ∨
        c = .setAgeTime p (.unit (number u)) v ∧ v ≤ 10000 ∧ x = { s.unit u with ageTime := v } ∨
        c = .setUrgentCount p (.unit (number u)) v ∧ 1 ≤ v ∧ v ≤ 8 ∧ x = { s.unit u with urgentCount := v }) →
      ∃ t, exec c s = .next t ∧ t = { s with ports := t.ports, units := s.units.set u x, outputs := t.outputs } ∧
        t.OutputsHold ∧ Answered p (setEntry .ok) s t) ∧
    (∀ x : Branch,
      (c = .setRoundPeriod p (.branch (number b)) v ∧ 50 ≤ v ∧ v ≤ 1000 ∧ x = { s.branch b with roundPeriod := v } ∨
        c = .setReplyTimeout p (.branch (number b)) v ∧ 5 ≤ v ∧ v ≤ 50 ∧ x = { s.branch b with replyTimeout := v } ∨
        c = .setLostThreshold p (.branch (number b)) v ∧ 2 ≤ v ∧ v ≤ 8 ∧ x = { s.branch b with lostThreshold := v }) →
      ∃ t, exec c s = .next t ∧ t = { s with ports := t.ports, branches := s.branches.set b x, outputs := t.outputs } ∧
        t.OutputsHold ∧ Answered p (setEntry .ok) s t) ∧
    (s.OutputsHold → c = .setSlotLimit p (.unit (number u)) v → 1 ≤ v → v ≤ 8 → (s.unit u).state ≠ .stopped →
      ∃ t, exec c s = .next t ∧ t = { s with ports := t.ports } ∧ Answered p (setEntry .refusedState) s t) ∧
    (s.OutputsHold →
      (c = .setSlotLimit p (.unit (number u)) v ∧ (v = 0 ∨ 8 < v) ∨
        c = .setStartTime p (.unit (number u)) v ∧ (v < 500 ∨ 30000 < v) ∨
        c = .setHoldoff p (.unit (number u)) v ∧ (v < 10 ∨ 600 < v) ∨
        c = .setAgeTime p (.unit (number u)) v ∧ 10000 < v ∨
        c = .setUrgentCount p (.unit (number u)) v ∧ (v = 0 ∨ 8 < v) ∨
        c = .setRoundPeriod p (.branch (number b)) v ∧ (v < 50 ∨ 1000 < v) ∨
        c = .setReplyTimeout p (.branch (number b)) v ∧ (v < 5 ∨ 50 < v) ∨
        c = .setLostThreshold p (.branch (number b)) v ∧ (v < 2 ∨ 8 < v) ∨
        c = .setEnable p (.branch (number b)) v ∧ 1 < v) →
      ∃ t, exec c s = .next t ∧ t = { s with ports := t.ports } ∧ Answered p (setEntry .range) s t)

/-- With the lock open, from a free COMMAND port, with no pending direct exchange on the branch. No, for an enabled
branch: its exchange in flight ends without a result, to be remembered for its late frame (assumption 16), its round
stops with counter 0, every pair is fresh, and each installed door of it at rest loses LINK_LOST, takes BRANCH_OFF
and becomes UNKNOWN, nothing else changing if all of them are at rest; a door of it that moves, and waits in no
admission list, becomes UNKNOWN too. Yes, for a disabled branch whose doors are at rest: BRANCH_OFF leaves its
installed doors and a round starts: with no door it is completed at once, otherwise its lowest drop is polled with
drive OFF and with the signals its door has once BRANCH_OFF has left it. A value already held changes nothing.
(07_station_branches.md section 7.5, notes/assumptions/16.md) -/
def Obligations.BranchesAreDisabledAndEnabled : Prop :=
  ∀ (s : State) (p : PortId) (b : BranchId), s.MayInstall p → (s.branch b).pendingDirect = none →
    ((s.branch b).enable = true →
      ∃ t, exec (.setEnable p (.branch (number b)) 0) s = .next t ∧
        t.branch b = { s.branch b with
          enable := false, exchange := none, members := [], roundTimer := none, roundCounter := 0
          drops := Vector.replicate 12 DropLink.fresh
          broken := (s.branch b).broken ++ ((s.branch b).exchange.map fun x => (x.drop, x.sequence)).toList } ∧
        OtherBranches b s t ∧
        (∀ j, s.Unlisted j → (s.door j).installed = true → (s.door j).branch = b → (t.door j).state = .unknown ∧
          (t.door j).indication = .unknown ∧ (t.door j).phase = .awaiting ∧
          hasFault (t.door j).faults .branchOff = true ∧ hasFault (t.door j).faults .linkLost = false) ∧
        t = { s with ports := t.ports, doors := t.doors, units := t.units, branches := t.branches
                     outputs := t.outputs } ∧ t.OutputsHold ∧ Answered p (setEntry .ok) s t ∧
        ((∀ j, (s.door j).installed = true → (s.door j).branch = b → (s.door j).state.isRest = true) →
          t.units = s.units ∧ ∀ j, t.door j =
            if (s.door j).installed ∧ (s.door j).branch = b then
              (if hasFault (s.door j).faults .branchOff then (s.door j).cleared .linkLost
                else ((s.door j).cleared .linkLost).faulted .branchOff s.clock.time).blanked s.settingsHold
            else s.door j)) ∧
    ((s.branch b).enable = false →
      (∀ j, (s.door j).installed = true → (s.door j).branch = b → (s.door j).state.isRest = true) →
      ∃ t, exec (.setEnable p (.branch (number b)) 1) s = .next t ∧ OtherBranches b s t ∧
        (s.claimedDrops b = [] → t.branch b = { s.branch b with
          enable := true, roundTimer := some (s.runCount + (s.branch b).roundPeriod), members := []
          roundCounter := nextRound (s.branch b).roundCounter }) ∧
        (∀ d rest i, s.claimedDrops b = d :: rest → s.claimant b d = some i → t.branch b = { s.branch b with
          enable := true, roundTimer := some (s.runCount + (s.branch b).roundPeriod), members := rest }.sent
            s.runCount d .regular none (t.signalCommand i)) ∧
        (∀ j, t.door j = if (s.door j).installed ∧ (s.door j).branch = b then (s.door j).cleared .branchOff
          else s.door j) ∧
        t = { s with ports := t.ports, doors := t.doors, branches := t.branches, outputs := t.outputs } ∧ t.OutputsHold ∧ Answered p (setEntry .ok) s t) ∧
    (∀ v, (v = 0 ∧ (s.branch b).enable = false ∨ v = 1 ∧ (s.branch b).enable = true) → s.OutputsHold →
      ∃ t, exec (.setEnable p (.branch (number b)) v) s = .next t ∧ t = { s with ports := t.ports } ∧
        Answered p (setEntry .ok) s t)

/-- From a free COMMAND port: silence time, report spacing and refresh period of the port itself are written, clamped to
2..60 s, 100..2000 ms and 1..60 s, with CLAMPED where moved (a report due already keeps its spacing, assumption 27,
DEDUCED); naming another port is RANGE. With the lock open the role of any port is written, but MONITOR for a port
whose own set holds a zone is REFUSED_STATE, and a value above 1 is RANGE. From a free port of either role, reports
enabled (yes, when off) makes the changed doors exactly the installed ones (a removed one still waiting is dropped,
assumption 39, DESIGN CHOICE), no position reported, the summary changed, and the refresh period begin; (no, when
on) makes the refresh cycle and its start absent; a value already held changes nothing. With the lock open: start
closed takes 0 or 1, and any other value is RANGE; the fault alarm mask takes the 12 fault bits, and a mask with any
of bits 12 to 15 is RANGE. With any lock: an absent vessel identity takes 1 to 16 printable characters, one of no
character, of more than 16 or with one that is not printable is RANGE, and a written one is LOCKED; the clock trim
takes an interval of at most 3600 s and the direction 0x01 or 0xFF, its timer starting for a non-zero interval and
stopping for 0; an interval above it, and any other direction, is RANGE. Nothing else changes but the outputs.
(04_closure_holds_and_command_authority.md section 4.2, 08_console_ports_and_request_frames.md section 8.4,
09_change_reports_and_cabinet_lines.md section 9.2, 10_vessel_clock.md section 10.1,
11_commissioning_settings_store_and_start_up.md section 11.3, notes/assumptions/27.md, notes/assumptions/39.md) -/
def Obligations.PortAndDeviceSetsWriteTheirFields : Prop :=
  (∀ (s : State) (p q : PortId) (v w : Nat) (r : Role),
    (s.MayOrder p →
      (w = clamp 2 60 v → ∃ t, exec (.setSilenceTime p (.port p.val) v) s = .next t ∧
        t = { s with ports := t.ports, outputs := t.outputs } ∧ t.OutputsHold ∧
        Answered p (setEntry (if w = v then .ok else .clamped))
          { s with ports := s.ports.set p { s.port p with silenceTime := w } } t) ∧
      (w = clamp 100 2000 v → ∃ t, exec (.setReportSpacing p (.port p.val) v) s = .next t ∧
        t = { s with ports := t.ports, outputs := t.outputs } ∧ t.OutputsHold ∧
        Answered p (setEntry (if w = v then .ok else .clamped))
          { s with ports := s.ports.set p { s.port p with
            reportSpacing := w
            dueSpacing := if (s.port p).reportsEnabled ∧ ((s.port p).changed ≠ [] ∨ (s.port p).summaryChanged = true ∨
                (s.port p).refreshCycle ≠ none ∨ (s.port p).active = false) then
              some ((s.port p).dueSpacing.getD (s.port p).reportSpacing) else none } } t) ∧
      (w = clamp 1 60 v → ∃ t, exec (.setRefreshPeriod p (.port p.val) v) s = .next t ∧
        t = { s with ports := t.ports, outputs := t.outputs } ∧ t.OutputsHold ∧
        Answered p (setEntry (if w = v then .ok else .clamped))
          { s with ports := s.ports.set p { s.port p with refreshPeriod := w } } t) ∧
      (q ≠ p → s.OutputsHold → ∀ c ∈ [Instr.setSilenceTime p (.port q.val) v, .setReportSpacing p (.port q.val) v,
          .setRefreshPeriod p (.port q.val) v, .setReportsEnabled p (.port q.val) v],
        ∃ t, exec c s = .next t ∧ t = { s with ports := t.ports } ∧ Answered p (setEntry .range) s t)) ∧
    (s.MayInstall p →
      (readRole v = some r → (r = .command ∨ s.holds.console[q] = 0) →
        ∃ t, exec (.setPortRole p (.port q.val) v) s = .next t ∧
          t = { s with ports := t.ports, outputs := t.outputs } ∧ t.OutputsHold ∧
          Answered p (setEntry .ok) { s with ports := s.ports.set q { s.port q with role := r } } t) ∧
      (s.holds.console[q] ≠ 0 → s.OutputsHold →
        ∃ t, exec (.setPortRole p (.port q.val) 1) s = .next t ∧ t = { s with ports := t.ports } ∧
          Answered p (setEntry .refusedState) s t) ∧
      (2 ≤ v → s.OutputsHold → ∃ t, exec (.setPortRole p (.port q.val) v) s = .next t ∧
        t = { s with ports := t.ports } ∧ Answered p (setEntry .range) s t)) ∧
    (s.Free p →
      ((s.port p).reportsEnabled = false → ∃ t, exec (.setReportsEnabled p (.port p.val) 1) s = .next t ∧
        t = { s with ports := t.ports, outputs := t.outputs } ∧ t.OutputsHold ∧
        (t.port p).changed = s.installedDoors ∧ (t.port p).summaryChanged = true ∧
        Answered p (setEntry .ok) { s with ports := s.ports.set p { s.port p with
          reportsEnabled := true, lastReported := Vector.replicate 48 none, refreshStart := some s.runCount } } t) ∧
      ((s.port p).reportsEnabled = true → ∃ t, exec (.setReportsEnabled p (.port p.val) 0) s = .next t ∧
        t = { s with ports := t.ports, outputs := t.outputs } ∧ t.OutputsHold ∧
        Answered p (setEntry .ok) { s with ports := s.ports.set p { s.port p with
          reportsEnabled := false, dueSpacing := none, refreshCycle := none, refreshStart := none } } t) ∧
      (v = (if (s.port p).reportsEnabled then 1 else 0) → s.OutputsHold →
        ∃ t, exec (.setReportsEnabled p (.port p.val) v) s = .next t ∧ t = { s with ports := t.ports } ∧
          Answered p (setEntry .ok) s t))) ∧
    ∀ (s : State) (p : PortId) (v : Nat) (m : BitVec 16) (text : List Byte) (d : Byte),
    (s.MayInstall p →
      (v ≤ 1 → ∃ t, exec (.setStartClosed p .device v) s = .next t ∧
        t = { s with ports := t.ports, store := { s.store with startClosed := decide (v = 1) }, outputs := t.outputs } ∧
        t.OutputsHold ∧ Answered p (setEntry .ok) s t) ∧
      (2 ≤ v → s.OutputsHold → ∃ t, exec (.setStartClosed p .device v) s = .next t ∧
        t = { s with ports := t.ports } ∧ Answered p (setEntry .range) s t) ∧
      (m.toNat < 4096 → ∃ t, exec (.setFaultAlarmMask p .device m) s = .next t ∧
        t = { s with ports := t.ports, store := { s.store with alarmMask := m.setWidth 12 }, outputs := t.outputs } ∧
        t.OutputsHold ∧ Answered p (setEntry .ok) s t) ∧
      (4096 ≤ m.toNat → s.OutputsHold → ∃ t, exec (.setFaultAlarmMask p .device m) s = .next t ∧
        t = { s with ports := t.ports } ∧ Answered p (setEntry .range) s t)) ∧
    (s.MayOrder p →
      (s.store.identity = [] → 1 ≤ text.length → text.length ≤ 16 → (∀ b ∈ text, 0x20 ≤ b.toNat ∧ b.toNat ≤ 0x7E) →
        ∃ t, exec (.setVesselIdentity p .device text) s = .next t ∧
          t = { s with ports := t.ports, store := { s.store with identity := text }, outputs := t.outputs } ∧
          t.OutputsHold ∧ Answered p (setEntry .ok) s t) ∧
      (s.store.identity = [] → (text = [] ∨ 16 < text.length ∨ ∃ b ∈ text, b.toNat < 0x20 ∨ 0x7E < b.toNat) →
        s.OutputsHold → ∃ t, exec (.setVesselIdentity p .device text) s = .next t ∧
          t = { s with ports := t.ports } ∧ Answered p (setEntry .range) s t) ∧
      (s.store.identity ≠ [] → s.OutputsHold → ∃ t, exec (.setVesselIdentity p .device text) s = .next t ∧
        t = { s with ports := t.ports } ∧ Answered p (setEntry .locked) s t) ∧
      (v ≤ 3600 → (d = 0x01 ∨ d = 0xFF) → ∃ t, exec (.setClockTrim p .device v d) s = .next t ∧
        t = { s with ports := t.ports, outputs := t.outputs
                     clock := { s.clock with
                       trimInterval := v, trimForward := decide (d = 0x01)
                       trimTimer := if v = 0 then none else some (s.runCount + v * 1000) } } ∧
        t.OutputsHold ∧ Answered p (setEntry .ok) s t) ∧
      ((3600 < v ∨ (d ≠ 0x01 ∧ d ≠ 0xFF)) → s.OutputsHold → ∃ t, exec (.setClockTrim p .device v d) s = .next t ∧
        t = { s with ports := t.ports } ∧ Answered p (setEntry .range) s t))

/-- At a D48 with supply: the six receiver events make the receiver of the port or branch collect or hunt and change
nothing else. RESPONSE_SEND begins the first waiting response on a free transmitter. RESPONSE_SENT of a response
that carries no restart frees the transmitter and, for an EXECUTED response with no request in execution, restarts
the silence timer. SILENCE_TIMEOUT of a timer that has run out makes the port SILENT with its attention set and
every summary changed. RESPONSE_SEND at a busy transmitter and SILENCE_TIMEOUT before its instant change nothing
(the model's choice, assumption 4), and a later request that has ended already does not hold the timer back
(assumption 31). (07_station_branches.md section 7.3, 08_console_ports_and_request_frames.md section 8.2,
08_console_ports_and_request_frames.md section 8.3, 08_console_ports_and_request_frames.md section 8.6,
notes/assumptions/4.md, notes/assumptions/31.md) -/
def Obligations.ReceiversAndResponses : Prop :=
  ∀ (s : State) (p : PortId) (b : BranchId), s.powered = true →
    exec (.consoleStartByte p) s = .next { s with ports := s.ports.set p { s.port p with collecting := true } } ∧
    exec (.consoleReceiveTimeout p) s = .next { s with ports := s.ports.set p { s.port p with collecting := false } } ∧
    exec (.consoleLengthOver256 p) s = .next { s with ports := s.ports.set p { s.port p with collecting := false } } ∧
    exec (.branchStartByte b) s = .next { s with branches := s.branches.set b { s.branch b with collecting := true } } ∧
    exec (.branchReceiveTimeout b) s =
      .next { s with branches := s.branches.set b { s.branch b with collecting := false } } ∧
    exec (.branchDataLengthOver8 b) s =
      .next { s with branches := s.branches.set b { s.branch b with collecting := false } } ∧
    (∀ r rest, (s.port p).sending = none → (s.port p).queue = r :: rest → exec (.responseSend p) s =
      .next { s with ports := s.ports.set p { s.port p with sending := some (.response r), queue := rest } }) ∧
    (((s.port p).sending ≠ none ∨ (s.port p).queue = []) → exec (.responseSend p) s = .next s) ∧
    (∀ r, (s.port p).sending = some (.response r) → r.carriesRestart = false → exec (.responseSent p) s =
      .next { s with ports := s.ports.set p { s.port p with
        sending := none
        silenceTimer := if r.busy = false ∧ (s.port p).request = none then
            some (s.runCount + (s.port p).silenceTime * 1000)
          else (s.port p).silenceTimer } }) ∧
    (∀ e, (s.port p).silenceTimer = some e →
      (e ≤ s.runCount → ∃ t, exec (.silenceTimeout p) s = .next t ∧
        t = { s with ports := t.ports, outputs := t.outputs } ∧ t.OutputsHold ∧ OtherPorts p s t ∧
        t.port p = { s.port p with
          active := false, silenceTimer := none, attention := true, summaryChanged := (t.port p).summaryChanged } ∧
        (((s.port p).active = true ∨ (s.port p).attention = false) → ∀ q, (t.port q).summaryChanged = true)) ∧
      (s.runCount < e → s.OutputsHold → exec (.silenceTimeout p) s = .next s))

/-- When the response that carries the pending restart has been sent, with no direct exchange in flight: every installed
door is UNKNOWN and AWAITING without stroke, lead-in, timers or condition faults but BRANCH_OFF and NOT_CONTROLLED
where their conditions hold, its pending record applied unless the hold is on; every unit is STOPPED and empty;
every pair is fresh, and each enabled branch starts a round, a pending direct exchange of its first drop being sent
in place of the poll; every port's report state starts again; the restart is no longer pending. Run count, clock,
holds, settings hold, inputs, store and settings stay. A port with reports enabled has every installed door in its
changed-door set, its summary changed flag set and its refresh start at this instant; one without has an empty set
and no refresh start, and its flag only where an output or, by an empty round, a round counter has changed since. No
port has a reported position or a refresh cycle. (01_the_door_table.md section 1.7,
03_door_motion_and_stroke_supervision.md section 3.9, 05_warning_signals.md section 5.1,
06_power_units_and_stroke_admission.md section 6.7, 07_station_branches.md section 7.2, 07_station_branches.md
section 7.7, 09_change_reports_and_cabinet_lines.md section 9.1, 11_commissioning_settings_store_and_start_up.md
section 11.5) -/
def Obligations.WarmRestartRestartsEveryBlock : Prop :=
  ∀ (s : State) (p : PortId) (r : Response), s.powered = true →
    (∀ b x, (s.branch b).exchange = some x → x.kind = .regular) → (s.port p).sending = some (.response r) →
    r.carriesRestart = true → s.store.restartPending ≠ none →
    ∃ t, exec (.responseSent p) s = .next t ∧
      t = { s with doors := t.doors, units := t.units, branches := t.branches, ports := t.ports, outputs := t.outputs
                   store := { s.store with restartPending := none } } ∧ t.OutputsHold ∧
      (∀ j, t.door j = if (s.door j).installed then (s.door j).afterRestart s
        else { (s.door j).undriven s.runCount with
          stroke := none, reclose := none, leadIn := none, tail := none, test := none }) ∧
      (∀ u, t.unit u = (s.unit u).restarted) ∧
      (∀ b, (t.branch b).image = (s.branch b).image ∧ (t.branch b).pendingDirect = (s.branch b).pendingDirect ∧
        (∀ d, t.link b d = DropLink.fresh) ∧
        ((s.branch b).enable = false → (t.branch b).exchange = none ∧ (t.branch b).roundTimer = none ∧
          (t.branch b).members = [] ∧ (t.branch b).roundCounter = 0) ∧
        ((s.branch b).enable = true →
          (t.branch b).roundTimer = some (s.runCount + (s.branch b).roundPeriod) ∧
          (s.claimedDrops b = [] → (t.branch b).exchange = none ∧ (t.branch b).roundCounter = 1) ∧
          ∀ d rest, s.claimedDrops b = d :: rest → (t.branch b).roundCounter = 0 ∧ (t.branch b).members = rest ∧
            (t.branch b).exchange = some
              { drop := d, sequence := (s.branch b).sequence, deadline := s.runCount + (s.branch b).replyTimeout
                kind := (((s.branch b).pendingDirect.filter fun x => x.drop = d).map fun x => x.kind).getD .regular })) ∧
      (((s.port p).responseSent r s.runCount).restarted s.installedDoors s.runCount).SameButMarks (t.port p) ∧
      (∀ q, q ≠ p → ((s.port q).restarted s.installedDoors s.runCount).SameButMarks (t.port q)) ∧
      ∀ q, (t.port q).changed = (if (s.port q).reportsEnabled then s.installedDoors else []) ∧
        ((t.port q).summaryChanged = true ↔
          (s.port q).reportsEnabled = true ∨ t.outputs ≠ s.outputs ∨ ∃ b, (t.branch b).roundCounter ≠ 0) ∧
        (t.port q).refreshStart = (if (s.port q).reportsEnabled then some s.runCount else none) ∧
        (t.port q).refreshCycle = none ∧ ∀ i : DoorId, (t.port q).lastReported[i] = none

/-- At a D48 with supply: REPORT_SEND on a free transmitter with a ready report sends it with the port's report
sequence, the clock's time, the summary and the entries of the first 24 doors of the refresh cycle, or of the
changed-door set without one; those doors leave the changed-door set, their positions are recorded as reported, the
sequence goes on modulo 256, the summary changed flag clears and the instant is recorded; what is left of a cycle
follows the doors sent, and a cycle of at most 24 doors is absent then. REPORT_SENT frees the transmitter.
REFRESH_DUE, when the effective period has passed with no cycle present, makes a cycle of all installed doors,
present though it may have none (assumption 15, DEDUCED). Without a ready report or a free transmitter, and before
the period has passed, these events change nothing (the model's choice, assumption 4); a report due before its
spacing was changed keeps the old one (assumption 27, DEDUCED). (08_console_ports_and_request_frames.md section 8.6,
09_change_reports_and_cabinet_lines.md section 9.3, 09_change_reports_and_cabinet_lines.md section 9.4,
12_frame_and_record_layouts.md section 12.5, notes/assumptions/4.md, notes/assumptions/15.md,
notes/assumptions/27.md) -/
def Obligations.ReportsCarryTheChangedDoors : Prop :=
  ∀ (s : State) (p : PortId), s.powered = true →
    ((s.port p).reportsEnabled = true →
      ((s.port p).changed ≠ [] ∨ (s.port p).summaryChanged = true ∨ (s.port p).refreshCycle ≠ none) →
      (∀ e, (s.port p).lastReport = some e → e + (s.port p).dueSpacing.getD (s.port p).reportSpacing ≤ s.runCount) →
      (s.port p).sending = none → (s.port p).queue = [] →
      ∃ t, exec (.reportSend p) s = .next t ∧ t = { s with ports := s.ports.set p (t.port p) } ∧
        t.port p = { s.port p with
          sending := some (.report
            { sequence := (s.port p).reportSequence, stamp := s.clock.time
              summary := s.summaryBlock (t.port p).changed.length
              entries := (s.port p).reportDoors.map fun i => (s.door i).entryBytes i })
          reportSequence := ((s.port p).reportSequence + 1) % 256
          changed := (s.port p).changed.filter fun i => !(s.port p).reportDoors.contains i
          refreshCycle := (t.port p).refreshCycle, lastReported := (t.port p).lastReported
          summaryChanged := false, dueSpacing := none, lastReport := some s.runCount } ∧
        (∀ i : DoorId, (t.port p).lastReported[i] =
          if i ∈ (s.port p).reportDoors then (s.door i).position else (s.port p).lastReported[i]) ∧
        ((s.port p).refreshCycle = none → (s.port p).reportDoors = (s.port p).changed.take 24 ∧
          (t.port p).refreshCycle = none) ∧
        (∀ l, (s.port p).refreshCycle = some l → (s.port p).reportDoors = l.take 24 ∧
          (t.port p).refreshCycle = if l.length ≤ 24 then none else some (l.drop 24))) ∧
    (((s.port p).reportReady s.runCount = false ∨ (s.port p).transmitterFree = false) →
      exec (.reportSend p) s = .next s) ∧
    (∀ r, (s.port p).sending = some (.report r) →
      exec (.reportSent p) s = .next { s with ports := s.ports.set p { s.port p with sending := none } }) ∧
    (∀ e, (s.port p).reportsEnabled = true → (s.port p).refreshCycle = none → (s.port p).refreshStart = some e →
      (e + (if s.anyUnacked then (s.port p).refreshPeriod * 1000 / 2 else (s.port p).refreshPeriod * 1000) ≤ s.runCount →
        exec (.refreshDue p) s = .next { s with ports := s.ports.set p { s.port p with
          refreshCycle := some s.installedDoors, refreshStart := some s.runCount } }) ∧
      (s.runCount < e + (if s.anyUnacked then (s.port p).refreshPeriod * 1000 / 2
          else (s.port p).refreshPeriod * 1000) →
        exec (.refreshDue p) s = .next s))

/-- For every step but one that takes a POWER_ON, and every port, but for a port with reports disabled at the step in
which a warm restart takes effect (R167 empties its set there and clears its flag): each door, installed before or
after, whose state, indication, fault set, unacknowledged set, late-forecast flag, in-service flag, installation,
branch, drop, zone, unit or geometry differs after the step is in the port's changed-door set; so is each whose
position has changed to one that lies 5 permille or more from the position last reported to the port, or is 0 or
1000 while that is not, or while none has been reported. The port's summary changed flag is set where any holder's
zone set, unit's state or attention, debounced input, output, round counter, port's activity or attention, or the
image fault differs. One write of a door, as every command makes them, adds that door alone, and only for such a
change; and a changed-door set in ascending order, with no door twice, stays so over every step.
(09_change_reports_and_cabinet_lines.md section 9.1, 11_commissioning_settings_store_and_start_up.md section 11.5) -/
def Obligations.EveryChangeIsMarkedForTheReports : Prop :=
  (∀ (s t : State), step s = .next t → (∀ k a o l y rest, s.pending ≠ .powerOn k a o l y :: rest) → ∀ q,
      (s.store.restartPending = none ∨ t.store.restartPending ≠ none ∨ (t.port q).reportsEnabled = true) →
      (∀ i, ((s.door i).installed = true ∨ (t.door i).installed = true) →
        ((t.door i).state ≠ (s.door i).state ∨ (t.door i).indication ≠ (s.door i).indication ∨
            (t.door i).faults ≠ (s.door i).faults ∨ (t.door i).unacked ≠ (s.door i).unacked ∨
            (t.door i).lateForecast ≠ (s.door i).lateForecast ∨ (t.door i).inService ≠ (s.door i).inService ∨
            (t.door i).installed ≠ (s.door i).installed ∨ (t.door i).branch ≠ (s.door i).branch ∨
            (t.door i).drop ≠ (s.door i).drop ∨ (t.door i).zone ≠ (s.door i).zone ∨
            (t.door i).unit ≠ (s.door i).unit ∨ (t.door i).closedCount ≠ (s.door i).closedCount ∨
            (t.door i).openCount ≠ (s.door i).openCount ∨
          (t.door i).position ≠ (s.door i).position ∧ ∀ x, (t.door i).position = some x →
            ∀ r, (s.port q).lastReported[i] = some r →
              r + 5 ≤ x ∨ x + 5 ≤ r ∨ (x = 0 ∨ x = 1000) ∧ r ≠ 0 ∧ r ≠ 1000) →
        i ∈ (t.port q).changed) ∧
      ((t.holds ≠ s.holds ∨ (∃ u, (t.unit u).state ≠ (s.unit u).state ∨ (t.unit u).attention ≠ (s.unit u).attention ∨
            (t.unit u).pressLow.value ≠ (s.unit u).pressLow.value) ∨ t.closeAll.value ≠ s.closeAll.value ∨
          t.cutoff.value ≠ s.cutoff.value ∨ t.outputs ≠ s.outputs ∨
          (∃ b, (t.branch b).roundCounter ≠ (s.branch b).roundCounter) ∨
          (∃ r, (t.port r).active ≠ (s.port r).active ∨ (t.port r).attention ≠ (s.port r).attention) ∨
          t.store.imageFault ≠ s.store.imageFault) →
        (t.port q).summaryChanged = true)) ∧
    (∀ (s t : State), step s = .next t → ∀ q, (s.port q).changed.Pairwise (fun i j => i < j) →
      (t.port q).changed.Pairwise (fun i j => i < j)) ∧
    ∀ (s : State) (q : PortId) (i j : DoorId) (f : Door → Door),
      j ∈ ((s.modDoor i f).port q).changed ↔ j ∈ (s.port q).changed ∨
        j = i ∧ ((s.door i).installed = true ∨ (f (s.door i)).installed = true) ∧
          ((s.door i).sameReport (f (s.door i)) = false ∨ (f (s.door i)).position ≠ (s.door i).position ∧
            ∀ x, (f (s.door i)).position = some x → ∀ r, (s.port q).lastReported[i] = some r →
              r + 5 ≤ x ∨ x + 5 ≤ r ∨ (x = 0 ∨ x = 1000) ∧ r ≠ 0 ∧ r ≠ 1000)

/-- At a D48 with supply. ROUND_TIMER_EXPIRY of an enabled branch with no exchange in flight whose round timer has run
out starts a round: with no door it counts at once; otherwise its lowest drop, if no direct exchange of it is
pending, is polled with that door's drive and signal command, a drive not issued before being issued. REPLY_DEADLINE
of a regular poll that has passed ends the exchange and counts the miss up to 8; where the count reaches the lost
threshold at a LINKED drop, the drop is LOST, and its door takes LINK_LOST and becomes UNKNOWN, its lead-in, reclose
timer, entry or stroke ending, a unit that its entry leaves taking the new length, and the slot of a stroke, for a
door in no list, going to the head of the unit's list where the unit may admit. The round then goes on: its next
claimed drop is polled; after its last it is counted, and, if its timer has expired meanwhile, the next round starts
at once. Before their instants neither event changes anything (the model's choice, assumption 4; broken and lastSent
are assumptions 16 and 19). (02_position_and_indication.md section 2.6, 03_door_motion_and_stroke_supervision.md
section 3.1, 03_door_motion_and_stroke_supervision.md section 3.6, 06_power_units_and_stroke_admission.md section
6.4, 07_station_branches.md section 7.2, 07_station_branches.md section 7.3, 07_station_branches.md section 7.4,
notes/assumptions/4.md, notes/assumptions/16.md, notes/assumptions/19.md) -/
def Obligations.RoundsPollInDropOrder : Prop :=
  ∀ (s : State) (b : BranchId), s.powered = true →
    (∀ e, (s.branch b).enable = true → (s.branch b).exchange = none → (s.branch b).roundTimer = some e →
      (s.runCount < e → exec (.roundTimerExpiry b) s = .next s) ∧
      (e ≤ s.runCount →
        (s.claimedDrops b = [] → ∃ t, exec (.roundTimerExpiry b) s = .next t ∧
          t = { s with branches := t.branches, ports := t.ports } ∧ (∀ q, (s.port q).SameButMarks (t.port q)) ∧
          OtherBranches b s t ∧ t.branch b = { s.branch b with
            roundTimer := some (s.runCount + (s.branch b).roundPeriod), members := []
            roundCounter := nextRound (s.branch b).roundCounter }) ∧
        (∀ d rest i, s.claimedDrops b = d :: rest → s.claimant b d = some i → (s.branch b).NoDirectFor d →
          ∃ t, exec (.roundTimerExpiry b) s = .next t ∧
            t = { s with branches := t.branches, doors := t.doors, ports := t.ports } ∧
            (∀ q, (s.port q).SameButMarks (t.port q)) ∧ OtherBranches b s t ∧ OtherDoors i s t ∧
            t.door i = (s.door i).polled s.runCount ∧
            t.branch b = { s.branch b with
              roundTimer := some (s.runCount + (s.branch b).roundPeriod), members := rest }.sent s.runCount d .regular
                (s.driveCommand i) (s.signalCommand i)))) ∧
    (∀ x, (s.branch b).exchange = some x → x.kind = .regular →
      (s.runCount < x.deadline → s.OutputsHold → exec (.replyDeadline b) s = .next s) ∧
      (x.deadline ≤ s.runCount →
        (∀ d, s.nextPoll b = some d → (s.branch b).NoDirectFor d) →
        ∃ t, exec (.replyDeadline b) s = .next t ∧ OtherBranches b s t ∧ t.OutputsHold ∧
          t = { s with ports := t.ports, doors := t.doors, units := t.units, branches := t.branches
                       outputs := t.outputs } ∧
          (∀ q, (s.port q).SameButMarks (t.port q)) ∧
          (s.losesDrop b x.drop = false ∨ s.claimant b x.drop = none →
            t.units = s.units ∧ ∀ j, t.door j = s.ifPolled b j (s.door j)) ∧
          (∀ i, s.losesDrop b x.drop = true → s.claimant b x.drop = some i → LosesDrop s i (s.ifPolled b) t) ∧
          GoesOn s b { s.branch b with
            exchange := none
            drops := (s.branch b).drops.set x.drop ((s.link b x.drop).missed (s.branch b).lostThreshold) } t))

/-- At a D48 with supply. Bytes that are no complete frame leave all but the receiver, which hunts. A complete frame is
a good reply exactly if its CRC is right, its drop, sequence echo and kind echo are the exchange's, its data length
is 0, 8 or 1 as its kind has it, and its count is below 4096 (bits 6 and 7 of the status are not judged, assumption
33). A complete frame that is not good and not for a broken exchange ends the exchange in flight as the passing of
its deadline at this instant does. Between exchanges a complete frame is discarded, and so is one that is not a good
reply and has the drop and sequence, with a good CRC, of an exchange that a disable, a release or a restart has
ended: the exchange in flight stays, and that broken exchange has had its frame. It is kept until then, or until its
drop and sequence are sent again (assumption 16, DEDUCED). (07_station_branches.md section 7.3,
07_station_branches.md section 7.5, 12_frame_and_record_layouts.md section 12.1, 12_frame_and_record_layouts.md
section 12.6, notes/assumptions/16.md, notes/assumptions/33.md) -/
def Obligations.FramesEndAnExchangeOrCountForNothing : Prop :=
  ∀ (s : State) (b : BranchId) (l : List Byte), s.powered = true →
    (readStationFrame l = none → s.OutputsHold →
      exec (.stationReplyFrame b l) s =
        .next { s with branches := s.branches.set b { s.branch b with collecting := false } }) ∧
    (∀ f, readStationFrame l = some f →
      (∀ x : Exchange, f.goodFor x = true ↔ f.crcGood = true ∧ f.drop = number x.drop ∧ f.sequence = x.sequence ∧
        f.kind = x.kind.code ∧ f.count < 4096 ∧ f.data.length = (match x.kind with
          | .regular => 0
          | .ident => 8
          | .lampTest => 1)) ∧
      (f.answersBroken (s.branch b) = true ↔
        f.crcGood = true ∧ ∃ y ∈ (s.branch b).broken, f.drop = number y.1 ∧ f.sequence = y.2) ∧
      (s.OutputsHold → ((s.branch b).exchange = none ∨
          f.answersBroken (s.branch b) = true ∧ ∀ x, (s.branch b).exchange = some x → f.goodFor x = false) →
        exec (.stationReplyFrame b l) s = .next { s with branches := s.branches.set b { s.branch b with
          collecting := false
          broken := (s.branch b).broken.filter fun y =>
            !(f.crcGood && decide (f.drop = number y.1) && decide (f.sequence = y.2)) } }) ∧
      (∀ x, (s.branch b).exchange = some x → f.goodFor x = false → f.answersBroken (s.branch b) = false →
        exec (.stationReplyFrame b l) s = exec (.replyDeadline b) { s with branches := s.branches.set b { s.branch b with
          collecting := false, exchange := some { x with deadline := s.runCount } } }))

/-- A good reply to a regular poll at a D48 with supply leaves: the pair LINKED with a miss count of 0, and its round
gone on, with its next drop polled, or counted at its end; last count and last raw position; the position clamped if
the raw position is in range, as it was otherwise; POSITION_RANGE, SIGNAL_FAULT and STATION_SUPPLY exactly as the
reply says; LINK_LOST cleared on recovery; each of the two switches and two controls debounced by its own count: a
reply that agrees sets the count to 0, one that differs raises it, up to 4, and at the confirm count changes the
value and sets the count to 0; the first reply of a door in AWAITING sets all four with counts of 0, and its
settling count to 1; in SETTLING the settling count goes up, up to 4; at the confirm count the phase is SETTLED,
where it stays. SWITCH_CONFLICT follows the two debounced switches where one has changed, and after an initial take.
In range, a made switch out of its band raises the disagreement count, up to 4, and at the confirm count
SENSOR_DISAGREE; otherwise both clear; out of range both stay. With no setting pending the indication is then the
one derived from what the door has become. Of a door whose controls have not moved, or that was in AWAITING: at rest
it follows its indication; where that moves it, its pending record is applied unless the hold is on, and in a held
zone, in service, OPEN or HALTED, not event-faulted and with local open not held, it enters WARNING with cause
CLOSURE, timed with the values now in force; not at rest, with a known indication and no supervision step, it keeps
its state. A door not at rest whose indication becomes UNKNOWN, as by POSITION_RANGE, becomes UNKNOWN, its lead-in,
reclose timer, entry or stroke ending, its pending record applied unless the hold is on. No other unit or door
changes but the door polled next, and, as a slot is freed, those that take it. (02_position_and_indication.md
section 2.2, 02_position_and_indication.md section 2.3, 02_position_and_indication.md section 2.4,
02_position_and_indication.md section 2.5, 02_position_and_indication.md section 2.6, 02_position_and_indication.md
section 2.7, 02_position_and_indication.md section 2.8, 03_door_motion_and_stroke_supervision.md section 3.2,
03_door_motion_and_stroke_supervision.md section 3.6, 04_closure_holds_and_command_authority.md section 4.4,
07_station_branches.md section 7.2, 07_station_branches.md section 7.4) -/
def Obligations.GoodRepliesAreTaken : Prop :=
  ∀ (s : State) (b : BranchId) (l : List Byte) (f : StationFrame) (x : Exchange) (i : DoorId) (raw : Int),
    s.powered = true → (s.branch b).exchange = some x → x.kind = .regular →
    (∀ d, s.nextPoll b = some d → (s.branch b).NoDirectFor d) → readStationFrame l = some f → f.goodFor x = true →
    s.claimant b x.drop = some i → raw = rawPosition f.count (s.door i).closedCount (s.door i).openCount →
    ∃ t, exec (.stationReplyFrame b l) s = .next t ∧
      t = { s with doors := t.doors, units := t.units, branches := t.branches, ports := t.ports, outputs := t.outputs } ∧
      t.OutputsHold ∧ (∀ q, (s.port q).SameButMarks (t.port q)) ∧ OtherBranches b s t ∧
      GoesOn s b { s.branch b with
        exchange := none, collecting := false, drops := (s.branch b).drops.set x.drop DropLink.fresh } t ∧
      (t.door i).lastCount = some f.count ∧ (t.door i).lastRaw = some raw ∧
      (t.door i).position = (if -50 ≤ raw ∧ raw ≤ 1050 then some (clampPosition raw) else (s.door i).position) ∧
      hasFault (t.door i).faults .positionRange = decide (raw < -50 ∨ 1050 < raw) ∧
      hasFault (t.door i).faults .stationSupply = f.status.getLsbD 4 ∧
      hasFault (t.door i).faults .signalFault = f.status.getLsbD 5 ∧
      ((s.link b x.drop).lost = true → hasFault (t.door i).faults .linkLost = false) ∧
      (∀ c n aw, c = (s.door i).settings.confirmCount → n = min ((s.door i).settlingCount + 1) 4 →
        aw = decide ((s.door i).phase = .awaiting) →
        Debounced aw c (s.door i).closedSwitch (s.door i).closedSwitchCount (f.status.getLsbD 0)
          (t.door i).closedSwitch (t.door i).closedSwitchCount ∧
        Debounced aw c (s.door i).openSwitch (s.door i).openSwitchCount (f.status.getLsbD 1)
          (t.door i).openSwitch (t.door i).openSwitchCount ∧
        Debounced aw c (s.door i).localOpen (s.door i).localOpenCount (f.status.getLsbD 2)
          (t.door i).localOpen (t.door i).localOpenCount ∧
        Debounced aw c (s.door i).localClose (s.door i).localCloseCount (f.status.getLsbD 3)
          (t.door i).localClose (t.door i).localCloseCount ∧
        ((s.door i).phase = .awaiting →
          (t.door i).settlingCount = 1 ∧ (t.door i).phase = if c ≤ 1 then .settled else .settling) ∧
        ((s.door i).phase = .settling →
          (t.door i).settlingCount = n ∧ (t.door i).phase = if c ≤ n then .settled else .settling) ∧
        ((s.door i).phase = .settled →
          (t.door i).settlingCount = (s.door i).settlingCount ∧ (t.door i).phase = .settled) ∧
        hasFault (t.door i).faults .switchConflict =
          (if aw = true ∨ (t.door i).closedSwitch ≠ (s.door i).closedSwitch ∨
              (t.door i).openSwitch ≠ (s.door i).openSwitch then
            (t.door i).closedSwitch && (t.door i).openSwitch
          else hasFault (s.door i).faults .switchConflict) ∧
        ((raw < -50 ∨ 1050 < raw) → (t.door i).disagreeCount = (s.door i).disagreeCount ∧
          hasFault (t.door i).faults .sensorDisagree = hasFault (s.door i).faults .sensorDisagree) ∧
        (-50 ≤ raw → raw ≤ 1050 → ∀ p m, (t.door i).position = some p → m = min ((s.door i).disagreeCount + 1) 4 →
          (((t.door i).closedSwitch = true ∧ (s.door i).settings.closedBand < p ∨
              (t.door i).openSwitch = true ∧ p + (s.door i).settings.openBand < 1000) →
            (t.door i).disagreeCount = m ∧ hasFault (t.door i).faults .sensorDisagree =
              (hasFault (s.door i).faults .sensorDisagree || decide (c ≤ m))) ∧
          (¬((t.door i).closedSwitch = true ∧ (s.door i).settings.closedBand < p ∨
              (t.door i).openSwitch = true ∧ p + (s.door i).settings.openBand < 1000) →
            (t.door i).disagreeCount = 0 ∧ hasFault (t.door i).faults .sensorDisagree = false))) ∧
      ((s.door i).pending = OpRow.noPending →
        (t.door i).indication = (t.door i).derivedIndication (!(s.branch b).enable)) ∧
      ((s.door i).phase = .awaiting ∨
          (t.door i).localOpen = (s.door i).localOpen ∧ (t.door i).localClose = (s.door i).localClose →
        ((s.door i).state.isRest = true → t.units = s.units ∧ (∀ j, j ≠ i → t.door j = s.ifPolled b j (s.door j)) ∧
          ((s.door i).state = (t.door i).indication.restState →
            (t.door i).state = (s.door i).state ∧ (t.door i).lastSource = (s.door i).lastSource ∧
            (t.door i).settings = (s.door i).settings ∧ (t.door i).pending = (s.door i).pending) ∧
          ((s.door i).state ≠ (t.door i).indication.restState →
            (t.door i).settings =
              (if s.settingsHold then (s.door i).settings else (s.door i).settings.applied (s.door i).pending) ∧
            (t.door i).pending = (if s.settingsHold then (s.door i).pending else OpRow.noPending) ∧
            ((s.doorHeld i = true ∧ (s.door i).inService = true ∧ (t.door i).indication ∈ [.opened, .partly] ∧
                (t.door i).eventFaulted = false ∧ (t.door i).localOpen = false) →
              (t.door i).state = .warning ∧ (t.door i).lastSource = some .closure ∧
              (t.door i).leadIn =
                some { cause := .closure, expiry := s.runCount + (t.door i).settings.leadInTime * 100 }) ∧
            (¬(s.doorHeld i = true ∧ (s.door i).inService = true ∧ (t.door i).indication ∈ [.opened, .partly] ∧
                (t.door i).eventFaulted = false ∧ (t.door i).localOpen = false) →
              (t.door i).state = (t.door i).indication.restState ∧ (t.door i).leadIn = none ∧
              (t.door i).lastSource = (s.door i).lastSource))) ∧
        ((s.door i).state.isRest = false → (t.door i).indication ≠ .unknown →
          ((s.door i).state.drive = none ∨ ∀ r t0, (s.door i).stroke = some r → r.driveIssued = some t0 →
            s.runCount ≤ t0) →
          (t.door i).state = (s.door i).state ∧ (t.door i).leadIn = (s.door i).leadIn ∧
          (t.door i).reclose = (s.door i).reclose ∧ (t.door i).settings = (s.door i).settings ∧
          (t.door i).pending = (s.door i).pending ∧ (s.polls b i = false → (t.door i).stroke = (s.door i).stroke) ∧
          t.units = s.units ∧ ∀ j, j ≠ i → t.door j = s.ifPolled b j (s.door j))) ∧
      ((s.door i).state.isRest = false → (t.door i).indication = .unknown →
        EndsWork s i (s.ifPolled b) t ∧ (t.door i).state = .unknown ∧ (t.door i).leadIn = none ∧
        (t.door i).reclose = none ∧ ((s.door i).state.hasStroke = true → (t.door i).stroke = none ∧
          (t.door i).driveOff = ((s.door i).undriven s.runCount).driveOff) ∧
        (t.door i).strokeCount = (s.door i).strokeCount ∧ (t.door i).eventFaulted = (s.door i).eventFaulted ∧
        (t.door i).settings =
          (if s.settingsHold then (s.door i).settings else (s.door i).settings.applied (s.door i).pending) ∧
        (t.door i).pending = if s.settingsHold then (s.door i).pending else OpRow.noPending)

/-- A good reply to a regular poll, at a D48 with supply, for a door that is CLOSING or OPENING with its drive issued
before now, in no admission list, whose controls have not moved: if the new indication completes the stroke the door
takes its rest state, which in a held zone the closure demand turns into WARNING with cause CLOSURE where it
applies, with the stroke time, count and, for a closing, the stamp recorded, and a closing of cause CONSOLE, CLOSURE
or RECLOSE starts the beacon tail, expiring one tail time later, where the tail time in force is above 0, one of
cause LOCAL starting none; if it is UNKNOWN the door is UNKNOWN; otherwise past the stroke limit it is cut with
STROKE_TIMEOUT, without progress over the stall window with STALL, each into the rest state of the indication;
otherwise it goes on with its mark, estimate and late forecast brought up to date. Wherever the stroke ends, its
record is absent and its slot free: the slot goes at once to the head of the unit's list where the unit may admit,
and a unit left with nothing goes to IDLING. (03_door_motion_and_stroke_supervision.md section 3.5,
03_door_motion_and_stroke_supervision.md section 3.6, 06_power_units_and_stroke_admission.md section 6.4,
04_closure_holds_and_command_authority.md section 4.4, 05_warning_signals.md section 5.3, 07_station_branches.md
section 7.2) -/
def Obligations.DrivenStrokesAreSupervised : Prop :=
  ∀ (s : State) (b : BranchId) (l : List Byte) (f : StationFrame) (x : Exchange) (i : DoorId) (r : Stroke) (t0 : Nat),
    s.powered = true → (s.branch b).exchange = some x → x.kind = .regular →
    (∀ d, s.nextPoll b = some d → (s.branch b).NoDirectFor d) → readStationFrame l = some f → f.goodFor x = true →
    s.claimant b x.drop = some i → s.Unlisted i → (s.door i).stroke = some r →
    (s.door i).state = r.direction.driving → r.driveIssued = some t0 → t0 < s.runCount →
    f.status.getLsbD 2 = (s.door i).localOpen → f.status.getLsbD 3 = (s.door i).localClose →
    ∃ t, exec (.stationReplyFrame b l) s = .next t ∧
      (r.direction.completedBy (t.door i).indication = true →
        ((t.door i).state = (if s.doorHeld i = true ∧ (s.door i).inService = true ∧ r.direction = .opening ∧
            (s.door i).eventFaulted = false ∧ (t.door i).localOpen = false then .warning
          else (t.door i).indication.restState)) ∧ (t.door i).stroke = none ∧
        (t.door i).lastStrokeTime = some (min (s.runCount - t0) 600000) ∧
        (t.door i).strokeCount = min ((s.door i).strokeCount + 1) 65535 ∧
        (t.door i).lastClosed = (if r.direction = .close then some s.clock.time else (s.door i).lastClosed) ∧
        ((s.door i).tail = none → (t.door i).tail =
          if r.direction = .close ∧ r.cause ≠ .localControl ∧ 0 < (t.door i).settings.tailTime then
            some (s.runCount + (t.door i).settings.tailTime * 1000)
          else none) ∧
        FreesSlot s i (s.ifPolled b) t) ∧
      ((t.door i).indication = .unknown →
        (t.door i).state = .unknown ∧ (t.door i).stroke = none ∧ (t.door i).strokeCount = (s.door i).strokeCount ∧
        FreesSlot s i (s.ifPolled b) t) ∧
      (r.direction.completedBy (t.door i).indication = false → (t.door i).indication ≠ .unknown →
        ((s.door i).settings.strokeLimit * 100 < s.runCount - t0 →
          (t.door i).state = (t.door i).indication.restState ∧ (t.door i).stroke = none ∧
          hasFault (t.door i).faults .strokeTimeout = true ∧ (t.door i).strokeCount = (s.door i).strokeCount ∧
          FreesSlot s i (s.ifPolled b) t) ∧
        (s.runCount - t0 ≤ (s.door i).settings.strokeLimit * 100 → ∀ p, (t.door i).position = some p →
          (((s.door i).progresses r p = false ∧ (s.door i).stalled r s.runCount = true →
            (t.door i).state = (t.door i).indication.restState ∧ (t.door i).stroke = none ∧
            hasFault (t.door i).faults .stall = true ∧ FreesSlot s i (s.ifPolled b) t) ∧
          ((s.door i).progresses r p = true ∨ (s.door i).stalled r s.runCount = false →
            (t.door i).state = (s.door i).state ∧
            (t.door i).stroke = some ((s.door i).supervised r p (s.runCount - t0) s.runCount) ∧
            t.units = s.units ∧
            ∀ j, j ≠ i → t.door j = if s.polls b j then (s.door j).polled s.runCount else s.door j))))

/-- A good reply to a regular poll confirms a press of one local control of an installed door in service, not UNKNOWN,
and the reply's other content leaves the door's state and zone as they were (its drop is not lost, nor polled again
at once). Local open: from CLOSED, HALTED, WARNING and QUEUED(close), and from RECLOSE_WAIT in a held zone, an
opening of class 2; from REVERSING-to-close and CLOSING the door turns; elsewhere nothing. Local close: from OPEN,
HALTED and QUEUED(open), and from RECLOSE_WAIT in a held zone, a closing without lead-in, of class 1 in a free zone
and 0 in a held one; from REVERSING-to-open and OPENING it turns; elsewhere nothing. Each has cause LOCAL, and LOCAL
becomes the last order source where the state changes. A FAILED unit gives NO_POWER and the rest state. Out of
service or in UNKNOWN no edge moves the door; with a press of each, local open's is taken first (assumption 21,
DEDUCED), so that a CLOSED door of a STARTING unit ends QUEUED(close). Other doors but the next polled, and those
listed that such an admission lets in, and other units stay. (02_position_and_indication.md section 2.5,
03_door_motion_and_stroke_supervision.md section 3.3, 03_door_motion_and_stroke_supervision.md section 3.4,
03_door_motion_and_stroke_supervision.md section 3.7, 04_closure_holds_and_command_authority.md section 4.6,
06_power_units_and_stroke_admission.md section 6.2, 06_power_units_and_stroke_admission.md section 6.3,
07_station_branches.md section 7.3, notes/assumptions/21.md) -/
def Obligations.LocalControlsMoveTheDoor : Prop :=
  ∀ (s : State) (b : BranchId) (l : List Byte) (f : StationFrame) (x : Exchange) (i : DoorId) (e : Door) (pressed : Bool) (dir : Dir) (cls : Nat) (n : Entry),
    s.powered = true → (s.branch b).exchange = some x → x.kind = .regular →
    (∀ d, s.nextPoll b = some d → (s.branch b).NoDirectFor d) → readStationFrame l = some f → f.goodFor x = true →
    s.claimant b x.drop = some i → (s.link b x.drop).lost = false → s.polls b i = false → (s.door i).phase ≠ .awaiting →
    e = ((s.reply i f.reply).takeResult i).door i → e.state = (s.door i).state →
    ((pressed = (!(s.door i).localOpen && e.localOpen) ∧ (!(s.door i).localClose && e.localClose) = false ∧
          ((s.door i).localOpen && !e.localOpen) = false ∧ dir = .opening ∧ cls = 2 ∨
        pressed = (!(s.door i).localClose && e.localClose) ∧ (!(s.door i).localOpen && e.localOpen) = false ∧
          ((s.door i).localOpen && !e.localOpen) = false ∧ dir = .close ∧ cls = if s.doorHeld i then 0 else 1) →
      n = { door := i, direction := dir, cls := cls, cause := .localControl, arrival := s.runCount } →
      ∃ t, exec (.stationReplyFrame b l) s = .next t ∧
        (∀ j, j ≠ i → (s.Unlisted j ∨ pressed = false ∨ (s.door i).state.hasStroke = true ∨
            (s.unit (s.door i).unit).waits s.cutoff.value = true ∨
            (s.unit (s.door i).unit).admitsAlone i s.cutoff.value = true ∨
            (s.unit (s.door i).unit).state = .failed) →
          t.door j = if s.polls b j then (s.door j).polled s.runCount else s.door j) ∧
        OtherUnits (s.door i).unit s t ∧
        ((pressed = false ∨ (s.door i).inService = false ∨ (s.door i).state = .unknown) →
          t.door i = e ∧ t.units = s.units) ∧
        (pressed = true → (s.door i).inService = true → (s.door i).state ≠ .unknown →
          ((s.door i).state ∈ (if dir = .opening then [.closed, .halted, .warning, .queued .close]
              else [.opened, .halted, .queued .opening]) ∨ (s.door i).state = .recloseWait ∧ s.doorHeld i = true →
            (((s.unit (s.door i).unit).waits s.cutoff.value = true ∨
                (s.unit (s.door i).unit).admitsAlone i s.cutoff.value = true) →
              Requested s i { e with lastSource := some .localControl } n t) ∧
            ((s.unit (s.door i).unit).state = .failed → t.units = s.units ∧
              t.door i = { (e.faulted .noPower s.clock.time).rested e.indication.restState s.settingsHold with
                lastSource := if e.indication.restState = (s.door i).state then e.lastSource
                  else some .localControl })) ∧
          ((s.door i).state ∈ (if dir = .opening then [.reversing .close, .closing]
              else [.reversing .opening, .opening]) → t.units = s.units ∧
            t.door i = { e.turned dir .localControl cls s.runCount with lastSource := some .localControl }) ∧
          ((s.door i).state ∈ (if dir = .opening then [.opened, .queued .opening, .reversing .opening, .opening]
              else [.closed, .warning, .queued .close, .reversing .close, .closing]) →
            t.door i = e ∧ t.units = s.units))) ∧
    ((!(s.door i).localOpen && e.localOpen) = true → (!(s.door i).localClose && e.localClose) = true →
      (s.door i).inService = true → (s.door i).state = .closed → (s.unit (s.door i).unit).state = .starting →
      n = { door := i, direction := .close, cls := if s.doorHeld i then 0 else 1, cause := .localControl
            arrival := s.runCount } →
      ∃ t, exec (.stationReplyFrame b l) s = .next t ∧
        t.door i = { e.moving (.queued .close) with lastSource := some .localControl } ∧
        t.unit (s.door i).unit = { s.unit (s.door i).unit with
          list := insertEntry n (removeEntry i (s.unit (s.door i).unit).list) })

/-- A good reply to a regular poll confirms the letting go of local open, and no press, at a door of a drop that is not
lost nor polled again at once, and its other content leaves the door's state as it was. In a free zone, out of
service or in UNKNOWN, the door stays as it is. In a held zone a door in service without event fault enters
RECLOSE_WAIT, its reclose timer running for the reclose delay in force and LOCAL its last order source: from OPEN
and HALTED with nothing else changed; from QUEUED(open), whose entry leaves its unit's list; from REVERSING-to-open
and OPENING, for a door in no list, whose drive goes off, stroke record goes and slot is freed, for the head of the
list where the unit may admit. A door with an event fault takes the rest state of its indication from QUEUED(open),
REVERSING-to-open and OPENING in the same way, and stays in OPEN and HALTED. In any other state the letting go does
nothing. (02_position_and_indication.md section 2.5, 03_door_motion_and_stroke_supervision.md section 3.7,
04_closure_holds_and_command_authority.md section 4.6, 06_power_units_and_stroke_admission.md section 6.3,
06_power_units_and_stroke_admission.md section 6.4, 07_station_branches.md section 7.3) -/
def Obligations.LettingGoWaitsToReclose : Prop :=
  ∀ (s : State) (b : BranchId) (l : List Byte) (f : StationFrame) (x : Exchange) (i : DoorId) (e : Door),
    s.powered = true → (s.branch b).exchange = some x → x.kind = .regular →
    (∀ d, s.nextPoll b = some d → (s.branch b).NoDirectFor d) → readStationFrame l = some f → f.goodFor x = true →
    s.claimant b x.drop = some i → (s.link b x.drop).lost = false → s.polls b i = false → (s.door i).phase ≠ .awaiting →
    e = ((s.reply i f.reply).takeResult i).door i → e.state = (s.door i).state →
    ((s.door i).localOpen && !e.localOpen) = true → (!(s.door i).localClose && e.localClose) = false →
    ∃ t, exec (.stationReplyFrame b l) s = .next t ∧ OtherUnits (s.door i).unit s t ∧
      (s.doorHeld i = false ∨ (s.door i).inService = false ∨
          (s.door i).state ∉ [.opened, .halted, .queued .opening, .reversing .opening, .opening] ∨
          e.eventFaulted = true ∧ (s.door i).state ∈ [.opened, .halted] →
        t.door i = e ∧ t.units = s.units ∧
        ∀ j, j ≠ i → t.door j = if s.polls b j then (s.door j).polled s.runCount else s.door j) ∧
      (s.doorHeld i = true → (s.door i).inService = true → e.eventFaulted = false →
        (∀ w, w = { (e.undriven s.runCount).moving .recloseWait with
            reclose := some (s.runCount + e.settings.recloseDelay * 100), lastSource := some .localControl } →
          ((s.door i).state ∈ [.opened, .halted] → t.door i = w ∧ t.units = s.units ∧
            ∀ j, j ≠ i → t.door j = if s.polls b j then (s.door j).polled s.runCount else s.door j) ∧
          ((s.door i).state = .queued .opening → t.door i = w ∧
            t.unit (s.door i).unit = (s.unit (s.door i).unit).left i s.runCount ∧
            ∀ j, j ≠ i → t.door j = if s.polls b j then (s.door j).polled s.runCount else s.door j) ∧
          ((s.door i).state ∈ [.reversing .opening, .opening] → s.Unlisted i → t.door i = { w with stroke := none } ∧
            FreesSlot s i (s.ifPolled b) t ∧
            ∀ j, j ≠ i → s.Unlisted j → t.door j = if s.polls b j then (s.door j).polled s.runCount else s.door j))) ∧
      (s.doorHeld i = true → (s.door i).inService = true → e.eventFaulted = true →
        ((s.door i).state = .queued .opening →
          t.door i = { e.rested e.indication.restState s.settingsHold with lastSource := some .localControl } ∧
          t.unit (s.door i).unit = (s.unit (s.door i).unit).left i s.runCount ∧
          ∀ j, j ≠ i → t.door j = s.ifPolled b j (s.door j)) ∧
        ((s.door i).state ∈ [.reversing .opening, .opening] → s.Unlisted i →
          t.door i = { e.haltedAt e.indication.restState s.settingsHold s.runCount with
            lastSource := some .localControl } ∧
          FreesSlot s i (s.ifPolled b) t))

/-- At a D48 with supply. LEAD_IN_EXPIRY of a door in WARNING whose lead-in has run out requests a close of class 1 for
a CONSOLE cause and class 0 otherwise, with the expiry as arrival. In a STOPPED, GATHERING or STARTING unit, and in
a RUNNING or IDLING one with the cutoff active or no slot free, the door is QUEUED(close) and its entry joins the
list: a STOPPED unit goes to STARTING for class 0, an urgent count reached or an age time of 0, and to GATHERING
otherwise, a GATHERING one to STARTING for class 0 or an urgent count reached, an IDLING one to RUNNING; a RUNNING
or IDLING unit in which nothing else waits and a slot is free admits the door at once; a FAILED unit gives it
NO_POWER and the rest state of its indication. REVERSAL_INSTANT of a door in REVERSING whose dead time has passed
puts it into the driving state of that direction. Before its instant neither changes anything (the model's choice,
assumption 4). (03_door_motion_and_stroke_supervision.md section 3.3, 03_door_motion_and_stroke_supervision.md
section 3.4, 05_warning_signals.md section 5.2, 06_power_units_and_stroke_admission.md section 6.2,
06_power_units_and_stroke_admission.md section 6.3, 06_power_units_and_stroke_admission.md section 6.4,
notes/assumptions/4.md) -/
def Obligations.LeadInsAndReversalsExpire : Prop :=
  ∀ (s : State) (i : DoorId) (l : LeadIn) (e : Entry) (x : PowerUnit), s.powered = true →
    (x = s.unit (s.door i).unit → (s.door i).state = .warning → (s.door i).leadIn = some l →
      e = { door := i, direction := .close, cause := l.cause, arrival := l.expiry
            cls := if l.cause ∈ [.console 0, .console 1, .console 2] then 1 else 0 } →
      (s.runCount < l.expiry → s.OutputsHold → exec (.leadInExpiry i) s = .next s) ∧
      (l.expiry ≤ s.runCount →
        (x.waits s.cutoff.value = true ∨ x.admitsAlone i s.cutoff.value = true →
          ∃ t, exec (.leadInExpiry i) s = .next t ∧ Requested s i (s.door i) e t ∧ OtherDoors i s t ∧
            OtherUnits (s.door i).unit s t ∧
            t = { s with doors := t.doors, units := t.units, ports := t.ports, outputs := t.outputs } ∧ t.OutputsHold ∧
            ∀ q, (s.port q).SameButMarks (t.port q)) ∧
        (x.state = .stopped → (x.joined e s.runCount).state =
          if e.cls = 0 ∨ x.urgentCount ≤ (x.joined e s.runCount).list.length ∨ x.ageTime = 0 then .starting
          else .gathering) ∧
        (x.state = .gathering → (x.joined e s.runCount).state =
          if e.cls = 0 ∨ x.urgentCount ≤ (x.joined e s.runCount).list.length then .starting else .gathering) ∧
        (x.state = .failed →
          ∃ t, exec (.leadInExpiry i) s = .next t ∧
            t.door i = ((s.door i).faulted .noPower s.clock.time).rested (s.door i).indication.restState
              s.settingsHold ∧ OtherDoors i s t ∧
            t = { s with doors := t.doors, ports := t.ports, outputs := t.outputs } ∧ t.OutputsHold ∧
            ∀ q, (s.port q).SameButMarks (t.port q)))) ∧
    (∀ dir, (s.door i).state = .reversing dir →
      ((s.door i).mustWait dir s.runCount = true → exec (.reversalInstant i) s = .next s) ∧
      ((s.door i).mustWait dir s.runCount = false →
        ∃ t, exec (.reversalInstant i) s = .next t ∧ t.door i = (s.door i).moving dir.driving ∧ OtherDoors i s t ∧
          t = { s with doors := t.doors, ports := t.ports } ∧ ∀ q, (s.port q).SameButMarks (t.port q)))

/-- At a D48 with supply, of a timer that has run out: the age timer takes a GATHERING unit to STARTING for its start
time; the start timer takes a STARTING unit with its pressure input inactive and nothing waiting or held to IDLING
for its holdoff, and one with entries to RUNNING: from the head of its list on, in list order, its entries are
admitted while a slot is free, each door leaving QUEUED by its own dead-time test and no entry passing another, and
under an active drive cutoff none is; the holdoff timer takes an IDLING unit to STOPPED. RUN_OUTn is on in STARTING,
RUNNING and IDLING and off in STOPPED. Before its instant a timer changes nothing (the model's choice, assumption
4). Nothing else changes but the outputs by their own rule. (06_power_units_and_stroke_admission.md section 6.3,
06_power_units_and_stroke_admission.md section 6.4, notes/assumptions/4.md) -/
def Obligations.UnitTimersMoveTheUnit : Prop :=
  ∀ (s : State) (u : UnitId) (e : Nat), s.powered = true → (s.unit u).timer = some e →
    (s.runCount < e → exec (.ageTimerExpiry u) s = .next s ∧ exec (.holdoffTimerExpiry u) s = .next s ∧
      (s.OutputsHold → exec (.startTimerExpiry u) s = .next s)) ∧
    (e ≤ s.runCount →
      ((s.unit u).state = .gathering → ∃ t, exec (.ageTimerExpiry u) s = .next t ∧
        t.unit u = { s.unit u with state := .starting, timer := some (s.runCount + (s.unit u).startTime) } ∧
        t.runOut u = true ∧
        OtherUnits u s t ∧ t = { s with units := t.units, ports := t.ports } ∧
        ∀ q, (s.port q).SameButMarks (t.port q)) ∧
      ((s.unit u).state = .idling → ∃ t, exec (.holdoffTimerExpiry u) s = .next t ∧
        t.unit u = { s.unit u with state := .stopped, timer := none } ∧ t.runOut u = false ∧
        OtherUnits u s t ∧ t = { s with units := t.units, ports := t.ports } ∧
        ∀ q, (s.port q).SameButMarks (t.port q)) ∧
      ((s.unit u).state = .starting → (s.unit u).pressLow.value = false →
        ((s.unit u).list.map fun n => n.door).Nodup →
        ∀ x, x = { s.unit u with state := .running, timer := none } →
        ∃ t, exec (.startTimerExpiry u) s = .next t ∧
          t.unit u = (x.ran s.cutoff.value).idled s.runCount ∧ t.runOut u = true ∧
          (∀ j, t.door j = (s.door j).afterRun (x.admits s.cutoff.value j) s.runCount) ∧ OtherUnits u s t ∧
          (s.cutoff.value = true → t.doors = s.doors ∧ (t.unit u).list = (s.unit u).list) ∧
          ((s.unit u).holders = [] → (s.unit u).list = [] → t.unit u = { s.unit u with
            state := .idling, timer := some (s.runCount + (s.unit u).holdoff * 1000) }) ∧
          t = { s with units := t.units, doors := t.doors, ports := t.ports, outputs := t.outputs } ∧ t.OutputsHold ∧
          ∀ q, (s.port q).SameButMarks (t.port q)))

/-- For every unit and level: a PRESS_LOW_CHANGE to the level that the debounced input has changes nothing (the model's
choice, assumption 4). One that becomes active at a RUNNING or IDLING unit takes the unit to FAILED; in every other
case the debounced input alone takes the level, its line with it (assumption 8). Where such a change, or a
START_TIMER_EXPIRY at a STARTING unit whose input is active, fails a unit whose slot holders are doors of the unit
that drive or reverse and whose entries are of other doors of the unit, each once: the unit is FAILED with its timer
stopped, no holder, no entry, RUN_OUTn off and its attention set; every slot holder is cut with NO_POWER, every
listed door takes NO_POWER and the rest state of its indication; every other door, every other unit, and everything
but the outputs, stay. (03_door_motion_and_stroke_supervision.md section 3.6, 06_power_units_and_stroke_admission.md
section 6.2, 06_power_units_and_stroke_admission.md section 6.5, notes/assumptions/4.md, notes/assumptions/8.md) -/
def Obligations.PressureChangesAndFailures : Prop :=
  (∀ (s : State) (u : UnitId) (a : Bool), s.powered = true → s.OutputsHold →
    ∃ t, exec (.pressLowChange u a) s = .next t ∧
      ((s.unit u).pressLow.value = a → t = s) ∧
      ((s.unit u).pressLow.value ≠ a →
        (t.unit u).pressLow = { line := a, value := a, since := none } ∧
        (a = true ∧ ((s.unit u).state = .running ∨ (s.unit u).state = .idling) → (t.unit u).state = .failed) ∧
        (¬(a = true ∧ ((s.unit u).state = .running ∨ (s.unit u).state = .idling)) →
          t.unit u = { s.unit u with pressLow := { line := a, value := a, since := none } } ∧ OtherUnits u s t ∧
          t = { s with units := t.units, ports := t.ports } ∧ ∀ q, (s.port q).SameButMarks (t.port q)))) ∧
    ∀ (s : State) (u : UnitId) (c : Instr) (x : PowerUnit), s.powered = true →
    (c = .pressLowChange u true ∧ (s.unit u).pressLow.value = false ∧
        ((s.unit u).state = .running ∨ (s.unit u).state = .idling) ∧
        x = { s.unit u with pressLow := { line := true, value := true, since := none } } ∨
      c = .startTimerExpiry u ∧ (s.unit u).state = .starting ∧ (s.unit u).pressLow.value = true ∧
        (∃ e, (s.unit u).timer = some e ∧ e ≤ s.runCount) ∧ x = s.unit u) →
    (∀ i ∈ (s.unit u).holders, (s.door i).unit = u ∧ (s.door i).state.hasStroke = true) →
    (∀ n ∈ (s.unit u).list, (s.door n.door).unit = u ∧ n.door ∉ (s.unit u).holders) →
    ((s.unit u).list.map fun n => n.door).Nodup →
    ∃ t, exec c s = .next t ∧
      t.unit u = { x with state := .failed, timer := none, holders := [], list := [], attention := true } ∧ t.runOut u = false ∧
      OtherUnits u s t ∧
      (∀ i, t.door i = if i ∈ (s.unit u).holders then (s.door i).cutWith .noPower s
        else if i ∈ (s.unit u).list.map fun n => n.door then
          ((s.door i).faulted .noPower s.clock.time).rested (s.door i).indication.restState s.settingsHold
        else s.door i) ∧
      t = { s with doors := t.doors, units := t.units, ports := t.ports, outputs := t.outputs } ∧ t.OutputsHold ∧
      t.outputs.fault = true ∧ ∀ q, (s.port q).SameButMarks (t.port q)

/-- At a D48 with supply: DRIVE_CUTOFF_ACTIVE with the cutoff inactive makes it active, cuts every door in REVERSING,
CLOSING or OPENING with CUT_OFF into the rest state of its indication, and leaves every other door; where the slot
holders of each unit are its doors in those states, each unit keeps its list and loses its slot holders, and one
that so loses its last and has no entry goes to IDLING for its holdoff; with it active already it changes nothing
(assumption 4; that line and value move together is assumption 8: both the model's choice). DRIVE_CUTOFF_RELEASE
makes it inactive: where no RUNNING unit has an entry nothing else changes; where the entries of each unit are of
its own doors, each once, every RUNNING unit admits its entries from the head of its list on, in list order, while a
slot is free; with the cutoff inactive already it changes nothing. (06_power_units_and_stroke_admission.md section
6.4, 06_power_units_and_stroke_admission.md section 6.6, 03_door_motion_and_stroke_supervision.md section 3.6,
notes/assumptions/4.md, notes/assumptions/8.md) -/
def Obligations.CutoffCutsEverySlotHolder : Prop :=
  ∀ (s : State), s.powered = true →
    (s.cutoff.value = false →
      ∃ t, exec .driveCutoffActive s = .next t ∧
        (∀ i, t.door i = if (s.door i).state.hasStroke then (s.door i).cutWith .cutOff s else s.door i) ∧
        ((∀ u i, i ∈ (s.unit u).holders ↔ (s.door i).unit = u ∧ (s.door i).state.hasStroke = true) →
          ∀ u, t.unit u = if (s.unit u).holders = [] then s.unit u
            else { s.unit u with holders := [] }.idled s.runCount) ∧
        t = { s with cutoff := { line := true, value := true, since := none }, doors := t.doors, units := t.units
                     ports := t.ports, outputs := t.outputs } ∧ t.OutputsHold ∧
        ∀ q, (s.port q).SameButMarks (t.port q)) ∧
    (s.cutoff.value = true → s.OutputsHold → exec .driveCutoffActive s = .next s) ∧
    (s.cutoff.value = false → exec .driveCutoffRelease s = .next s) ∧
    (s.cutoff.value = true →
      ((∀ u, (s.unit u).state = .running → (s.unit u).list = []) →
        ∃ t, exec .driveCutoffRelease s = .next t ∧
          t = { s with cutoff := { line := false, value := false, since := none }, ports := t.ports } ∧
          ∀ q, (s.port q).SameButMarks (t.port q)) ∧
      ((∀ u, (∀ e ∈ (s.unit u).list, (s.door e.door).unit = u) ∧ ((s.unit u).list.map fun e => e.door).Nodup) →
        ∃ t, exec .driveCutoffRelease s = .next t ∧ (∀ u, t.unit u = (s.unit u).ran false) ∧
          (∀ j, t.door j = (s.door j).afterRun ((s.unit (s.door j).unit).admits false j) s.runCount) ∧
          t = { s with cutoff := { line := false, value := false, since := none }, doors := t.doors, units := t.units
                       ports := t.ports } ∧ ∀ q, (s.port q).SameButMarks (t.port q)))

/-- At a D48 with supply. CLOSE_ALL_CHANGE to another level makes the LINE set all zones or none, every other holder's
set staying; a standing door of a zone that becomes held, demanded closed by its state and in no admission list,
enters WARNING with cause CLOSURE. SYNC_IN_EDGE, where a sample has found an edge or the last one found the input
inactive, captures the time, an armed load then becoming the time and being absent, and the input has been found
active; where the last sample found it active it changes nothing, as after a power-on that found it active, until a
sample finds it inactive. TRIM_STEP of a trim timer that has run out moves the time one ms in the trim direction and
sets the timer one interval on. That a change to the level the input has and a trim step before its instant change
nothing (assumption 4), that a change sets line and value together (assumption 8), and that a pulse has left the
line by the next sample (assumption 34) are the model's choices. (04_closure_holds_and_command_authority.md section
4.1, 04_closure_holds_and_command_authority.md section 4.4, 10_vessel_clock.md section 10.1, 10_vessel_clock.md
section 10.3, notes/assumptions/4.md, notes/assumptions/8.md, notes/assumptions/34.md) -/
def Obligations.CabinetLinesAndTrim : Prop :=
  ∀ (s : State) (a : Bool) (i : DoorId) (e : Nat), s.powered = true →
    (s.closeAll.value ≠ a →
      ∃ t, exec (.closeAllChange a) s = .next t ∧ t.holds = { s.holds with line := if a then 0xFFFF else 0 } ∧
        t = { s with closeAll := { line := a, value := a, since := none }, holds := t.holds, doors := t.doors
                     units := t.units, ports := t.ports, outputs := t.outputs } ∧ t.OutputsHold ∧
        (∀ q, (s.port q).SameButMarks (t.port q)) ∧
        (a = true → s.Unlisted i → s.doorHeld i = false → (s.door i).installed = true → (s.door i).inService = true →
          (s.door i).eventFaulted = false → (s.door i).localOpen = false →
          ((s.door i).state = .opened ∨ (s.door i).state = .halted) →
          t.door i = { ((s.door i).warned .closure s.runCount).cleared .notControlled with
            lastSource := some .closure })) ∧
    (s.closeAll.value = a → s.OutputsHold → exec (.closeAllChange a) s = .next s) ∧
    ((s.sync.edge = true ∨ s.sync.sampled = false) → exec .syncInEdge s = .next { s with
      clock := { s.clock with
        capture := some s.clock.time, time := s.clock.armed.getD s.clock.time, armed := none }
      sync := { line := true, sampled := true, edge := false } }) ∧
    (s.sync.edge = false → s.sync.sampled = true → exec .syncInEdge s = .next s) ∧
    ((s.sync.sampled = true ∨ s.sync.line = false) → s.sync.sample = { line := false, sampled := false, edge := false }) ∧
    (s.sync.sampled = false → s.sync.line = true → s.sync.sample = { line := true, sampled := true, edge := true }) ∧
    (s.clock.trimTimer = some e →
      (e ≤ s.runCount → exec .trimStep s = .next { s with clock := { s.clock with
        time := if s.clock.trimForward then s.clock.time.next else s.clock.time.prev
        trimTimer := some (e + s.clock.trimInterval * 1000) } }) ∧
      (s.runCount < e → exec .trimStep s = .next s))

/-- In every state the sounder of a door's signal command is on exactly if its signal test timer runs, it is in WARNING,
or it is in QUEUED(close), REVERSING-to-close or CLOSING with a cause of its entry or stroke record other than
LOCAL, or with any cause in a held zone. The lamp of a door's signal command is on exactly if some holder's set
contains the door's zone; so after a HOLD_ZONES from a free COMMAND port the lamps of all doors of its zones are on,
in whatever state, and after a SET of zone the lamp follows the new zone. (R106, R109) -/
def Obligations.SoundersAndLampsFollowTheirConditions : Prop :=
  ∀ (s : State) (p : PortId) (m : ZoneSet) (i : DoorId) (z : ZoneId),
    ((s.signalCommand i).sounder = true ↔ (s.door i).test ≠ none ∨ (s.door i).state = .warning ∨
      (s.door i).state = .queued .close ∧ ((∃ n, s.entryOf i = some n ∧ n.cause ≠ .localControl) ∨ s.doorHeld i = true) ∨
      (s.door i).state ∈ [.reversing .close, .closing] ∧
        ((∃ r, (s.door i).stroke = some r ∧ r.cause ≠ .localControl) ∨ s.doorHeld i = true)) ∧
    ((s.signalCommand i).lamp = true ↔
      ((∃ q : PortId, zoneIn s.holds.console[q] (s.door i).zone = true) ∨ zoneIn s.holds.line (s.door i).zone = true ∨
        zoneIn s.holds.start (s.door i).zone = true)) ∧
    (s.MayOrder p → ∃ t, exec (.holdZones p (.zoneSet m)) s = .next t ∧
      ∀ j, (t.signalCommand j).lamp = ((s.signalCommand j).lamp || zoneIn m (s.door j).zone)) ∧
    (s.MayInstall p → (s.door i).state.isRest = true → ∃ t, exec (.setZone p (.door (number i)) (number z)) s = .next t ∧
      (t.signalCommand i).lamp = s.held z)

/-- POWER_ON with any levels of the cabinet lines, from every state: each door, unit, branch and port takes its power-on
values with the settings of the image, or of the defaults when the image is bad (a save that the loss of supply
broke off leaves it bad); BRANCH_OFF is raised for installed doors of disabled branches; the LINE set follows
CLOSE_ALL_IN and the START set start closed; the lock is open exactly if the key is active; inputs take their
sampled levels; the run count is 0. Each branch has its round counter and sequence at 0, no exchange, no pending
direct exchange, fresh pairs and no broken exchange, its receiver hunting (assumptions 16 and 37); each enabled one
starts its first round: its timer runs for the round period, and the lowest drop of its installed doors is polled,
the others to follow, or, without a door, the round is counted. The changed-door sets hold the doors with BRANCH_OFF
alone; a summary changed flag is set only where an output is asserted (assumption 17) or a round counted. Only the
waiting commands and the model's counters stay. (01_the_door_table.md section 1.7,
04_closure_holds_and_command_authority.md section 4.1, 06_power_units_and_stroke_admission.md section 6.6,
07_station_branches.md section 7.1, 07_station_branches.md section 7.7, 09_change_reports_and_cabinet_lines.md
section 9.1, 11_commissioning_settings_store_and_start_up.md section 11.4, notes/assumptions/5.md,
notes/assumptions/16.md, notes/assumptions/17.md, notes/assumptions/19.md, notes/assumptions/37.md) -/
def Obligations.PowerOnLoadsTheImage : Prop :=
  ∀ (s : State) (k a o y : Bool) (l : BitVec 4) (image : Option Image) (m : Image),
    image = (if s.powered ∧ s.store.saving ≠ none then none else s.store.image) → m = image.getD Image.defaults →
    ∃ t, exec (.powerOn k a o l y) s = .next t ∧ t.powered = true ∧ t.runCount = 0 ∧
      (∀ i, t.door i = if m.doors[i].installed ∧ m.branches[m.doors[i].branch].enable = false then
          (Door.powerOn m.doors[i]).faulted .branchOff { day := 0, ms := 0 }
        else Door.powerOn m.doors[i]) ∧
      t.settingsHold = false ∧
      t.holds = { console := Vector.replicate 3 0, line := if a then 0xFFFF else 0
                  start := if m.startClosed then 0xFFFF else 0 } ∧
      (∀ u, t.unit u = PowerUnit.powerOn m.units[u] (l.getLsbD u.val)) ∧
      (∀ b y, y = { enable := m.branches[b].enable, roundPeriod := m.branches[b].roundPeriod
                    replyTimeout := m.branches[b].replyTimeout, lostThreshold := m.branches[b].lostThreshold
                    roundCounter := 0, roundTimer := none, members := [], exchange := none, sequence := 0
                    pendingDirect := none, drops := Vector.replicate 12 { missCount := 0, lost := false }
                    collecting := false, broken := [], lastSent := none } →
        (y.enable = false → t.branch b = y) ∧
        (y.enable = true →
          (t.claimedDrops b = [] → t.branch b = { y with roundTimer := some y.roundPeriod, roundCounter := 1 }) ∧
          ∀ d rest i, t.claimedDrops b = d :: rest → t.claimant b d = some i →
            t.branch b = { y with roundTimer := some y.roundPeriod, members := rest }.sent 0 d .regular none
              (t.signalCommand i))) ∧
      (∀ p, (Port.powerOn m.roles[p]).SameButMarks (t.port p) ∧
        (t.port p).changed =
          (doorIds.filter fun i => m.doors[i].installed && !m.branches[m.doors[i].branch].enable) ∧
        ((t.port p).summaryChanged = true ↔
          t.outputs ≠ { fault := false, closure := false, allClosed := false } ∨
            ∃ b, (t.branch b).roundCounter ≠ 0)) ∧ t.clock = Clock.powerOn ∧
      t.store = { image := image, imageFault := image.isNone, lockOpen := k, identity := m.identity, saving := none
                  restartPending := none, startClosed := m.startClosed, alarmMask := m.alarmMask } ∧
      t.closeAll = Input.sampled a ∧ t.cutoff = Input.sampled o ∧
      t.sync = { line := y, sampled := y, edge := false } ∧ t.keyLine = k ∧ t.OutputsHold ∧
      t.pending = s.pending ∧ t.freeCount = s.freeCount ∧ t.schedule = s.schedule
end

