-- ==== Sys2Proof/Laws/State.lean ====
section
/-! SUPPORT. What each named update of the state leaves as it is, field by field, and what it writes. -/

namespace Sys2Proof.Machine

variable (s : State)

/-! ### Every port -/

@[simp] theorem State.mapPorts_powered (f : PortId → Port → Port) : (s.mapPorts f).powered = s.powered := rfl
@[simp] theorem State.mapPorts_runCount (f : PortId → Port → Port) : (s.mapPorts f).runCount = s.runCount := rfl
@[simp] theorem State.mapPorts_doors (f : PortId → Port → Port) : (s.mapPorts f).doors = s.doors := rfl
@[simp] theorem State.mapPorts_settingsHold (f : PortId → Port → Port) : (s.mapPorts f).settingsHold = s.settingsHold := rfl
@[simp] theorem State.mapPorts_holds (f : PortId → Port → Port) : (s.mapPorts f).holds = s.holds := rfl
@[simp] theorem State.mapPorts_units (f : PortId → Port → Port) : (s.mapPorts f).units = s.units := rfl
@[simp] theorem State.mapPorts_branches (f : PortId → Port → Port) : (s.mapPorts f).branches = s.branches := rfl
@[simp] theorem State.mapPorts_clock (f : PortId → Port → Port) : (s.mapPorts f).clock = s.clock := rfl
@[simp] theorem State.mapPorts_store (f : PortId → Port → Port) : (s.mapPorts f).store = s.store := rfl
@[simp] theorem State.mapPorts_closeAll (f : PortId → Port → Port) : (s.mapPorts f).closeAll = s.closeAll := rfl
@[simp] theorem State.mapPorts_cutoff (f : PortId → Port → Port) : (s.mapPorts f).cutoff = s.cutoff := rfl
@[simp] theorem State.mapPorts_sync (f : PortId → Port → Port) : (s.mapPorts f).sync = s.sync := rfl
@[simp] theorem State.mapPorts_keyLine (f : PortId → Port → Port) : (s.mapPorts f).keyLine = s.keyLine := rfl
@[simp] theorem State.mapPorts_outputs (f : PortId → Port → Port) : (s.mapPorts f).outputs = s.outputs := rfl
@[simp] theorem State.mapPorts_freeCount (f : PortId → Port → Port) : (s.mapPorts f).freeCount = s.freeCount := rfl
@[simp] theorem State.mapPorts_schedule (f : PortId → Port → Port) : (s.mapPorts f).schedule = s.schedule := rfl
@[simp] theorem State.mapPorts_pending (f : PortId → Port → Port) : (s.mapPorts f).pending = s.pending := rfl

/-! ### The summary changed flags -/

@[simp] theorem State.touchSummary_powered : (s.touchSummary).powered = s.powered := rfl
@[simp] theorem State.touchSummary_runCount : (s.touchSummary).runCount = s.runCount := rfl
@[simp] theorem State.touchSummary_doors : (s.touchSummary).doors = s.doors := rfl
@[simp] theorem State.touchSummary_settingsHold : (s.touchSummary).settingsHold = s.settingsHold := rfl
@[simp] theorem State.touchSummary_holds : (s.touchSummary).holds = s.holds := rfl
@[simp] theorem State.touchSummary_units : (s.touchSummary).units = s.units := rfl
@[simp] theorem State.touchSummary_branches : (s.touchSummary).branches = s.branches := rfl
@[simp] theorem State.touchSummary_clock : (s.touchSummary).clock = s.clock := rfl
@[simp] theorem State.touchSummary_store : (s.touchSummary).store = s.store := rfl
@[simp] theorem State.touchSummary_closeAll : (s.touchSummary).closeAll = s.closeAll := rfl
@[simp] theorem State.touchSummary_cutoff : (s.touchSummary).cutoff = s.cutoff := rfl
@[simp] theorem State.touchSummary_sync : (s.touchSummary).sync = s.sync := rfl
@[simp] theorem State.touchSummary_keyLine : (s.touchSummary).keyLine = s.keyLine := rfl
@[simp] theorem State.touchSummary_outputs : (s.touchSummary).outputs = s.outputs := rfl
@[simp] theorem State.touchSummary_freeCount : (s.touchSummary).freeCount = s.freeCount := rfl
@[simp] theorem State.touchSummary_schedule : (s.touchSummary).schedule = s.schedule := rfl
@[simp] theorem State.touchSummary_pending : (s.touchSummary).pending = s.pending := rfl

/-! ### The summary changed flags, on a condition -/

@[simp] theorem State.touchIf_powered (c : Bool) : (s.touchIf c).powered = s.powered := by cases c <;> rfl
@[simp] theorem State.touchIf_runCount (c : Bool) : (s.touchIf c).runCount = s.runCount := by cases c <;> rfl
@[simp] theorem State.touchIf_doors (c : Bool) : (s.touchIf c).doors = s.doors := by cases c <;> rfl
@[simp] theorem State.touchIf_settingsHold (c : Bool) : (s.touchIf c).settingsHold = s.settingsHold := by cases c <;> rfl
@[simp] theorem State.touchIf_holds (c : Bool) : (s.touchIf c).holds = s.holds := by cases c <;> rfl
@[simp] theorem State.touchIf_units (c : Bool) : (s.touchIf c).units = s.units := by cases c <;> rfl
@[simp] theorem State.touchIf_branches (c : Bool) : (s.touchIf c).branches = s.branches := by cases c <;> rfl
@[simp] theorem State.touchIf_clock (c : Bool) : (s.touchIf c).clock = s.clock := by cases c <;> rfl
@[simp] theorem State.touchIf_store (c : Bool) : (s.touchIf c).store = s.store := by cases c <;> rfl
@[simp] theorem State.touchIf_closeAll (c : Bool) : (s.touchIf c).closeAll = s.closeAll := by cases c <;> rfl
@[simp] theorem State.touchIf_cutoff (c : Bool) : (s.touchIf c).cutoff = s.cutoff := by cases c <;> rfl
@[simp] theorem State.touchIf_sync (c : Bool) : (s.touchIf c).sync = s.sync := by cases c <;> rfl
@[simp] theorem State.touchIf_keyLine (c : Bool) : (s.touchIf c).keyLine = s.keyLine := by cases c <;> rfl
@[simp] theorem State.touchIf_outputs (c : Bool) : (s.touchIf c).outputs = s.outputs := by cases c <;> rfl
@[simp] theorem State.touchIf_freeCount (c : Bool) : (s.touchIf c).freeCount = s.freeCount := by cases c <;> rfl
@[simp] theorem State.touchIf_schedule (c : Bool) : (s.touchIf c).schedule = s.schedule := by cases c <;> rfl
@[simp] theorem State.touchIf_pending (c : Bool) : (s.touchIf c).pending = s.pending := by cases c <;> rfl

/-! ### One port -/

@[simp] theorem State.modPort_powered (p : PortId) (f : Port → Port) : (s.modPort p f).powered = s.powered := by simp [State.modPort]
@[simp] theorem State.modPort_runCount (p : PortId) (f : Port → Port) : (s.modPort p f).runCount = s.runCount := by simp [State.modPort]
@[simp] theorem State.modPort_doors (p : PortId) (f : Port → Port) : (s.modPort p f).doors = s.doors := by simp [State.modPort]
@[simp] theorem State.modPort_settingsHold (p : PortId) (f : Port → Port) : (s.modPort p f).settingsHold = s.settingsHold := by simp [State.modPort]
@[simp] theorem State.modPort_holds (p : PortId) (f : Port → Port) : (s.modPort p f).holds = s.holds := by simp [State.modPort]
@[simp] theorem State.modPort_units (p : PortId) (f : Port → Port) : (s.modPort p f).units = s.units := by simp [State.modPort]
@[simp] theorem State.modPort_branches (p : PortId) (f : Port → Port) : (s.modPort p f).branches = s.branches := by simp [State.modPort]
@[simp] theorem State.modPort_clock (p : PortId) (f : Port → Port) : (s.modPort p f).clock = s.clock := by simp [State.modPort]
@[simp] theorem State.modPort_store (p : PortId) (f : Port → Port) : (s.modPort p f).store = s.store := by simp [State.modPort]
@[simp] theorem State.modPort_closeAll (p : PortId) (f : Port → Port) : (s.modPort p f).closeAll = s.closeAll := by simp [State.modPort]
@[simp] theorem State.modPort_cutoff (p : PortId) (f : Port → Port) : (s.modPort p f).cutoff = s.cutoff := by simp [State.modPort]
@[simp] theorem State.modPort_sync (p : PortId) (f : Port → Port) : (s.modPort p f).sync = s.sync := by simp [State.modPort]
@[simp] theorem State.modPort_keyLine (p : PortId) (f : Port → Port) : (s.modPort p f).keyLine = s.keyLine := by simp [State.modPort]
@[simp] theorem State.modPort_outputs (p : PortId) (f : Port → Port) : (s.modPort p f).outputs = s.outputs := by simp [State.modPort]
@[simp] theorem State.modPort_freeCount (p : PortId) (f : Port → Port) : (s.modPort p f).freeCount = s.freeCount := by simp [State.modPort]
@[simp] theorem State.modPort_schedule (p : PortId) (f : Port → Port) : (s.modPort p f).schedule = s.schedule := by simp [State.modPort]
@[simp] theorem State.modPort_pending (p : PortId) (f : Port → Port) : (s.modPort p f).pending = s.pending := by simp [State.modPort]

/-! ### A change noted for the reports -/

@[simp] theorem State.noteDoor_powered (i : DoorId) (d e : Door) : (s.noteDoor i d e).powered = s.powered := by
  simp only [State.noteDoor]; split <;> [split; skip] <;> rfl
@[simp] theorem State.noteDoor_runCount (i : DoorId) (d e : Door) : (s.noteDoor i d e).runCount = s.runCount := by
  simp only [State.noteDoor]; split <;> [split; skip] <;> rfl
@[simp] theorem State.noteDoor_doors (i : DoorId) (d e : Door) : (s.noteDoor i d e).doors = s.doors := by
  simp only [State.noteDoor]; split <;> [split; skip] <;> rfl
@[simp] theorem State.noteDoor_settingsHold (i : DoorId) (d e : Door) : (s.noteDoor i d e).settingsHold = s.settingsHold := by
  simp only [State.noteDoor]; split <;> [split; skip] <;> rfl
@[simp] theorem State.noteDoor_holds (i : DoorId) (d e : Door) : (s.noteDoor i d e).holds = s.holds := by
  simp only [State.noteDoor]; split <;> [split; skip] <;> rfl
@[simp] theorem State.noteDoor_units (i : DoorId) (d e : Door) : (s.noteDoor i d e).units = s.units := by
  simp only [State.noteDoor]; split <;> [split; skip] <;> rfl
@[simp] theorem State.noteDoor_branches (i : DoorId) (d e : Door) : (s.noteDoor i d e).branches = s.branches := by
  simp only [State.noteDoor]; split <;> [split; skip] <;> rfl
@[simp] theorem State.noteDoor_clock (i : DoorId) (d e : Door) : (s.noteDoor i d e).clock = s.clock := by
  simp only [State.noteDoor]; split <;> [split; skip] <;> rfl
@[simp] theorem State.noteDoor_store (i : DoorId) (d e : Door) : (s.noteDoor i d e).store = s.store := by
  simp only [State.noteDoor]; split <;> [split; skip] <;> rfl
@[simp] theorem State.noteDoor_closeAll (i : DoorId) (d e : Door) : (s.noteDoor i d e).closeAll = s.closeAll := by
  simp only [State.noteDoor]; split <;> [split; skip] <;> rfl
@[simp] theorem State.noteDoor_cutoff (i : DoorId) (d e : Door) : (s.noteDoor i d e).cutoff = s.cutoff := by
  simp only [State.noteDoor]; split <;> [split; skip] <;> rfl
@[simp] theorem State.noteDoor_sync (i : DoorId) (d e : Door) : (s.noteDoor i d e).sync = s.sync := by
  simp only [State.noteDoor]; split <;> [split; skip] <;> rfl
@[simp] theorem State.noteDoor_keyLine (i : DoorId) (d e : Door) : (s.noteDoor i d e).keyLine = s.keyLine := by
  simp only [State.noteDoor]; split <;> [split; skip] <;> rfl
@[simp] theorem State.noteDoor_outputs (i : DoorId) (d e : Door) : (s.noteDoor i d e).outputs = s.outputs := by
  simp only [State.noteDoor]; split <;> [split; skip] <;> rfl
@[simp] theorem State.noteDoor_freeCount (i : DoorId) (d e : Door) : (s.noteDoor i d e).freeCount = s.freeCount := by
  simp only [State.noteDoor]; split <;> [split; skip] <;> rfl
@[simp] theorem State.noteDoor_schedule (i : DoorId) (d e : Door) : (s.noteDoor i d e).schedule = s.schedule := by
  simp only [State.noteDoor]; split <;> [split; skip] <;> rfl
@[simp] theorem State.noteDoor_pending (i : DoorId) (d e : Door) : (s.noteDoor i d e).pending = s.pending := by
  simp only [State.noteDoor]; split <;> [split; skip] <;> rfl

/-! ### One door -/

@[simp] theorem State.modDoor_powered (i : DoorId) (f : Door → Door) : (s.modDoor i f).powered = s.powered := by simp [State.modDoor]
@[simp] theorem State.modDoor_runCount (i : DoorId) (f : Door → Door) : (s.modDoor i f).runCount = s.runCount := by simp [State.modDoor]
@[simp] theorem State.modDoor_settingsHold (i : DoorId) (f : Door → Door) : (s.modDoor i f).settingsHold = s.settingsHold := by simp [State.modDoor]
@[simp] theorem State.modDoor_holds (i : DoorId) (f : Door → Door) : (s.modDoor i f).holds = s.holds := by simp [State.modDoor]
@[simp] theorem State.modDoor_units (i : DoorId) (f : Door → Door) : (s.modDoor i f).units = s.units := by simp [State.modDoor]
@[simp] theorem State.modDoor_branches (i : DoorId) (f : Door → Door) : (s.modDoor i f).branches = s.branches := by simp [State.modDoor]
@[simp] theorem State.modDoor_clock (i : DoorId) (f : Door → Door) : (s.modDoor i f).clock = s.clock := by simp [State.modDoor]
@[simp] theorem State.modDoor_store (i : DoorId) (f : Door → Door) : (s.modDoor i f).store = s.store := by simp [State.modDoor]
@[simp] theorem State.modDoor_closeAll (i : DoorId) (f : Door → Door) : (s.modDoor i f).closeAll = s.closeAll := by simp [State.modDoor]
@[simp] theorem State.modDoor_cutoff (i : DoorId) (f : Door → Door) : (s.modDoor i f).cutoff = s.cutoff := by simp [State.modDoor]
@[simp] theorem State.modDoor_sync (i : DoorId) (f : Door → Door) : (s.modDoor i f).sync = s.sync := by simp [State.modDoor]
@[simp] theorem State.modDoor_keyLine (i : DoorId) (f : Door → Door) : (s.modDoor i f).keyLine = s.keyLine := by simp [State.modDoor]
@[simp] theorem State.modDoor_outputs (i : DoorId) (f : Door → Door) : (s.modDoor i f).outputs = s.outputs := by simp [State.modDoor]
@[simp] theorem State.modDoor_freeCount (i : DoorId) (f : Door → Door) : (s.modDoor i f).freeCount = s.freeCount := by simp [State.modDoor]
@[simp] theorem State.modDoor_schedule (i : DoorId) (f : Door → Door) : (s.modDoor i f).schedule = s.schedule := by simp [State.modDoor]
@[simp] theorem State.modDoor_pending (i : DoorId) (f : Door → Door) : (s.modDoor i f).pending = s.pending := by simp [State.modDoor]

/-! ### One power unit -/

@[simp] theorem State.modUnit_powered (u : UnitId) (f : PowerUnit → PowerUnit) : (s.modUnit u f).powered = s.powered := by simp [State.modUnit]
@[simp] theorem State.modUnit_runCount (u : UnitId) (f : PowerUnit → PowerUnit) : (s.modUnit u f).runCount = s.runCount := by simp [State.modUnit]
@[simp] theorem State.modUnit_doors (u : UnitId) (f : PowerUnit → PowerUnit) : (s.modUnit u f).doors = s.doors := by simp [State.modUnit]
@[simp] theorem State.modUnit_settingsHold (u : UnitId) (f : PowerUnit → PowerUnit) : (s.modUnit u f).settingsHold = s.settingsHold := by simp [State.modUnit]
@[simp] theorem State.modUnit_holds (u : UnitId) (f : PowerUnit → PowerUnit) : (s.modUnit u f).holds = s.holds := by simp [State.modUnit]
@[simp] theorem State.modUnit_branches (u : UnitId) (f : PowerUnit → PowerUnit) : (s.modUnit u f).branches = s.branches := by simp [State.modUnit]
@[simp] theorem State.modUnit_clock (u : UnitId) (f : PowerUnit → PowerUnit) : (s.modUnit u f).clock = s.clock := by simp [State.modUnit]
@[simp] theorem State.modUnit_store (u : UnitId) (f : PowerUnit → PowerUnit) : (s.modUnit u f).store = s.store := by simp [State.modUnit]
@[simp] theorem State.modUnit_closeAll (u : UnitId) (f : PowerUnit → PowerUnit) : (s.modUnit u f).closeAll = s.closeAll := by simp [State.modUnit]
@[simp] theorem State.modUnit_cutoff (u : UnitId) (f : PowerUnit → PowerUnit) : (s.modUnit u f).cutoff = s.cutoff := by simp [State.modUnit]
@[simp] theorem State.modUnit_sync (u : UnitId) (f : PowerUnit → PowerUnit) : (s.modUnit u f).sync = s.sync := by simp [State.modUnit]
@[simp] theorem State.modUnit_keyLine (u : UnitId) (f : PowerUnit → PowerUnit) : (s.modUnit u f).keyLine = s.keyLine := by simp [State.modUnit]
@[simp] theorem State.modUnit_outputs (u : UnitId) (f : PowerUnit → PowerUnit) : (s.modUnit u f).outputs = s.outputs := by simp [State.modUnit]
@[simp] theorem State.modUnit_freeCount (u : UnitId) (f : PowerUnit → PowerUnit) : (s.modUnit u f).freeCount = s.freeCount := by simp [State.modUnit]
@[simp] theorem State.modUnit_schedule (u : UnitId) (f : PowerUnit → PowerUnit) : (s.modUnit u f).schedule = s.schedule := by simp [State.modUnit]
@[simp] theorem State.modUnit_pending (u : UnitId) (f : PowerUnit → PowerUnit) : (s.modUnit u f).pending = s.pending := by simp [State.modUnit]

/-! ### One branch -/

@[simp] theorem State.modBranch_powered (b : BranchId) (f : Branch → Branch) : (s.modBranch b f).powered = s.powered := by simp [State.modBranch]
@[simp] theorem State.modBranch_runCount (b : BranchId) (f : Branch → Branch) : (s.modBranch b f).runCount = s.runCount := by simp [State.modBranch]
@[simp] theorem State.modBranch_doors (b : BranchId) (f : Branch → Branch) : (s.modBranch b f).doors = s.doors := by simp [State.modBranch]
@[simp] theorem State.modBranch_settingsHold (b : BranchId) (f : Branch → Branch) : (s.modBranch b f).settingsHold = s.settingsHold := by simp [State.modBranch]
@[simp] theorem State.modBranch_holds (b : BranchId) (f : Branch → Branch) : (s.modBranch b f).holds = s.holds := by simp [State.modBranch]
@[simp] theorem State.modBranch_units (b : BranchId) (f : Branch → Branch) : (s.modBranch b f).units = s.units := by simp [State.modBranch]
@[simp] theorem State.modBranch_clock (b : BranchId) (f : Branch → Branch) : (s.modBranch b f).clock = s.clock := by simp [State.modBranch]
@[simp] theorem State.modBranch_store (b : BranchId) (f : Branch → Branch) : (s.modBranch b f).store = s.store := by simp [State.modBranch]
@[simp] theorem State.modBranch_closeAll (b : BranchId) (f : Branch → Branch) : (s.modBranch b f).closeAll = s.closeAll := by simp [State.modBranch]
@[simp] theorem State.modBranch_cutoff (b : BranchId) (f : Branch → Branch) : (s.modBranch b f).cutoff = s.cutoff := by simp [State.modBranch]
@[simp] theorem State.modBranch_sync (b : BranchId) (f : Branch → Branch) : (s.modBranch b f).sync = s.sync := by simp [State.modBranch]
@[simp] theorem State.modBranch_keyLine (b : BranchId) (f : Branch → Branch) : (s.modBranch b f).keyLine = s.keyLine := by simp [State.modBranch]
@[simp] theorem State.modBranch_outputs (b : BranchId) (f : Branch → Branch) : (s.modBranch b f).outputs = s.outputs := by simp [State.modBranch]
@[simp] theorem State.modBranch_freeCount (b : BranchId) (f : Branch → Branch) : (s.modBranch b f).freeCount = s.freeCount := by simp [State.modBranch]
@[simp] theorem State.modBranch_schedule (b : BranchId) (f : Branch → Branch) : (s.modBranch b f).schedule = s.schedule := by simp [State.modBranch]
@[simp] theorem State.modBranch_pending (b : BranchId) (f : Branch → Branch) : (s.modBranch b f).pending = s.pending := by simp [State.modBranch]

/-! ### One pair -/

@[simp] theorem State.modLink_powered (b : BranchId) (d : DropId) (f : DropLink → DropLink) : (s.modLink b d f).powered = s.powered := by simp [State.modLink]
@[simp] theorem State.modLink_runCount (b : BranchId) (d : DropId) (f : DropLink → DropLink) : (s.modLink b d f).runCount = s.runCount := by simp [State.modLink]
@[simp] theorem State.modLink_doors (b : BranchId) (d : DropId) (f : DropLink → DropLink) : (s.modLink b d f).doors = s.doors := by simp [State.modLink]
@[simp] theorem State.modLink_settingsHold (b : BranchId) (d : DropId) (f : DropLink → DropLink) : (s.modLink b d f).settingsHold = s.settingsHold := by simp [State.modLink]
@[simp] theorem State.modLink_holds (b : BranchId) (d : DropId) (f : DropLink → DropLink) : (s.modLink b d f).holds = s.holds := by simp [State.modLink]
@[simp] theorem State.modLink_units (b : BranchId) (d : DropId) (f : DropLink → DropLink) : (s.modLink b d f).units = s.units := by simp [State.modLink]
@[simp] theorem State.modLink_clock (b : BranchId) (d : DropId) (f : DropLink → DropLink) : (s.modLink b d f).clock = s.clock := by simp [State.modLink]
@[simp] theorem State.modLink_store (b : BranchId) (d : DropId) (f : DropLink → DropLink) : (s.modLink b d f).store = s.store := by simp [State.modLink]
@[simp] theorem State.modLink_closeAll (b : BranchId) (d : DropId) (f : DropLink → DropLink) : (s.modLink b d f).closeAll = s.closeAll := by simp [State.modLink]
@[simp] theorem State.modLink_cutoff (b : BranchId) (d : DropId) (f : DropLink → DropLink) : (s.modLink b d f).cutoff = s.cutoff := by simp [State.modLink]
@[simp] theorem State.modLink_sync (b : BranchId) (d : DropId) (f : DropLink → DropLink) : (s.modLink b d f).sync = s.sync := by simp [State.modLink]
@[simp] theorem State.modLink_keyLine (b : BranchId) (d : DropId) (f : DropLink → DropLink) : (s.modLink b d f).keyLine = s.keyLine := by simp [State.modLink]
@[simp] theorem State.modLink_outputs (b : BranchId) (d : DropId) (f : DropLink → DropLink) : (s.modLink b d f).outputs = s.outputs := by simp [State.modLink]
@[simp] theorem State.modLink_freeCount (b : BranchId) (d : DropId) (f : DropLink → DropLink) : (s.modLink b d f).freeCount = s.freeCount := by simp [State.modLink]
@[simp] theorem State.modLink_schedule (b : BranchId) (d : DropId) (f : DropLink → DropLink) : (s.modLink b d f).schedule = s.schedule := by simp [State.modLink]
@[simp] theorem State.modLink_pending (b : BranchId) (d : DropId) (f : DropLink → DropLink) : (s.modLink b d f).pending = s.pending := by simp [State.modLink]

/-! ### The Vessel Clock -/

@[simp] theorem State.modClock_powered (f : Clock → Clock) : (s.modClock f).powered = s.powered := rfl
@[simp] theorem State.modClock_runCount (f : Clock → Clock) : (s.modClock f).runCount = s.runCount := rfl
@[simp] theorem State.modClock_doors (f : Clock → Clock) : (s.modClock f).doors = s.doors := rfl
@[simp] theorem State.modClock_settingsHold (f : Clock → Clock) : (s.modClock f).settingsHold = s.settingsHold := rfl
@[simp] theorem State.modClock_holds (f : Clock → Clock) : (s.modClock f).holds = s.holds := rfl
@[simp] theorem State.modClock_units (f : Clock → Clock) : (s.modClock f).units = s.units := rfl
@[simp] theorem State.modClock_branches (f : Clock → Clock) : (s.modClock f).branches = s.branches := rfl
@[simp] theorem State.modClock_ports (f : Clock → Clock) : (s.modClock f).ports = s.ports := rfl
@[simp] theorem State.modClock_store (f : Clock → Clock) : (s.modClock f).store = s.store := rfl
@[simp] theorem State.modClock_closeAll (f : Clock → Clock) : (s.modClock f).closeAll = s.closeAll := rfl
@[simp] theorem State.modClock_cutoff (f : Clock → Clock) : (s.modClock f).cutoff = s.cutoff := rfl
@[simp] theorem State.modClock_sync (f : Clock → Clock) : (s.modClock f).sync = s.sync := rfl
@[simp] theorem State.modClock_keyLine (f : Clock → Clock) : (s.modClock f).keyLine = s.keyLine := rfl
@[simp] theorem State.modClock_outputs (f : Clock → Clock) : (s.modClock f).outputs = s.outputs := rfl
@[simp] theorem State.modClock_freeCount (f : Clock → Clock) : (s.modClock f).freeCount = s.freeCount := rfl
@[simp] theorem State.modClock_schedule (f : Clock → Clock) : (s.modClock f).schedule = s.schedule := rfl
@[simp] theorem State.modClock_pending (f : Clock → Clock) : (s.modClock f).pending = s.pending := rfl

/-! ### The Settings Store -/

@[simp] theorem State.modStore_powered (f : Store → Store) : (s.modStore f).powered = s.powered := by simp [State.modStore]
@[simp] theorem State.modStore_runCount (f : Store → Store) : (s.modStore f).runCount = s.runCount := by simp [State.modStore]
@[simp] theorem State.modStore_doors (f : Store → Store) : (s.modStore f).doors = s.doors := by simp [State.modStore]
@[simp] theorem State.modStore_settingsHold (f : Store → Store) : (s.modStore f).settingsHold = s.settingsHold := by simp [State.modStore]
@[simp] theorem State.modStore_holds (f : Store → Store) : (s.modStore f).holds = s.holds := by simp [State.modStore]
@[simp] theorem State.modStore_units (f : Store → Store) : (s.modStore f).units = s.units := by simp [State.modStore]
@[simp] theorem State.modStore_branches (f : Store → Store) : (s.modStore f).branches = s.branches := by simp [State.modStore]
@[simp] theorem State.modStore_clock (f : Store → Store) : (s.modStore f).clock = s.clock := by simp [State.modStore]
@[simp] theorem State.modStore_closeAll (f : Store → Store) : (s.modStore f).closeAll = s.closeAll := by simp [State.modStore]
@[simp] theorem State.modStore_cutoff (f : Store → Store) : (s.modStore f).cutoff = s.cutoff := by simp [State.modStore]
@[simp] theorem State.modStore_sync (f : Store → Store) : (s.modStore f).sync = s.sync := by simp [State.modStore]
@[simp] theorem State.modStore_keyLine (f : Store → Store) : (s.modStore f).keyLine = s.keyLine := by simp [State.modStore]
@[simp] theorem State.modStore_outputs (f : Store → Store) : (s.modStore f).outputs = s.outputs := by simp [State.modStore]
@[simp] theorem State.modStore_freeCount (f : Store → Store) : (s.modStore f).freeCount = s.freeCount := by simp [State.modStore]
@[simp] theorem State.modStore_schedule (f : Store → Store) : (s.modStore f).schedule = s.schedule := by simp [State.modStore]
@[simp] theorem State.modStore_pending (f : Store → Store) : (s.modStore f).pending = s.pending := by simp [State.modStore]

/-! ### The outputs -/

@[simp] theorem State.evalOutputs_powered : (s.evalOutputs).powered = s.powered := by simp [State.evalOutputs]
@[simp] theorem State.evalOutputs_runCount : (s.evalOutputs).runCount = s.runCount := by simp [State.evalOutputs]
@[simp] theorem State.evalOutputs_doors : (s.evalOutputs).doors = s.doors := by simp [State.evalOutputs]
@[simp] theorem State.evalOutputs_settingsHold : (s.evalOutputs).settingsHold = s.settingsHold := by simp [State.evalOutputs]
@[simp] theorem State.evalOutputs_holds : (s.evalOutputs).holds = s.holds := by simp [State.evalOutputs]
@[simp] theorem State.evalOutputs_units : (s.evalOutputs).units = s.units := by simp [State.evalOutputs]
@[simp] theorem State.evalOutputs_branches : (s.evalOutputs).branches = s.branches := by simp [State.evalOutputs]
@[simp] theorem State.evalOutputs_clock : (s.evalOutputs).clock = s.clock := by simp [State.evalOutputs]
@[simp] theorem State.evalOutputs_store : (s.evalOutputs).store = s.store := by simp [State.evalOutputs]
@[simp] theorem State.evalOutputs_closeAll : (s.evalOutputs).closeAll = s.closeAll := by simp [State.evalOutputs]
@[simp] theorem State.evalOutputs_cutoff : (s.evalOutputs).cutoff = s.cutoff := by simp [State.evalOutputs]
@[simp] theorem State.evalOutputs_sync : (s.evalOutputs).sync = s.sync := by simp [State.evalOutputs]
@[simp] theorem State.evalOutputs_keyLine : (s.evalOutputs).keyLine = s.keyLine := by simp [State.evalOutputs]
@[simp] theorem State.evalOutputs_freeCount : (s.evalOutputs).freeCount = s.freeCount := by simp [State.evalOutputs]
@[simp] theorem State.evalOutputs_schedule : (s.evalOutputs).schedule = s.schedule := by simp [State.evalOutputs]
@[simp] theorem State.evalOutputs_pending : (s.evalOutputs).pending = s.pending := by simp [State.evalOutputs]

/-! ### A drive that goes off -/

@[simp] theorem State.driveOffNow_powered (i : DoorId) : (s.driveOffNow i).powered = s.powered := by
  simp only [State.driveOffNow]; split <;> simp
@[simp] theorem State.driveOffNow_runCount (i : DoorId) : (s.driveOffNow i).runCount = s.runCount := by
  simp only [State.driveOffNow]; split <;> simp
@[simp] theorem State.driveOffNow_settingsHold (i : DoorId) : (s.driveOffNow i).settingsHold = s.settingsHold := by
  simp only [State.driveOffNow]; split <;> simp
@[simp] theorem State.driveOffNow_holds (i : DoorId) : (s.driveOffNow i).holds = s.holds := by
  simp only [State.driveOffNow]; split <;> simp
@[simp] theorem State.driveOffNow_units (i : DoorId) : (s.driveOffNow i).units = s.units := by
  simp only [State.driveOffNow]; split <;> simp
@[simp] theorem State.driveOffNow_branches (i : DoorId) : (s.driveOffNow i).branches = s.branches := by
  simp only [State.driveOffNow]; split <;> simp
@[simp] theorem State.driveOffNow_clock (i : DoorId) : (s.driveOffNow i).clock = s.clock := by
  simp only [State.driveOffNow]; split <;> simp
@[simp] theorem State.driveOffNow_store (i : DoorId) : (s.driveOffNow i).store = s.store := by
  simp only [State.driveOffNow]; split <;> simp
@[simp] theorem State.driveOffNow_closeAll (i : DoorId) : (s.driveOffNow i).closeAll = s.closeAll := by
  simp only [State.driveOffNow]; split <;> simp
@[simp] theorem State.driveOffNow_cutoff (i : DoorId) : (s.driveOffNow i).cutoff = s.cutoff := by
  simp only [State.driveOffNow]; split <;> simp
@[simp] theorem State.driveOffNow_sync (i : DoorId) : (s.driveOffNow i).sync = s.sync := by
  simp only [State.driveOffNow]; split <;> simp
@[simp] theorem State.driveOffNow_keyLine (i : DoorId) : (s.driveOffNow i).keyLine = s.keyLine := by
  simp only [State.driveOffNow]; split <;> simp
@[simp] theorem State.driveOffNow_outputs (i : DoorId) : (s.driveOffNow i).outputs = s.outputs := by
  simp only [State.driveOffNow]; split <;> simp
@[simp] theorem State.driveOffNow_freeCount (i : DoorId) : (s.driveOffNow i).freeCount = s.freeCount := by
  simp only [State.driveOffNow]; split <;> simp
@[simp] theorem State.driveOffNow_schedule (i : DoorId) : (s.driveOffNow i).schedule = s.schedule := by
  simp only [State.driveOffNow]; split <;> simp
@[simp] theorem State.driveOffNow_pending (i : DoorId) : (s.driveOffNow i).pending = s.pending := by
  simp only [State.driveOffNow]; split <;> simp

/-! ### What is written -/

@[simp] theorem State.modDoor_doors (i : DoorId) (f : Door → Door) :
    (s.modDoor i f).doors = s.doors.set i (f (s.door i)) := by
  simp only [State.modDoor, State.noteDoor]; split <;> [split; skip] <;> rfl

@[simp] theorem State.modUnit_units (u : UnitId) (f : PowerUnit → PowerUnit) :
    (s.modUnit u f).units = s.units.set u (f (s.unit u)) := by simp [State.modUnit]

@[simp] theorem State.modBranch_branches (b : BranchId) (f : Branch → Branch) :
    (s.modBranch b f).branches = s.branches.set b (f (s.branch b)) := by simp [State.modBranch]

@[simp] theorem State.modClock_clock (f : Clock → Clock) : (s.modClock f).clock = f s.clock := rfl

@[simp] theorem State.modStore_store (f : Store → Store) : (s.modStore f).store = f s.store := by simp [State.modStore]

@[simp] theorem State.evalOutputs_outputs :
    s.evalOutputs.outputs = { fault := s.faultOut, closure := s.closureOut, allClosed := s.allClosedOut } := by
  simp [State.evalOutputs]

/-- A door read after one door was rewritten. -/
theorem State.door_modDoor (i j : DoorId) (f : Door → Door) :
    (s.modDoor i f).door j = if j = i then f (s.door i) else s.door j := by
  simp only [State.door, State.modDoor_doors]
  by_cases h : j = i
  · subst h; simp
  · have : i.val ≠ j.val := fun e => h (Fin.ext e.symm)
    simp [h, this]

@[simp] theorem State.door_modDoor_self (i : DoorId) (f : Door → Door) : (s.modDoor i f).door i = f (s.door i) := by
  simp [State.door_modDoor]

/-- A unit read after one unit was rewritten. -/
theorem State.unit_modUnit (u v : UnitId) (f : PowerUnit → PowerUnit) :
    (s.modUnit u f).unit v = if v = u then f (s.unit u) else s.unit v := by
  simp only [State.unit, State.modUnit_units]
  by_cases h : v = u
  · subst h; simp
  · have : u.val ≠ v.val := fun e => h (Fin.ext e.symm)
    simp [h, this]

@[simp] theorem State.unit_modUnit_self (u : UnitId) (f : PowerUnit → PowerUnit) :
    (s.modUnit u f).unit u = f (s.unit u) := by simp [State.unit_modUnit]

/-- A branch read after one branch was rewritten. -/
theorem State.branch_modBranch (b c : BranchId) (f : Branch → Branch) :
    (s.modBranch b f).branch c = if c = b then f (s.branch b) else s.branch c := by
  simp only [State.branch, State.modBranch_branches]
  by_cases h : c = b
  · subst h; simp
  · have : b.val ≠ c.val := fun e => h (Fin.ext e.symm)
    simp [h, this]

@[simp] theorem State.branch_modBranch_self (b : BranchId) (f : Branch → Branch) :
    (s.modBranch b f).branch b = f (s.branch b) := by simp [State.branch_modBranch]

/-- A port read after every port was rewritten. -/
@[simp] theorem State.port_mapPorts (f : PortId → Port → Port) (p : PortId) : (s.mapPorts f).port p = f p (s.port p) := by
  match p with
  | 0 => rfl
  | 1 => rfl
  | 2 => rfl

@[simp] theorem State.port_touchSummary (p : PortId) :
    s.touchSummary.port p = { s.port p with summaryChanged := true } := by simp [State.touchSummary]

@[simp] theorem State.port_touchIf (c : Bool) (p : PortId) :
    (s.touchIf c).port p = { s.port p with summaryChanged := c || (s.port p).summaryChanged } := by
  cases c
  · simp [State.touchIf]
  · simp [State.touchIf]

/-- A change of a port's activity or attention (R168). -/
def Port.alertChanged (q r : Port) : Bool := q.active != r.active || q.attention != r.attention

/-- A port read after one port was rewritten. -/
theorem State.port_modPort (p q : PortId) (f : Port → Port) :
    (s.modPort p f).port q =
      if q = p then
        { f (s.port p) with
          summaryChanged := (s.port p).alertChanged (f (s.port p)) || (f (s.port p)).summaryChanged }
      else
        { s.port q with
          summaryChanged := (s.port p).alertChanged (f (s.port p)) || (s.port q).summaryChanged } := by
  simp only [State.modPort, State.port_touchIf, Port.alertChanged]
  by_cases h : q = p
  · subst h; simp [State.port]
  · have : p.val ≠ q.val := fun e => h (Fin.ext e.symm)
    simp [h, State.port, this]

end Sys2Proof.Machine
end

