-- ==== Sys2Proof/Laws/Frames.lean ====
section
/-! SUPPORT. One lemma for each shared operation on doors and power units: it changes doors, units and the marks of R168,
and nothing else. -/

namespace Sys2Proof.Machine

theorem Port.SameButMarks.refl (q : Port) : q.SameButMarks q := by simp [Port.SameButMarks]

theorem Port.SameButMarks.trans {q r w : Port} (h : q.SameButMarks r) (k : r.SameButMarks w) : q.SameButMarks w := by
  simp only [Port.SameButMarks] at *
  rw [k, h]

theorem OnlyDoors.refl (s : State) : OnlyDoors s s := ⟨by simp, fun _ => Port.SameButMarks.refl _⟩

theorem OnlyDoors.trans {s t u : State} (h : OnlyDoors s t) (k : OnlyDoors t u) : OnlyDoors s u :=
  ⟨by rw [k.rest, h.rest], fun p => (h.ports p).trans (k.ports p)⟩

theorem onlyDoors_touchIf (s : State) (c : Bool) : OnlyDoors s (s.touchIf c) :=
  ⟨by cases c <;> rfl, fun p => by simp [Port.SameButMarks]⟩

theorem onlyDoors_noteDoor (s : State) (i : DoorId) (d e : Door) : OnlyDoors s (s.noteDoor i d e) := by
  refine ⟨by simp only [State.noteDoor]; split <;> [split; skip] <;> rfl, fun p => ?_⟩
  simp only [State.noteDoor, Port.SameButMarks]
  split
  · split
    · rfl
    · rw [State.port_mapPorts]; split <;> rfl
  · rfl

theorem onlyDoors_modDoor (s : State) (i : DoorId) (f : Door → Door) : OnlyDoors s (s.modDoor i f) := by
  refine OnlyDoors.trans (t := { s with doors := s.doors.set i (f (s.door i)) }) ⟨rfl, fun p => ?_⟩
    (onlyDoors_noteDoor _ _ _ _)
  exact Port.SameButMarks.refl _

theorem onlyDoors_modUnit (s : State) (u : UnitId) (f : PowerUnit → PowerUnit) : OnlyDoors s (s.modUnit u f) := by
  refine OnlyDoors.trans (t := { s with units := s.units.set u (f (s.unit u)) }) ⟨rfl, fun p => ?_⟩
    (onlyDoors_touchIf _ _)
  exact Port.SameButMarks.refl _

/-- An operation on doors and units carried out for each member of a list. -/
theorem onlyDoors_foldl {α : Type} (f : State → α → State) (h : ∀ s a, OnlyDoors s (f s a)) (l : List α) :
    ∀ s, OnlyDoors s (l.foldl f s) := by
  induction l with
  | nil => exact OnlyDoors.refl
  | cons a l ih => exact fun s => (h s a).trans (ih _)

theorem onlyDoors_forDoors (s : State) (l : List DoorId) (f : DoorId → State → State)
    (h : ∀ i s, OnlyDoors s (f i s)) : OnlyDoors s (s.forDoors l f) :=
  onlyDoors_foldl _ (fun s i => h i s) l s

/-! ### States, faults and rest (Ops, Rest) -/

theorem onlyDoors_setState (s : State) (i : DoorId) (st : DoorState) : OnlyDoors s (s.setState i st) :=
  onlyDoors_modDoor _ _ _

theorem onlyDoors_setSource (s : State) (i : DoorId) (src : Source) : OnlyDoors s (s.setSource i src) :=
  onlyDoors_modDoor _ _ _

theorem onlyDoors_driveOffNow (s : State) (i : DoorId) : OnlyDoors s (s.driveOffNow i) := by
  simp only [State.driveOffNow]; split
  · exact onlyDoors_modDoor _ _ _
  · exact OnlyDoors.refl s

theorem onlyDoors_raiseFault (s : State) (i : DoorId) (k : FaultKind) : OnlyDoors s (s.raiseFault i k) :=
  onlyDoors_modDoor _ _ _

theorem onlyDoors_clearFault (s : State) (i : DoorId) (k : FaultKind) : OnlyDoors s (s.clearFault i k) :=
  onlyDoors_modDoor _ _ _

theorem onlyDoors_raiseCondition (s : State) (i : DoorId) (k : FaultKind) : OnlyDoors s (s.raiseCondition i k) := by
  simp only [State.raiseCondition]; split
  · exact OnlyDoors.refl s
  · exact onlyDoors_raiseFault _ _ _

theorem onlyDoors_followCondition (s : State) (i : DoorId) (k : FaultKind) (c : Bool) :
    OnlyDoors s (s.followCondition i k c) := by
  cases c
  · exact onlyDoors_clearFault _ _ _
  · exact onlyDoors_raiseCondition _ _ _

theorem onlyDoors_applyPending (s : State) (i : DoorId) : OnlyDoors s (s.applyPending i) := onlyDoors_modDoor _ _ _

theorem onlyDoors_enterWarning (s : State) (i : DoorId) (c : Cause) : OnlyDoors s (s.enterWarning i c) :=
  (onlyDoors_setState s i .warning).trans (onlyDoors_modDoor _ _ _)

theorem onlyDoors_closureDemand (s : State) (i : DoorId) : OnlyDoors s (s.closureDemand i) := by
  simp only [State.closureDemand]; split
  · exact (onlyDoors_enterWarning _ _ _).trans (onlyDoors_setSource _ _ _)
  · exact OnlyDoors.refl s

theorem onlyDoors_applyAtRest (s : State) (i : DoorId) : OnlyDoors s (s.applyAtRest i) := by
  simp only [State.applyAtRest]; split
  · exact OnlyDoors.refl s
  · exact onlyDoors_applyPending _ _

theorem onlyDoors_enterRest (s : State) (i : DoorId) (st : DoorState) : OnlyDoors s (s.enterRest i st) :=
  ((onlyDoors_setState s i st).trans (onlyDoors_applyAtRest _ _)).trans (onlyDoors_closureDemand _ _)

theorem onlyDoors_enterIndicated (s : State) (i : DoorId) : OnlyDoors s (s.enterIndicated i) := onlyDoors_enterRest _ _ _

theorem onlyDoors_followIndication (s : State) (i : DoorId) : OnlyDoors s (s.followIndication i) := by
  simp only [State.followIndication]; split
  · exact OnlyDoors.refl s
  · exact onlyDoors_enterIndicated _ _

/-! ### Admission -/

theorem onlyDoors_deadTimeTest (s : State) (i : DoorId) (dir : Dir) : OnlyDoors s (s.deadTimeTest i dir) :=
  onlyDoors_setState _ _ _

theorem onlyDoors_admit (s : State) (u : UnitId) (e : Entry) : OnlyDoors s (s.admitHead u e) :=
  ((onlyDoors_modUnit s u _).trans (onlyDoors_modDoor _ _ _)).trans (onlyDoors_deadTimeTest _ _ _)

theorem onlyDoors_admitUpTo (u : UnitId) (n : Nat) : ∀ s : State, OnlyDoors s (s.admitUpTo u n) := by
  induction n with
  | zero => exact OnlyDoors.refl
  | succ n ih =>
    intro s
    simp only [State.admitUpTo]
    split
    · exact OnlyDoors.refl s
    · split
      · exact (onlyDoors_admit _ _ _).trans (ih _)
      · exact OnlyDoors.refl s

theorem onlyDoors_admissionRun (s : State) (u : UnitId) : OnlyDoors s (s.admissionRun u) := by
  simp only [State.admissionRun]; split
  · exact onlyDoors_admitUpTo _ _ _
  · exact OnlyDoors.refl s

theorem onlyDoors_idleIfDone (s : State) (u : UnitId) : OnlyDoors s (s.idleIfDone u) := by
  simp only [State.idleIfDone]; split
  · exact onlyDoors_modUnit _ _ _
  · exact OnlyDoors.refl s

theorem onlyDoors_freeSlot (s : State) (i : DoorId) : OnlyDoors s (s.freeSlot i) :=
  ((onlyDoors_modUnit s _ _).trans (onlyDoors_admissionRun _ _)).trans (onlyDoors_idleIfDone _ _)

theorem onlyDoors_leaveList (s : State) (i : DoorId) : OnlyDoors s (s.leaveList i) := by
  simp only [State.leaveList]; split
  · exact (onlyDoors_modUnit _ _ _).trans (onlyDoors_modUnit _ _ _)
  · exact (onlyDoors_modUnit _ _ _).trans (onlyDoors_idleIfDone _ _)

theorem onlyDoors_startUnit (s : State) (u : UnitId) : OnlyDoors s (s.startUnit u) := onlyDoors_modUnit _ _ _

theorem onlyDoors_unitJoined (s : State) (u : UnitId) (cls : Nat) : OnlyDoors s (s.unitJoined u cls) := by
  simp only [State.unitJoined]
  split
  · split
    · exact onlyDoors_startUnit _ _
    · exact onlyDoors_modUnit _ _ _
  · split
    · exact onlyDoors_startUnit _ _
    · exact OnlyDoors.refl s
  · exact OnlyDoors.refl s
  · exact onlyDoors_admissionRun _ _
  · exact (onlyDoors_modUnit _ _ _).trans (onlyDoors_admissionRun _ _)
  · exact OnlyDoors.refl s

/-! ### Strokes -/

theorem onlyDoors_refusePower (s : State) (i : DoorId) : OnlyDoors s (s.refusePower i) :=
  (onlyDoors_raiseFault _ _ _).trans (onlyDoors_enterIndicated _ _)

theorem onlyDoors_listRequest (s : State) (i : DoorId) (r : StrokeRequest) : OnlyDoors s (s.listRequest i r) :=
  ((onlyDoors_modUnit s _ _).trans (onlyDoors_setState _ _ _)).trans (onlyDoors_unitJoined _ _ _)

theorem onlyDoors_request (s : State) (i : DoorId) (r : StrokeRequest) : OnlyDoors s (s.request i r) := by
  simp only [State.request]; split
  · exact onlyDoors_refusePower _ _
  · exact onlyDoors_listRequest _ _ _

theorem onlyDoors_endStroke (s : State) (i : DoorId) : OnlyDoors s (s.endStroke i) :=
  ((onlyDoors_driveOffNow s i).trans (onlyDoors_freeSlot _ _)).trans (onlyDoors_modDoor _ _ _)

theorem onlyDoors_haltToRest (s : State) (i : DoorId) : OnlyDoors s (s.haltToRest i) :=
  (onlyDoors_endStroke s i).trans (onlyDoors_enterIndicated _ _)

theorem onlyDoors_cut (s : State) (i : DoorId) (k : FaultKind) : OnlyDoors s (s.cut i k) := by
  simp only [State.cut]; split
  · exact (onlyDoors_raiseFault _ _ _).trans (onlyDoors_haltToRest _ _)
  · exact OnlyDoors.refl s

theorem onlyDoors_endWork (s : State) (i : DoorId) : OnlyDoors s (s.endWork i) := by
  simp only [State.endWork]; split
  · exact onlyDoors_leaveList _ _
  all_goals first | with_reducible exact onlyDoors_endStroke _ _ | with_reducible exact OnlyDoors.refl s

theorem onlyDoors_stopToRest (s : State) (i : DoorId) : OnlyDoors s (s.stopToRest i) :=
  (onlyDoors_endWork s i).trans (onlyDoors_enterIndicated _ _)

theorem onlyDoors_passToWarning (s : State) (i : DoorId) (c : Cause) : OnlyDoors s (s.passToWarning i c) :=
  (onlyDoors_endWork s i).trans (onlyDoors_enterWarning _ _ _)

theorem onlyDoors_takeIndication (s : State) (i : DoorId) : OnlyDoors s (s.takeIndication i) := by
  simp only [State.takeIndication]; split
  · exact onlyDoors_followIndication _ _
  · split
    · exact onlyDoors_stopToRest _ _
    · exact OnlyDoors.refl s

theorem onlyDoors_changeDirection (s : State) (i : DoorId) (dir : Dir) (c : Cause) (cls : Nat) :
    OnlyDoors s (s.changeDirection i dir c cls) :=
  ((onlyDoors_driveOffNow s i).trans (onlyDoors_modDoor _ _ _)).trans (onlyDoors_deadTimeTest _ _ _)

theorem onlyDoors_issueDrive (s : State) (i : DoorId) : OnlyDoors s (s.issueDrive i) := by
  simp only [State.issueDrive]; split
  · split
    · exact OnlyDoors.refl s
    · exact onlyDoors_modDoor _ _ _
  · exact OnlyDoors.refl s

theorem onlyDoors_startTail (s : State) (i : DoorId) (c : Cause) : OnlyDoors s (s.startTail i c) := by
  simp only [State.startTail]; split
  · exact onlyDoors_modDoor _ _ _
  · exact OnlyDoors.refl s

theorem onlyDoors_complete (s : State) (i : DoorId) (r : Stroke) (e : Nat) : OnlyDoors s (s.complete i r e) := by
  have h := (((onlyDoors_driveOffNow s i).trans (onlyDoors_freeSlot _ i)).trans
    (onlyDoors_modDoor _ i fun d => d.completed r.direction e s.clock.time)).trans (onlyDoors_enterIndicated _ i)
  simp only [State.complete]; split
  · with_reducible exact h.trans (onlyDoors_startTail _ _ _)
  · with_reducible exact h

theorem onlyDoors_supervise (s : State) (i : DoorId) (r : Stroke) (e : Nat) : OnlyDoors s (s.supervise i r e) := by
  simp only [State.supervise]; split
  · exact onlyDoors_complete _ _ _ _
  · split
    · exact onlyDoors_cut _ _ _
    · split
      · exact OnlyDoors.refl s
      · split
        · exact onlyDoors_cut _ _ _
        · exact onlyDoors_modDoor _ _ _

theorem onlyDoors_takeResult (s : State) (i : DoorId) : OnlyDoors s (s.takeResult i) := by
  simp only [State.takeResult]; split
  · exact onlyDoors_takeIndication _ _
  · split
    · split
      · exact onlyDoors_supervise _ _ _ _
      · exact OnlyDoors.refl s
    · exact OnlyDoors.refl s

/-! ### Local controls -/

theorem onlyDoors_localSource (s : State) (i : DoorId) (old : DoorState) : OnlyDoors s (s.localSource i old) := by
  simp only [State.localSource]; split
  · exact OnlyDoors.refl s
  · exact onlyDoors_setSource _ _ _

theorem onlyDoors_openPressed (s : State) (i : DoorId) : OnlyDoors s (s.openPressed i) := by
  simp only [State.openPressed]
  split <;> first
    | with_reducible exact onlyDoors_request _ _ _
    | with_reducible exact onlyDoors_changeDirection _ _ _ _ _
    | with_reducible exact OnlyDoors.refl s
    | (split <;> first | with_reducible exact onlyDoors_request _ _ _ | with_reducible exact OnlyDoors.refl s)

theorem onlyDoors_closePressed (s : State) (i : DoorId) : OnlyDoors s (s.closePressed i) := by
  simp only [State.closePressed]
  split <;> first
    | with_reducible exact onlyDoors_request _ _ _
    | with_reducible exact onlyDoors_changeDirection _ _ _ _ _
    | with_reducible exact OnlyDoors.refl s
    | (split <;> first | with_reducible exact onlyDoors_request _ _ _ | with_reducible exact OnlyDoors.refl s)

theorem onlyDoors_enterRecloseWait (s : State) (i : DoorId) : OnlyDoors s (s.enterRecloseWait i) :=
  (onlyDoors_setState s i .recloseWait).trans (onlyDoors_modDoor _ _ _)

/-- R93: the let-go of a door that opens: a halt or cancellation, into rest or into RECLOSE_WAIT. -/
theorem onlyDoors_letGoOpening (s : State) (i : DoorId) (c : Bool) :
    OnlyDoors s (if c then s.stopToRest i else (s.endWork i).enterRecloseWait i) := by
  cases c
  · exact (onlyDoors_endWork s i).trans (onlyDoors_enterRecloseWait _ i)
  · exact onlyDoors_stopToRest s i

/-- R93: the let-go of a door that stands still. -/
theorem onlyDoors_letGoStanding (s : State) (i : DoorId) (c : Bool) :
    OnlyDoors s (if c then s else s.enterRecloseWait i) := by
  cases c
  · exact onlyDoors_enterRecloseWait s i
  · exact OnlyDoors.refl s

theorem onlyDoors_openLetGo (s : State) (i : DoorId) : OnlyDoors s (s.openLetGo i) := by
  have h := onlyDoors_letGoOpening s i (s.door i).eventFaulted
  have k := onlyDoors_letGoStanding s i (s.door i).eventFaulted
  simp only [State.openLetGo]
  split <;> first | assumption | exact OnlyDoors.refl s

theorem onlyDoors_takeEdge (s : State) (i : DoorId) (edge : Bool) (f : State → State)
    (h : ∀ s, OnlyDoors s (f s)) : OnlyDoors s (s.takeEdge i edge f) := by
  simp only [State.takeEdge]; split
  · exact (h s).trans (onlyDoors_localSource _ _ _)
  · exact OnlyDoors.refl s

theorem onlyDoors_takeEdges (s : State) (i : DoorId) (e : Edges) : OnlyDoors s (s.takeEdges i e) :=
  ((onlyDoors_takeEdge s i _ _ fun s => onlyDoors_openPressed s i).trans
    (onlyDoors_takeEdge _ i _ _ fun s => onlyDoors_openLetGo s i)).trans
    (onlyDoors_takeEdge _ i _ _ fun s => onlyDoors_closePressed s i)

/-! ### Indication -/

theorem onlyDoors_unsettle (s : State) (i : DoorId) : OnlyDoors s (s.unsettle i) :=
  (onlyDoors_modDoor s i _).trans (onlyDoors_takeIndication _ _)

theorem onlyDoors_rangeCheck (s : State) (i : DoorId) (raw : Int) : OnlyDoors s (s.rangeCheck i raw) := by
  simp only [State.rangeCheck]; split
  · exact (onlyDoors_modDoor _ _ _).trans (onlyDoors_clearFault _ _ _)
  · exact onlyDoors_raiseCondition _ _ _

theorem onlyDoors_stationFaults (s : State) (i : DoorId) (r : Reply) : OnlyDoors s (s.stationFaults i r) :=
  (onlyDoors_followCondition _ _ _ _).trans (onlyDoors_followCondition _ _ _ _)

theorem onlyDoors_indicate (s : State) (i : DoorId) : OnlyDoors s (s.indicate i) := onlyDoors_modDoor _ _ _

theorem onlyDoors_switchConflict (s : State) (i : DoorId) (c : Bool) : OnlyDoors s (s.switchConflict i c) := by
  cases c
  · exact OnlyDoors.refl s
  · exact onlyDoors_followCondition _ _ _ _

theorem onlyDoors_sensorDisagree (s : State) (i : DoorId) : OnlyDoors s (s.sensorDisagree i) := by
  simp only [State.sensorDisagree]; split
  · split
    · exact (onlyDoors_modDoor _ _ _).trans (onlyDoors_raiseCondition _ _ _)
    · exact onlyDoors_modDoor _ _ _
  · exact (onlyDoors_modDoor _ _ _).trans (onlyDoors_clearFault _ _ _)

theorem onlyDoors_takeCount (s : State) (i : DoorId) (r : Reply) : OnlyDoors s (s.takeCount i r) :=
  ((onlyDoors_modDoor s i _).trans (onlyDoors_rangeCheck _ _ _)).trans (onlyDoors_stationFaults _ _ _)

theorem onlyDoors_reply (s : State) (i : DoorId) (r : Reply) : OnlyDoors s (s.reply i r) := by
  have h := (((onlyDoors_takeCount s i r).trans (onlyDoors_modDoor _ i fun d => d.intake r)).trans
    (onlyDoors_indicate _ i)).trans (onlyDoors_switchConflict _ i (switchesTested ((s.takeCount i r).door i)
      (((s.takeCount i r).door i).intake r)))
  simp only [State.reply]; split
  · exact h.trans (onlyDoors_sensorDisagree _ _)
  · exact h

theorem onlyDoors_takeReply (s : State) (i : DoorId) (r : Reply) : OnlyDoors s (s.takeReply i r) :=
  ((onlyDoors_reply s i r).trans (onlyDoors_takeResult _ _)).trans (onlyDoors_takeEdges _ _ _)

/-! ### Holds and orders on doors -/

theorem onlyDoors_updateNotControlled (s : State) (i : DoorId) : OnlyDoors s (s.updateNotControlled i) :=
  onlyDoors_followCondition _ _ _ _

theorem onlyDoors_moveToClass0 (s : State) (i : DoorId) : OnlyDoors s (s.moveToClass0 i) := by
  simp only [State.moveToClass0]; split
  · split
    · exact (onlyDoors_modUnit _ _ _).trans (onlyDoors_unitJoined _ _ _)
    · exact OnlyDoors.refl s
  · exact OnlyDoors.refl s

theorem onlyDoors_makeHoldToRun (s : State) (i : DoorId) : OnlyDoors s (s.makeHoldToRun i) := by
  simp only [State.makeHoldToRun]
  exact (onlyDoors_modUnit _ _ _).trans (onlyDoors_modDoor _ _ _)

theorem onlyDoors_doorBecomesHeld (s : State) (i : DoorId) : OnlyDoors s (s.doorBecomesHeld i) := by
  simp only [State.doorBecomesHeld]
  split <;> first
    | with_reducible exact OnlyDoors.refl s
    | with_reducible exact onlyDoors_closureDemand _ _
    | with_reducible exact onlyDoors_modDoor _ _ _
    | with_reducible exact onlyDoors_moveToClass0 _ _
    | (split
       · exact onlyDoors_makeHoldToRun _ _
       · split
         · exact onlyDoors_stopToRest _ _
         · exact (onlyDoors_passToWarning _ _ _).trans (onlyDoors_setSource _ _ _))

theorem onlyDoors_doorReleased (s : State) (i : DoorId) : OnlyDoors s (s.doorReleased i) := by
  simp only [State.doorReleased]; split
  · exact onlyDoors_enterIndicated _ _
  · exact OnlyDoors.refl s

theorem onlyDoors_takeUnionChange (old : ZoneSet) (i : DoorId) (s : State) :
    OnlyDoors s (State.takeUnionChange old i s) := by
  simp only [State.takeUnionChange]; split
  · exact OnlyDoors.refl s
  · split
    · exact (onlyDoors_doorBecomesHeld _ _).trans (onlyDoors_updateNotControlled _ _)
    · exact (onlyDoors_doorReleased _ _).trans (onlyDoors_updateNotControlled _ _)

/-- R82: a change of the holds map writes the map, and then is work on doors and units. -/
theorem onlyDoors_setHolds (s : State) (h : Holds) : OnlyDoors { s with holds := h } (s.setHolds h) :=
  OnlyDoors.trans (onlyDoors_touchIf { s with holds := h } (s.holds != h))
    (onlyDoors_forDoors _ _ _ fun i s => onlyDoors_takeUnionChange _ i s)

theorem onlyDoors_byPort (s : State) (i : DoorId) (p : PortId) : OnlyDoors s (s.byPort i p).1 := onlyDoors_setSource _ _ _

theorem onlyDoors_closeDoor (p : PortId) (i : DoorId) (s : State) : OnlyDoors s (State.closeDoor p i s).1 := by
  have h : ∀ c, OnlyDoors s ((s.passToWarning i c).byPort i p).1 := fun c =>
    (onlyDoors_passToWarning s i c).trans (onlyDoors_byPort _ i p)
  have k := OnlyDoors.refl s
  simp only [State.closeDoor]
  split
  · exact k
  split
  · exact k
  split
  · exact k
  split
  · exact k
  split <;> first | assumption | exact h _

theorem onlyDoors_openDoor (p : PortId) (i : DoorId) (s : State) : OnlyDoors s (State.openDoor p i s).1 := by
  have h : ∀ r, OnlyDoors s ((s.listRequest i r).byPort i p).1 := fun r =>
    (onlyDoors_listRequest s i r).trans (onlyDoors_byPort _ i p)
  have c : OnlyDoors s ((s.changeDirection i .opening (.console p) 2).byPort i p).1 :=
    (onlyDoors_changeDirection s i _ _ _).trans (onlyDoors_byPort _ i p)
  have f := onlyDoors_refusePower s i
  have k := OnlyDoors.refl s
  have w : ∀ (b : Bool) r, OnlyDoors s
      (if b then (s.refusePower i, Result.refusedPower) else (s.listRequest i r).byPort i p).1 := by
    intro b r
    cases b
    · exact h r
    · exact f
  simp only [State.openDoor]
  split
  · exact k
  split
  · exact k
  split
  · exact k
  split
  · exact k
  split <;> first | assumption | exact w _ _

theorem onlyDoors_stopDoor (p : PortId) (i : DoorId) (s : State) : OnlyDoors s (State.stopDoor p i s).1 := by
  simp only [State.stopDoor]
  repeat' split
  all_goals first
    | with_reducible exact OnlyDoors.refl s
    | with_reducible exact (onlyDoors_stopToRest _ _).trans (onlyDoors_byPort _ _ _)

theorem onlyDoors_serviceOut (p : PortId) (i : DoorId) (s : State) : OnlyDoors s (State.serviceOut p i s).1 := by
  simp only [State.serviceOut]
  repeat' split
  all_goals first
    | with_reducible exact OnlyDoors.refl s
    | with_reducible exact (onlyDoors_modDoor _ _ _).trans (onlyDoors_byPort _ _ _)

theorem onlyDoors_serviceIn (p : PortId) (i : DoorId) (s : State) : OnlyDoors s (State.serviceIn p i s).1 := by
  simp only [State.serviceIn]
  split
  · exact (onlyDoors_clearFault _ _ _).trans (onlyDoors_closureDemand _ _)
  · exact (((onlyDoors_modDoor _ _ _).trans (onlyDoors_setSource _ _ _)).trans (onlyDoors_clearFault _ _ _)).trans
      (onlyDoors_closureDemand _ _)

theorem onlyDoors_resetDoor (i : DoorId) (s : State) : OnlyDoors s (State.resetDoor i s).1 :=
  (onlyDoors_modDoor _ _ _).trans (onlyDoors_closureDemand _ _)

theorem onlyDoors_ackDoor (i : DoorId) (s : State) : OnlyDoors s (State.ackDoor i s).1 := by
  simp only [State.ackDoor]
  exact onlyDoors_modDoor _ _ _

theorem onlyDoors_testDoor (i : DoorId) (s : State) : OnlyDoors s (State.testDoor i s).1 := by
  have h : ∀ f, OnlyDoors s (s.modDoor i f) := onlyDoors_modDoor s i
  simp only [State.testDoor]; split
  · dsimp only; exact h _
  · exact OnlyDoors.refl s

theorem onlyDoors_stage (k : OpSetting) (v : Nat) (i : DoorId) (s : State) : OnlyDoors s (s.stage k v i) := by
  simp only [State.stage]; split
  · exact (onlyDoors_modDoor _ _ _).trans (onlyDoors_applyPending _ _)
  · exact onlyDoors_modDoor _ _ _

/-- An order on one door is work on doors when its per-door rule is. -/
theorem onlyDoors_doorOrder (s : State) (n : Nat) (f : DoorOrder) (h : ∀ i s, OnlyDoors s (f i s).1) :
    OnlyDoors s (s.doorOrder n f).state := by
  simp only [State.doorOrder]
  split
  · exact OnlyDoors.refl s
  · split
    · exact h _ _
    · exact OnlyDoors.refl s

/-- R96: a zone order is work on doors when its per-door rule is. -/
theorem onlyDoors_zoneOrder (s : State) (z : ZoneId) (f : DoorOrder) (h : ∀ i s, OnlyDoors s (f i s).1) :
    OnlyDoors s (s.zoneOrder z f).state := by
  have step : ∀ (t : ZoneTally) i, OnlyDoors t.state (t.next f i).state := by
    intro t i
    simp only [ZoneTally.next]; split <;> exact h i t.state
  have all : ∀ (l : List DoorId) (t : ZoneTally), OnlyDoors t.state (l.foldl (ZoneTally.next f) t).state := by
    intro l
    induction l with
    | nil => exact fun t => OnlyDoors.refl t.state
    | cons i l ih => exact fun t => (step t i).trans (ih _)
  exact all _ { state := s, count := 0, first := none }

theorem onlyDoors_doorOrZone (s : State) (t : Target) (f : DoorOrder) (h : ∀ i s, OnlyDoors s (f i s).1) :
    OnlyDoors s (s.doorOrZone t f).state := by
  simp only [State.doorOrZone]
  split
  · exact onlyDoors_doorOrder _ _ _ h
  · split
    · exact onlyDoors_zoneOrder _ _ _ h
    · exact OnlyDoors.refl s
  · exact OnlyDoors.refl s

/-! ### Power units -/

theorem onlyDoors_dropEntry (s : State) (i : DoorId) : OnlyDoors s (s.dropEntry i) :=
  ((onlyDoors_raiseFault _ _ _).trans (onlyDoors_leaveList _ _)).trans (onlyDoors_enterIndicated _ _)

theorem onlyDoors_failUnit (s : State) (u : UnitId) : OnlyDoors s (s.failUnit u) := by
  have cuts : ∀ (t : State) l, OnlyDoors t (t.forDoors l fun i t => t.cut i .noPower) := fun t l =>
    onlyDoors_forDoors t l _ fun i s => onlyDoors_cut s i .noPower
  have drops : ∀ (t : State) l, OnlyDoors t (t.forDoors l fun i t => t.dropEntry i) := fun t l =>
    onlyDoors_forDoors t l _ fun i s => onlyDoors_dropEntry s i
  simp only [State.failUnit]
  exact (((onlyDoors_modUnit s u _).trans (cuts _ _)).trans (drops _ _)).trans (onlyDoors_modUnit _ u _)

theorem onlyDoors_ageExpired (s : State) (u : UnitId) : OnlyDoors s (s.ageExpired u) := by
  simp only [State.ageExpired]; split
  · exact onlyDoors_startUnit _ _
  · exact OnlyDoors.refl s

theorem onlyDoors_startExpired (s : State) (u : UnitId) : OnlyDoors s (s.startExpired u) := by
  simp only [State.startExpired]; split
  · split
    · exact onlyDoors_failUnit _ _
    · exact ((onlyDoors_modUnit _ _ _).trans (onlyDoors_admissionRun _ _)).trans (onlyDoors_idleIfDone _ _)
  · exact OnlyDoors.refl s

theorem onlyDoors_holdoffExpired (s : State) (u : UnitId) : OnlyDoors s (s.holdoffExpired u) := by
  simp only [State.holdoffExpired]; split
  · exact onlyDoors_modUnit _ _ _
  · exact OnlyDoors.refl s

theorem onlyDoors_pressureChanged (s : State) (u : UnitId) (active : Bool) : OnlyDoors s (s.pressureChanged u active) := by
  simp only [State.pressureChanged]; split
  · exact OnlyDoors.refl s
  · split
    · exact (onlyDoors_modUnit _ _ _).trans (onlyDoors_failUnit _ _)
    · exact onlyDoors_modUnit _ _ _

end Sys2Proof.Machine
end

