-- ==== Sys2Proof/Laws/Doors.lean ====
section
/-! SUPPORT. What the shared operations on one door leave of every door, in the terms of Safety.lean: setting a state,
raising and clearing faults, entering WARNING and entering a rest state. -/

namespace Sys2Proof.Machine

variable (s : State)

/-- R54: the door that takes a state, and no other. -/
theorem State.door_setState (i j : DoorId) (st : DoorState) :
    (s.setState i st).door j =
      if j = i then
        { s.door i with
          state := st
          leadIn := if st = .warning then (s.door i).leadIn else none
          reclose := if st = .recloseWait then (s.door i).reclose else none
          tail := if st = .closed then (s.door i).tail else none
          test := if st.isRest then (s.door i).test else none }
      else s.door j := State.door_modDoor _ _ _ _

theorem State.door_setSource (i j : DoorId) (src : Source) :
    (s.setSource i src).door j = if j = i then { s.door i with lastSource := some src } else s.door j :=
  State.door_modDoor _ _ _ _

/-- R21: raising a fault. -/
theorem State.door_raiseFault (i j : DoorId) (k : FaultKind) :
    (s.raiseFault i k).door j = if j = i then (s.door i).faulted k s.clock.time else s.door j :=
  State.door_modDoor _ _ _ _

/-- R21: raising a condition fault. -/
theorem State.door_raiseCondition (i j : DoorId) (k : FaultKind) :
    (s.raiseCondition i k).door j =
      if j = i ∧ hasFault (s.door i).faults k = false then (s.door i).faulted k s.clock.time else s.door j := by
  unfold State.raiseCondition
  cases h : hasFault (s.door i).faults k
  · simp [State.door_raiseFault]
  · simp

/-- R21: clearing a condition fault. -/
theorem State.door_clearFault (i j : DoorId) (k : FaultKind) :
    (s.clearFault i k).door j = if j = i then (s.door i).cleared k else s.door j := State.door_modDoor _ _ _ _

/-- R103: entering WARNING. -/
theorem State.door_enterWarning (i j : DoorId) (c : Cause) :
    (s.enterWarning i c).door j = if j = i then (s.door i).warned c s.runCount else s.door j := by
  unfold State.enterWarning
  rw [State.door_modDoor]
  by_cases h : j = i
  · simp [h, Door.warned, State.setState, DoorState.isRest]
  · simp [h, State.door_setState]

/-- R87: the closure demand. -/
theorem State.door_closureDemand (i j : DoorId) :
    (s.closureDemand i).door j =
      if j = i ∧ s.demanded i = true then { (s.door i).warned .closure s.runCount with lastSource := some .closure }
      else s.door j := by
  unfold State.closureDemand
  cases h : s.demanded i
  · simp
  · by_cases e : j = i
    · simp [e, State.door_setSource, State.door_enterWarning]
    · simp [e, State.door_setSource, State.door_enterWarning]

/-- R14, R54: a rest-state entry before the closure demand. -/
theorem State.door_applyAtRest_setState (i j : DoorId) (st : DoorState) (hr : st.isRest = true) :
    ((s.setState i st).applyAtRest i).door j = if j = i then (s.door i).rested st s.settingsHold else s.door j := by
  unfold State.applyAtRest
  have hw : st ≠ .warning := by rintro rfl; simp [DoorState.isRest] at hr
  have hc : st ≠ .recloseWait := by rintro rfl; simp [DoorState.isRest] at hr
  have hh : (s.setState i st).settingsHold = s.settingsHold := by simp [State.setState]
  rw [hh]
  cases hs : s.settingsHold
  · by_cases e : j = i
    · simp [e, State.applyPending, State.door_setState, Door.rested, hr, hw, hc]
    · simp [e, State.applyPending, State.door_modDoor, State.door_setState]
  · by_cases e : j = i
    · simp [e, State.door_setState, Door.rested, hr, hw, hc]
    · simp [e, State.door_setState]

/-- R54: entering a rest state changes no other door. -/
theorem State.door_enterRest_other (i j : DoorId) (st : DoorState) (h : j ≠ i) :
    (s.enterRest i st).door j = s.door j := by
  unfold State.enterRest
  rw [State.door_closureDemand]
  simp only [h, false_and, if_false]
  unfold State.applyAtRest
  split
  · simp [State.door_setState, h]
  · simp [State.applyPending, State.door_modDoor, State.door_setState, h]

/-- R54: entering a rest state in which no closure is demanded. -/
theorem State.door_enterRest_self (i : DoorId) (st : DoorState) (hr : st.isRest = true)
    (hd : ((s.setState i st).applyAtRest i).demanded i = false) :
    (s.enterRest i st).door i = (s.door i).rested st s.settingsHold := by
  unfold State.enterRest
  rw [State.door_closureDemand, hd]
  simp [State.door_applyAtRest_setState, hr]

/-- R53: the rest state of an indication is a rest state. -/
@[simp] theorem Indication.restState_isRest (x : Indication) : x.restState.isRest = true := by cases x <;> rfl

end Sys2Proof.Machine
end

