-- ==== Sys2Proof/Laws/Idle.lean ====
section
/-! SUPPORT. What a step on an empty queue may take: which items and events stand to choice, and that the schedule
reaches each of them. -/

namespace Sys2Proof.Machine

variable {s : State}

/-- A port's item stands to choice exactly while its request can go on. -/
theorem item_mem_choices (p : PortId) : Choice.item p ∈ s.choices ↔ (s.port p).ready = true := by
  fin_cases p <;> simp [State.choices, State.readyPorts, portIds]

/-- An event stands to choice exactly while it is due. -/
theorem event_mem_choices (c : Instr) : Choice.event c ∈ s.choices ↔ c ∈ s.dueEvents := by
  simp [State.choices]

/-- What is chosen stands to choice. -/
theorem choice_mem {c : Choice} (h : s.choice = some c) : c ∈ s.choices := List.mem_of_getElem? h

/-- Nothing is chosen exactly where nothing stands to choice. -/
theorem choice_eq_none : s.choice = none ↔ s.choices = [] := by
  rw [State.choice, List.getElem?_eq_none_iff]
  constructor
  · intro h
    by_contra hne
    exact absurd (Nat.mod_lt _ (List.length_pos_iff.mpr hne)) (Nat.not_lt.mpr h)
  · intro h; simp [h]

/-- Everything that stands to choice is chosen for some number of the schedule. -/
theorem choice_reached {c : Choice} (h : c ∈ s.choices) :
    ∃ k, ∀ rest, ({ s with schedule := k :: rest } : State).choice = some c := by
  obtain ⟨k, hk, rfl⟩ := List.getElem_of_mem h
  refine ⟨k, fun rest => ?_⟩
  show s.choices[k % s.choices.length]? = _
  rw [Nat.mod_eq_of_lt hk, List.getElem?_eq_getElem hk]

end Sys2Proof.Machine
end

