-- ==== Sys2Proof/Laws/Links.lean ====
section
/-! SUPPORT. One lemma for each shared operation of the Station Link Controller: it changes doors, units, branches, the
marks of R168 and the request that waits for a DIRECT, which may end, and nothing else. -/

namespace Sys2Proof.Machine

theorem Port.SameButRequest.refl (q : Port) : q.SameButRequest q := by simp [Port.SameButRequest]

theorem Port.SameButRequest.trans {q r w : Port} (h : q.SameButRequest r) (k : r.SameButRequest w) :
    q.SameButRequest w := by
  simp only [Port.SameButRequest] at *
  rw [k, h]

theorem Port.SameButMarks.withRequest {q r : Port} (h : q.SameButMarks r) : q.SameButRequest r := by
  simp only [Port.SameButMarks, Port.SameButRequest] at *
  rw [h]

theorem OnlyLinks.refl (s : State) : OnlyLinks s s := ⟨by simp, fun _ => Port.SameButRequest.refl _⟩

theorem OnlyLinks.trans {s t u : State} (h : OnlyLinks s t) (k : OnlyLinks t u) : OnlyLinks s u :=
  ⟨by rw [k.rest, h.rest], fun p => (h.ports p).trans (k.ports p)⟩

/-- Work on doors and units is work on a branch. -/
theorem OnlyDoors.links {s t : State} (h : OnlyDoors s t) : OnlyLinks s t :=
  ⟨by rw [h.rest], fun p => (h.ports p).withRequest⟩

theorem onlyLinks_touchIf (s : State) (c : Bool) : OnlyLinks s (s.touchIf c) := (onlyDoors_touchIf s c).links

theorem onlyLinks_modBranch (s : State) (b : BranchId) (f : Branch → Branch) : OnlyLinks s (s.modBranch b f) := by
  refine OnlyLinks.trans (t := { s with branches := s.branches.set b (f (s.branch b)) }) ⟨rfl, fun p => ?_⟩
    (onlyLinks_touchIf _ _)
  exact Port.SameButRequest.refl _

theorem onlyLinks_modLink (s : State) (b : BranchId) (d : DropId) (f : DropLink → DropLink) :
    OnlyLinks s (s.modLink b d f) := onlyLinks_modBranch _ _ _

theorem Port.sameButRequest_itemEnded (q : Port) (e : List Byte) : q.SameButRequest (q.itemEnded e) := by
  simp only [Port.itemEnded, Port.SameButRequest]
  split
  · rfl
  · split <;> rfl

/-- A port whose request and transmit queue alone are rewritten. -/
theorem onlyLinks_request (s : State) (p : PortId) (f : Port → Port)
    (hf : ∀ q : Port, q.SameButRequest (f q)) :
    OnlyLinks s (s.modPort p f) := by
  have h : ∀ (w : Vector Port 3) (c : Bool), OnlyLinks s { s with ports := w } → OnlyLinks s ({ s with ports := w }.touchIf c) :=
    fun w c k => k.trans (onlyLinks_touchIf _ c)
  refine h _ _ ⟨rfl, fun q => ?_⟩
  by_cases e : q = p
  · subst e; simpa [State.port] using hf (s.port q)
  · have : p.val ≠ q.val := fun c => e (Fin.ext c.symm)
    simp [State.port, Port.SameButRequest, this]

theorem onlyLinks_answerDirect (s : State) (b : BranchId) (r : Result) (data : List Byte) :
    OnlyLinks s (s.answerDirect b r data) := by
  simp only [State.answerDirect]
  split
  · exact OnlyLinks.refl s
  · refine (onlyLinks_modBranch _ _ _).trans (onlyLinks_request _ _ _ fun q => ?_)
    split
    · exact q.sameButRequest_itemEnded _
    · exact Port.SameButRequest.refl q

theorem onlyLinks_forDoors (s : State) (l : List DoorId) (f : DoorId → State → State)
    (h : ∀ i s, OnlyLinks s (f i s)) : OnlyLinks s (s.forDoors l f) := by
  induction l generalizing s with
  | nil => exact OnlyLinks.refl s
  | cons i l ih => exact (h i s).trans (ih _)

/-! ### Sending and rounds -/

theorem onlyLinks_sendFrame (s : State) (b : BranchId) (d : DropId) (k : ExchangeKind) (drive : Drive) (g : Signals) :
    OnlyLinks s (s.sendFrame b d k drive g) := onlyLinks_modBranch _ _ _

theorem onlyLinks_sendRegular (s : State) (b : BranchId) (d : DropId) (i : DoorId) :
    OnlyLinks s (s.sendRegular b d i) :=
  (onlyLinks_sendFrame _ _ _ _ _ _).trans (onlyDoors_issueDrive _ _).links

theorem onlyLinks_sendDirect (s : State) (b : BranchId) (d : DropId) (k : ExchangeKind) (i : DoorId) :
    OnlyLinks s (s.sendDirect b d k i) := onlyLinks_sendFrame _ _ _ _ _ _

theorem onlyLinks_beginExchange (s : State) (b : BranchId) (d : DropId) (i : DoorId) :
    OnlyLinks s (s.beginExchange b d i) := by
  simp only [State.beginExchange]
  split
  · split
    · split
      · exact onlyLinks_sendDirect _ _ _ _ _
      · exact (onlyLinks_answerDirect _ _ _ _).trans (onlyLinks_sendRegular _ _ _ _)
    · exact onlyLinks_sendRegular _ _ _ _
  · exact onlyLinks_sendRegular _ _ _ _

theorem onlyLinks_countRound (s : State) (b : BranchId) : OnlyLinks s (s.countRound b) := onlyLinks_modBranch _ _ _

theorem onlyLinks_exchangeFrom (s : State) (b : BranchId) (l : List DropId) :
    ∀ t, s.exchangeFrom b l = some t → OnlyLinks s t := by
  induction l with
  | nil => intro t h; simp [State.exchangeFrom] at h
  | cons d l ih =>
    intro t h
    simp only [State.exchangeFrom] at h
    split at h
    · cases h
      exact (onlyLinks_modBranch _ _ _).trans (onlyLinks_beginExchange _ _ _ _)
    · exact ih t h

theorem onlyLinks_goOnOrComplete (s : State) (b : BranchId) : OnlyLinks s (s.goOnOrComplete b) := by
  simp only [State.goOnOrComplete]
  split
  · rename_i t h; exact onlyLinks_exchangeFrom s b _ t h
  · exact (onlyLinks_modBranch _ _ _).trans (onlyLinks_countRound _ _)

theorem onlyLinks_startRound (s : State) (b : BranchId) : OnlyLinks s (s.startRound b) :=
  (onlyLinks_modBranch _ _ _).trans (onlyLinks_goOnOrComplete _ _)

theorem onlyLinks_nextRoundIfDue (s : State) (b : BranchId) : OnlyLinks s (s.nextRoundIfDue b) := by
  simp only [State.nextRoundIfDue]; split
  · exact onlyLinks_startRound _ _
  · exact OnlyLinks.refl s

theorem onlyLinks_exchangeEnded (s : State) (b : BranchId) : OnlyLinks s (s.exchangeEnded b) :=
  (onlyLinks_goOnOrComplete _ _).trans (onlyLinks_nextRoundIfDue _ _)

/-! ### Outcomes -/

theorem onlyLinks_dropLost (s : State) (b : BranchId) (d : DropId) : OnlyLinks s (s.dropLost b d) := by
  simp only [State.dropLost]
  split
  · exact ((onlyLinks_modLink _ _ _ _).trans (onlyDoors_raiseCondition _ _ _).links).trans (onlyDoors_unsettle _ _).links
  · exact onlyLinks_modLink _ _ _ _

theorem onlyLinks_miss (s : State) (b : BranchId) (d : DropId) : OnlyLinks s (s.miss b d) := by
  simp only [State.miss]
  split
  · exact (onlyLinks_modLink _ _ _ _).trans (onlyLinks_dropLost _ _ _)
  · exact onlyLinks_modLink _ _ _ _

theorem onlyLinks_exchangeMissed (s : State) (b : BranchId) (x : Exchange) : OnlyLinks s (s.exchangeMissed b x) := by
  simp only [State.exchangeMissed]
  split
  · exact onlyLinks_miss _ _ _
  · exact (onlyLinks_answerDirect _ _ _ _).trans (onlyLinks_miss _ _ _)

theorem onlyLinks_goodRegular (s : State) (b : BranchId) (d : DropId) (r : Reply) :
    OnlyLinks s (s.goodRegular b d r) := by
  simp only [State.goodRegular]
  split
  · split
    · exact ((onlyLinks_modLink _ _ _ _).trans (onlyDoors_clearFault _ _ _).links).trans (onlyDoors_takeReply _ _ _).links
    · exact (onlyLinks_modLink _ _ _ _).trans (onlyDoors_takeReply _ _ _).links
  · exact onlyLinks_modLink _ _ _ _

theorem onlyLinks_goodDirect (s : State) (b : BranchId) (d : DropId) (data : List Byte) :
    OnlyLinks s (s.goodDirect b d data) := (onlyLinks_modLink _ _ _ _).trans (onlyLinks_answerDirect _ _ _ _)

theorem onlyLinks_clearExchange (s : State) (b : BranchId) : OnlyLinks s (s.clearExchange b) := onlyLinks_modBranch _ _ _

theorem onlyLinks_deadlinePassed (s : State) (b : BranchId) : OnlyLinks s (s.deadlinePassed b) := by
  simp only [State.deadlinePassed]
  split
  · split
    · exact ((onlyLinks_clearExchange _ _).trans (onlyLinks_exchangeMissed _ _ _)).trans (onlyLinks_exchangeEnded _ _)
    · exact OnlyLinks.refl s
  · exact OnlyLinks.refl s

theorem onlyLinks_frameJudged (s : State) (b : BranchId) (x : Exchange) (f : StationFrame) :
    OnlyLinks s (s.frameJudged b x f) := by
  have c := onlyLinks_clearExchange s b
  simp only [State.frameJudged]
  split
  · split
    · exact (c.trans (onlyLinks_goodRegular _ _ _ _)).trans (onlyLinks_exchangeEnded _ _)
    · exact (c.trans (onlyLinks_goodDirect _ _ _ _)).trans (onlyLinks_exchangeEnded _ _)
  · exact (c.trans (onlyLinks_exchangeMissed _ _ _)).trans (onlyLinks_exchangeEnded _ _)

theorem onlyLinks_takeFrame (s : State) (b : BranchId) (f : StationFrame) : OnlyLinks s (s.takeFrame b f) := by
  simp only [State.takeFrame]
  split
  · split
    · exact onlyLinks_modBranch _ _ _
    · exact onlyLinks_frameJudged _ _ _ _
  · exact onlyLinks_modBranch _ _ _

theorem onlyLinks_stationFrame (s : State) (b : BranchId) (l : List Byte) : OnlyLinks s (s.stationFrame b l) := by
  have c := onlyLinks_modBranch s b fun x => { x with collecting := false }
  simp only [State.stationFrame]
  split
  · exact c.trans (onlyLinks_takeFrame _ _ _)
  · exact c

/-! ### Breaking off, claims and the enable -/

theorem onlyLinks_breakExchange (s : State) (b : BranchId) (r : Result) : OnlyLinks s (s.breakExchange b r) := by
  simp only [State.breakExchange]
  split
  · exact OnlyLinks.refl s
  · split
    · exact onlyLinks_modBranch _ _ _
    · exact (onlyLinks_modBranch _ _ _).trans (onlyLinks_answerDirect _ _ _ _)

theorem onlyLinks_dropDirect (s : State) (b : BranchId) (d : DropId) (r : Result) :
    OnlyLinks s (s.dropDirect b d r) := by
  simp only [State.dropDirect]
  split
  · split
    · exact onlyLinks_answerDirect _ _ _ _
    · exact OnlyLinks.refl s
  · exact OnlyLinks.refl s

theorem onlyLinks_releasePair (s : State) (b : BranchId) (d : DropId) : OnlyLinks s (s.releasePair b d) := by
  have c := (onlyLinks_modLink s b d fun _ => DropLink.fresh).trans
    (onlyLinks_modBranch _ b fun x => { x with members := x.members.filter fun e => e ≠ d })
  simp only [State.releasePair]
  split
  · split
    · exact ((c.trans (onlyLinks_breakExchange _ _ _)).trans (onlyLinks_dropDirect _ _ _ _)).trans
        (onlyLinks_exchangeEnded _ _)
    · exact c.trans (onlyLinks_dropDirect _ _ _ _)
  · exact c.trans (onlyLinks_dropDirect _ _ _ _)

theorem onlyLinks_claimPair (s : State) (b : BranchId) (d : DropId) : OnlyLinks s (s.claimPair b d) :=
  onlyLinks_modLink _ _ _ _

theorem onlyLinks_doorBranchOff (i : DoorId) (s : State) : OnlyLinks s (State.doorBranchOff i s) :=
  (((onlyDoors_clearFault _ _ _).trans (onlyDoors_raiseCondition _ _ _)).trans (onlyDoors_unsettle _ _)).links

theorem onlyLinks_disableBranch (s : State) (b : BranchId) : OnlyLinks s (s.disableBranch b) := by
  simp only [State.disableBranch]
  exact ((((onlyLinks_modBranch s b _).trans (onlyLinks_breakExchange _ _ _)).trans (onlyLinks_modBranch _ _ _)).trans
    (onlyLinks_answerDirect _ _ _ _)).trans (onlyLinks_forDoors _ _ _ onlyLinks_doorBranchOff)

theorem onlyLinks_enableBranch (s : State) (b : BranchId) : OnlyLinks s (s.enableBranch b) := by
  have h : ∀ (t : State) l, OnlyLinks t (t.forDoors l fun i t => t.clearFault i .branchOff) := fun t l =>
    onlyLinks_forDoors t l _ fun i t => (onlyDoors_clearFault t i _).links
  simp only [State.enableBranch]
  exact ((onlyLinks_modBranch s b _).trans (h _ _)).trans (onlyLinks_startRound _ _)

end Sys2Proof.Machine
end

