-- ==== Sys2Proof/Laws/PerInstr.lean ====
section
/-! SUPPORT. Per-command lemmas, one for each constructor of `Instr`: no command of the table stands for an item that
cannot be decoded, so the item of every well-formed item command is one that a request frame can hold (R158, R188). -/

namespace Sys2Proof.Laws.Spelled

/-- The item a command stands for, if it stands for one, is not an undecodable one. -/
def Statement (c : Instr) : Prop := ∀ p code, c.item ≠ some (p, .undecodable code)

theorem powerOn (key closeAll cutoff : Bool) (pressLow : BitVec 4) (sync : Bool) : Statement (.powerOn key closeAll cutoff pressLow sync) := by
  intro _ _ h; cases h
theorem consoleFrame (p : PortId) (frame : List Byte) : Statement (.consoleFrame p frame) := by
  intro _ _ h; cases h
theorem consoleReceiveTimeout (p : PortId) : Statement (.consoleReceiveTimeout p) := by
  intro _ _ h; cases h
theorem responseSend (p : PortId) : Statement (.responseSend p) := by
  intro _ _ h; cases h
theorem responseSent (p : PortId) : Statement (.responseSent p) := by
  intro _ _ h; cases h
theorem reportSend (p : PortId) : Statement (.reportSend p) := by
  intro _ _ h; cases h
theorem reportSent (p : PortId) : Statement (.reportSent p) := by
  intro _ _ h; cases h
theorem silenceTimeout (p : PortId) : Statement (.silenceTimeout p) := by
  intro _ _ h; cases h
theorem refreshDue (p : PortId) : Statement (.refreshDue p) := by
  intro _ _ h; cases h
theorem fetchDoorRecord (p : PortId) (n : Nat) : Statement (.fetchDoorRecord p n) := by
  intro _ _ h; cases h
theorem fetchDoorSettings (p : PortId) (n : Nat) : Statement (.fetchDoorSettings p n) := by
  intro _ _ h; cases h
theorem fetchDoorPending (p : PortId) (n : Nat) : Statement (.fetchDoorPending p n) := by
  intro _ _ h; cases h
theorem fetchZoneSummary (p : PortId) (n : Nat) : Statement (.fetchZoneSummary p n) := by
  intro _ _ h; cases h
theorem fetchUnit (p : PortId) (n : Nat) : Statement (.fetchUnit p n) := by
  intro _ _ h; cases h
theorem fetchHolds (p : PortId) : Statement (.fetchHolds p) := by
  intro _ _ h; cases h
theorem fetchClock (p : PortId) : Statement (.fetchClock p) := by
  intro _ _ h; cases h
theorem fetchPortStatus (p : PortId) (n : Nat) : Statement (.fetchPortStatus p n) := by
  intro _ _ h; cases h
theorem fetchIdentity (p : PortId) : Statement (.fetchIdentity p) := by
  intro _ _ h; cases h
theorem close (p : PortId) (t : Target) : Statement (.close p t) := by
  intro _ _ h; cases h
theorem openDoor (p : PortId) (t : Target) : Statement (.openDoor p t) := by
  intro _ _ h; cases h
theorem stop (p : PortId) (t : Target) : Statement (.stop p t) := by
  intro _ _ h; cases h
theorem service (p : PortId) (t : Target) (value : Nat) : Statement (.service p t value) := by
  intro _ _ h; cases h
theorem holdZones (p : PortId) (t : Target) : Statement (.holdZones p t) := by
  intro _ _ h; cases h
theorem releaseZones (p : PortId) (t : Target) : Statement (.releaseZones p t) := by
  intro _ _ h; cases h
theorem releaseForeign (p : PortId) (t : Target) : Statement (.releaseForeign p t) := by
  intro _ _ h; cases h
theorem resetFaults (p : PortId) (t : Target) : Statement (.resetFaults p t) := by
  intro _ _ h; cases h
theorem settingsHold (p : PortId) (value : Nat) : Statement (.settingsHold p value) := by
  intro _ _ h; cases h
theorem signalTest (p : PortId) (t : Target) : Statement (.signalTest p t) := by
  intro _ _ h; cases h
theorem resetUnit (p : PortId) (t : Target) : Statement (.resetUnit p t) := by
  intro _ _ h; cases h
theorem ack (p : PortId) (t : Target) : Statement (.ack p t) := by
  intro _ _ h; cases h
theorem ackPort (p : PortId) (t : Target) : Statement (.ackPort p t) := by
  intro _ _ h; cases h
theorem ackUnit (p : PortId) (t : Target) : Statement (.ackUnit p t) := by
  intro _ _ h; cases h
theorem clockLoad (p : PortId) (day ms : Nat) : Statement (.clockLoad p day ms) := by
  intro _ _ h; cases h
theorem clockAdjust (p : PortId) (delta : Int) : Statement (.clockAdjust p delta) := by
  intro _ _ h; cases h
theorem clockArm (p : PortId) (day ms : Nat) : Statement (.clockArm p day ms) := by
  intro _ _ h; cases h
theorem clockDisarm (p : PortId) : Statement (.clockDisarm p) := by
  intro _ _ h; cases h
theorem save (p : PortId) : Statement (.save p) := by
  intro _ _ h; cases h
theorem lock (p : PortId) : Statement (.lock p) := by
  intro _ _ h; cases h
theorem restart (p : PortId) : Statement (.restart p) := by
  intro _ _ h; cases h
theorem marker (p : PortId) (word : BitVec 32) : Statement (.marker p word) := by
  intro _ _ h; cases h
theorem delay (p : PortId) (ms : Nat) : Statement (.delay p ms) := by
  intro _ _ h; cases h
theorem delayExpiry (p : PortId) : Statement (.delayExpiry p) := by
  intro _ _ h; cases h
theorem direct (p : PortId) (branch drop kind : Nat) : Statement (.direct p branch drop kind) := by
  intro _ _ h; cases h
theorem setLeadInTime (p : PortId) (t : Target) (value : Nat) : Statement (.setLeadInTime p t value) := by
  intro _ _ h; cases h
theorem setRecloseDelay (p : PortId) (t : Target) (value : Nat) : Statement (.setRecloseDelay p t value) := by
  intro _ _ h; cases h
theorem setStrokeLimit (p : PortId) (t : Target) (value : Nat) : Statement (.setStrokeLimit p t value) := by
  intro _ _ h; cases h
theorem setDeadTime (p : PortId) (t : Target) (value : Nat) : Statement (.setDeadTime p t value) := by
  intro _ _ h; cases h
theorem setClosedBand (p : PortId) (t : Target) (value : Nat) : Statement (.setClosedBand p t value) := by
  intro _ _ h; cases h
theorem setOpenBand (p : PortId) (t : Target) (value : Nat) : Statement (.setOpenBand p t value) := by
  intro _ _ h; cases h
theorem setStallWindow (p : PortId) (t : Target) (value : Nat) : Statement (.setStallWindow p t value) := by
  intro _ _ h; cases h
theorem setStallDelta (p : PortId) (t : Target) (value : Nat) : Statement (.setStallDelta p t value) := by
  intro _ _ h; cases h
theorem setConfirmCount (p : PortId) (t : Target) (value : Nat) : Statement (.setConfirmCount p t value) := by
  intro _ _ h; cases h
theorem setTailTime (p : PortId) (t : Target) (value : Nat) : Statement (.setTailTime p t value) := by
  intro _ _ h; cases h
theorem setInstalled (p : PortId) (t : Target) (value : Nat) : Statement (.setInstalled p t value) := by
  intro _ _ h; cases h
theorem setBranch (p : PortId) (t : Target) (value : Nat) : Statement (.setBranch p t value) := by
  intro _ _ h; cases h
theorem setDrop (p : PortId) (t : Target) (value : Nat) : Statement (.setDrop p t value) := by
  intro _ _ h; cases h
theorem setZone (p : PortId) (t : Target) (value : Nat) : Statement (.setZone p t value) := by
  intro _ _ h; cases h
theorem setUnit (p : PortId) (t : Target) (value : Nat) : Statement (.setUnit p t value) := by
  intro _ _ h; cases h
theorem setGeometry (p : PortId) (t : Target) (closedCount openCount : Nat) : Statement (.setGeometry p t closedCount openCount) := by
  intro _ _ h; cases h
theorem setLabel (p : PortId) (t : Target) (text : List Byte) : Statement (.setLabel p t text) := by
  intro _ _ h; cases h
theorem setSlotLimit (p : PortId) (t : Target) (value : Nat) : Statement (.setSlotLimit p t value) := by
  intro _ _ h; cases h
theorem setStartTime (p : PortId) (t : Target) (value : Nat) : Statement (.setStartTime p t value) := by
  intro _ _ h; cases h
theorem setHoldoff (p : PortId) (t : Target) (value : Nat) : Statement (.setHoldoff p t value) := by
  intro _ _ h; cases h
theorem setAgeTime (p : PortId) (t : Target) (value : Nat) : Statement (.setAgeTime p t value) := by
  intro _ _ h; cases h
theorem setUrgentCount (p : PortId) (t : Target) (value : Nat) : Statement (.setUrgentCount p t value) := by
  intro _ _ h; cases h
theorem setEnable (p : PortId) (t : Target) (value : Nat) : Statement (.setEnable p t value) := by
  intro _ _ h; cases h
theorem setRoundPeriod (p : PortId) (t : Target) (value : Nat) : Statement (.setRoundPeriod p t value) := by
  intro _ _ h; cases h
theorem setReplyTimeout (p : PortId) (t : Target) (value : Nat) : Statement (.setReplyTimeout p t value) := by
  intro _ _ h; cases h
theorem setLostThreshold (p : PortId) (t : Target) (value : Nat) : Statement (.setLostThreshold p t value) := by
  intro _ _ h; cases h
theorem setPortRole (p : PortId) (t : Target) (value : Nat) : Statement (.setPortRole p t value) := by
  intro _ _ h; cases h
theorem setSilenceTime (p : PortId) (t : Target) (value : Nat) : Statement (.setSilenceTime p t value) := by
  intro _ _ h; cases h
theorem setReportsEnabled (p : PortId) (t : Target) (value : Nat) : Statement (.setReportsEnabled p t value) := by
  intro _ _ h; cases h
theorem setReportSpacing (p : PortId) (t : Target) (value : Nat) : Statement (.setReportSpacing p t value) := by
  intro _ _ h; cases h
theorem setRefreshPeriod (p : PortId) (t : Target) (value : Nat) : Statement (.setRefreshPeriod p t value) := by
  intro _ _ h; cases h
theorem setStartClosed (p : PortId) (t : Target) (value : Nat) : Statement (.setStartClosed p t value) := by
  intro _ _ h; cases h
theorem setFaultAlarmMask (p : PortId) (t : Target) (mask : BitVec 16) : Statement (.setFaultAlarmMask p t mask) := by
  intro _ _ h; cases h
theorem setVesselIdentity (p : PortId) (t : Target) (text : List Byte) : Statement (.setVesselIdentity p t text) := by
  intro _ _ h; cases h
theorem setClockTrim (p : PortId) (t : Target) (interval : Nat) (direction : Byte) : Statement (.setClockTrim p t interval direction) := by
  intro _ _ h; cases h
theorem roundTimerExpiry (b : BranchId) : Statement (.roundTimerExpiry b) := by
  intro _ _ h; cases h
theorem stationReplyFrame (b : BranchId) (frame : List Byte) : Statement (.stationReplyFrame b frame) := by
  intro _ _ h; cases h
theorem replyDeadline (b : BranchId) : Statement (.replyDeadline b) := by
  intro _ _ h; cases h
theorem branchReceiveTimeout (b : BranchId) : Statement (.branchReceiveTimeout b) := by
  intro _ _ h; cases h
theorem reversalInstant (d : DoorId) : Statement (.reversalInstant d) := by
  intro _ _ h; cases h
theorem leadInExpiry (d : DoorId) : Statement (.leadInExpiry d) := by
  intro _ _ h; cases h
theorem recloseTimerExpiry (d : DoorId) : Statement (.recloseTimerExpiry d) := by
  intro _ _ h; cases h
theorem tailExpiry (d : DoorId) : Statement (.tailExpiry d) := by
  intro _ _ h; cases h
theorem signalTestExpiry (d : DoorId) : Statement (.signalTestExpiry d) := by
  intro _ _ h; cases h
theorem ageTimerExpiry (u : UnitId) : Statement (.ageTimerExpiry u) := by
  intro _ _ h; cases h
theorem startTimerExpiry (u : UnitId) : Statement (.startTimerExpiry u) := by
  intro _ _ h; cases h
theorem holdoffTimerExpiry (u : UnitId) : Statement (.holdoffTimerExpiry u) := by
  intro _ _ h; cases h
theorem pressLowChange (u : UnitId) (active : Bool) : Statement (.pressLowChange u active) := by
  intro _ _ h; cases h
theorem driveCutoffActive : Statement (.driveCutoffActive) := by
  intro _ _ h; cases h
theorem driveCutoffRelease : Statement (.driveCutoffRelease) := by
  intro _ _ h; cases h
theorem closeAllChange (active : Bool) : Statement (.closeAllChange active) := by
  intro _ _ h; cases h
theorem syncInEdge : Statement (.syncInEdge) := by
  intro _ _ h; cases h
theorem trimStep : Statement (.trimStep) := by
  intro _ _ h; cases h
theorem saveCompletion : Statement (.saveCompletion) := by
  intro _ _ h; cases h
theorem consoleStartByte (p : PortId) : Statement (.consoleStartByte p) := by
  intro _ _ h; cases h
theorem consoleLengthOver256 (p : PortId) : Statement (.consoleLengthOver256 p) := by
  intro _ _ h; cases h
theorem branchStartByte (b : BranchId) : Statement (.branchStartByte b) := by
  intro _ _ h; cases h
theorem branchDataLengthOver8 (b : BranchId) : Statement (.branchDataLengthOver8 b) := by
  intro _ _ h; cases h
theorem lossOfSupply : Statement (.lossOfSupply) := by
  intro _ _ h; cases h

end Sys2Proof.Laws.Spelled
end

