-- ==== Sys2Proof/Laws/Requests.lean ====
section
/-! SUPPORT. How a request of one item runs: what an item command does whose item is answered at once, is malformed, or
does not fit, and what it leaves of the ports. -/

namespace Sys2Proof.Machine

variable (s : State)

/-- The request of an item command, as its one item is taken. -/
def Request.one (it : Item) : Request := { token := 0, items := [it], index := 0, entries := [], wait := none }

theorem Request.item_one (it : Item) : (Request.one it).items[(Request.one it).index]? = some it := rfl

theorem request_taking (p : PortId) (it : Item) : ((s.taking p it).port p).request = some (Request.one it) := by
  simp [State.taking, State.beginRequest, State.port_modPort, Request.one]

/-- The other ports keep their requests as one begins. -/
theorem request_taking_other (p q : PortId) (it : Item) (h : q ≠ p) :
    ((s.taking p it).port q).request = (s.port q).request := by
  simp [State.taking, State.beginRequest, State.port_modPort, h]

/-- An item command at a free port takes its one item. -/
theorem itemCommand_free {s : State} {p : PortId} (hf : s.Free p) (it : Item) :
    s.itemCommand p it = (s.taking p it).takeItem p (Request.one it) := by
  have h : s.itemCommand p it = (s.taking p it).goOn p := by
    simp [State.itemCommand, State.takeRequest, hf.2, State.taking]
  rw [h, State.goOn, request_taking]
  rfl

/-- A well-formed item that fits is executed by an item command at a free port. -/
theorem itemCommand_executes {s : State} {p : PortId} {it : Item} (hf : s.Free p) (hm : itemMalformed it = false)
    (hs : (s.taking p it).entrySize it ≤ 1012) : s.itemCommand p it = (s.taking p it).executeItem p it := by
  have ho : (s.taking p it).overflows (Request.one it) it = false := by
    simp [State.overflows, Request.size, Request.one, Config.maxResponse]
    omega
  simp [itemCommand_free hf, State.takeItem, Request.item_one, hm, ho]

/-- A malformed item at a free port is answered BAD_ITEM. -/
theorem itemCommand_malformed {s : State} {p : PortId} {it : Item} (hf : s.Free p) (hm : itemMalformed it = true) :
    s.itemCommand p it = (s.taking p it).finishWith p (plainEntry (itemCode it) .badItem 0) false := by
  have ho : (s.taking p it).overflows (Request.one it) it = false := by
    simp [State.overflows, Request.size, Request.one, Config.maxResponse, State.entrySize, hm]
  simp [itemCommand_free hf, State.takeItem, Request.item_one, hm, ho]

/-! ### What an answered item leaves of the ports -/

/-- Work on doors and units touches no request. -/
theorem OnlyDoors.request {s t : State} (h : OnlyDoors s t) (q : PortId) : (t.port q).request = (s.port q).request := by
  rw [h.ports q]

/-- The ports as the one item of an item command is taken: another port has its marks changed at most. -/
theorem taking_other (p q : PortId) (it : Item) (h : q ≠ p) :
    (s.port q).SameButMarks ((s.taking p it).port q) := by
  simp [State.taking, State.beginRequest, State.port_modPort, h, Port.SameButMarks]

theorem endItem_other (p q : PortId) (e : List Byte) (h : q ≠ p) :
    (s.port q).SameButMarks ((s.endItem p e).port q) := by
  simp [State.endItem, State.port_modPort, h, Port.SameButMarks]

/-- The port whose request has one item, as that item ends. -/
theorem Port.itemEnded_one {q : Port} {it : Item} (h : q.request = some (Request.one it)) (e : List Byte) :
    q.itemEnded e = { q with request := none, queue := q.queue ++ [responseOf e] } := by
  simp [Port.itemEnded, h, Request.one, Port.concluded, Request.response, Request.withEntry, responseOf]

/-- The ports after an item command whose item has worked on doors and units alone and is answered with `e`. -/
theorem answered_endItem {s u : State} {p : PortId} {it : Item} (e : List Byte) (hf : s.Free p)
    (h : OnlyDoors (s.taking p it) u) : Answered p e s (u.endItem p e) := by
  refine ⟨?_, fun q hq => ?_⟩
  · have hp := h.ports p
    have hr : (u.port p).request = some (Request.one it) := by rw [h.request, request_taking]
    have hs : u.port p = { s.port p with
        active := true, silenceTimer := none, request := (u.port p).request, changed := (u.port p).changed
        summaryChanged := (u.port p).summaryChanged } := by
      rw [hp]; simp [State.taking, State.beginRequest, State.port_modPort]
    have hn : (s.port p).request = none := hf.2
    simp only [Port.AnsweredWith, State.endItem, State.port_modPort, if_true, Port.itemEnded_one hr]
    rw [hs]
    simp [Port.alertChanged, hn]
  · exact ((taking_other s p q it hq).trans (h.ports q)).trans (endItem_other u p q e hq)

/-! ### Orders and SETs -/

/-- An ORDER other than RESTART, well-formed, at a free port: the command is its owner's answer with its entry. -/
theorem itemCommand_order {s : State} {p : PortId} {o : OrderOp} {t : Target} (hf : s.Free p) (ho : o ≠ .restart)
    (hm : itemMalformed (.order o t) = false) :
    s.itemCommand p (.order o t) =
      ((s.taking p (.order o t)).ordering p t o).state.endItem p
        (orderEntry ((s.taking p (.order o t)).ordering p t o).result
          ((s.taking p (.order o t)).ordering p t o).count) := by
  rw [itemCommand_executes hf hm (by simp [State.entrySize, hm])]
  cases o <;> first | rfl | exact absurd rfl ho

/-- A SET, well-formed, at a free port, in the same way. -/
theorem itemCommand_set {s : State} {p : PortId} {w : SettingWrite} {t : Target} (hf : s.Free p)
    (hm : itemMalformed (.set w t) = false) :
    s.itemCommand p (.set w t) =
      ((s.taking p (.set w t)).setting p t w).withOutputs.state.endItem p
        (setEntry ((s.taking p (.set w t)).setting p t w).withOutputs.result) := by
  rw [itemCommand_executes hf hm (by simp [State.entrySize, hm])]
  rfl

end Sys2Proof.Machine
end

