-- ==== Sys2Proof/Tests/Slice0.lean ====
section
/-! SUPPORT. Tests: the form of commands, the tables and worked cases of the manual, one step of each command on a small
state, and a witness for the hypotheses of every statement that has some. Expected values come from the manual's tables
and worked sequences, or are calculated by hand from its rules. -/

namespace Sys2Proof.Tests

open Sys2Proof Sys2Proof.Machine

-- The theorems are checked one after another, so that they do not each take a thread with a stack of its own.
set_option Elab.async false

/-! ### Well-formedness: one ill-formed term for each check -/

theorem test_illformed_door : Instr.wellFormed (.close 0 (.door 65536)) = false := by decide
theorem test_illformed_zone : Instr.wellFormed (.close 0 (.zone 65536)) = false := by decide
theorem test_illformed_unit : Instr.wellFormed (.resetUnit 0 (.unit 65536)) = false := by decide
theorem test_illformed_branch : Instr.wellFormed (.setEnable 0 (.branch 65536) 1) = false := by decide
theorem test_illformed_port : Instr.wellFormed (.ackPort 0 (.port 65536)) = false := by decide
theorem test_illformed_holder : Instr.wellFormed (.releaseForeign 0 (.holder 65536)) = false := by decide
theorem test_illformed_form_named : Instr.wellFormed (.close 0 (.other 9 0)) = false := by decide
theorem test_illformed_form_wide : Instr.wellFormed (.close 0 (.other 256 0)) = false := by decide
theorem test_illformed_form_value : Instr.wellFormed (.close 0 (.other 10 65536)) = false := by decide
theorem test_illformed_service : Instr.wellFormed (.service 0 (.door 1) 256) = false := by decide
theorem test_illformed_settings_hold : Instr.wellFormed (.settingsHold 0 256) = false := by decide
theorem test_illformed_load : Instr.wellFormed (.clockLoad 0 65536 0) = false ∧
    Instr.wellFormed (.clockLoad 0 0 4294967296) = false := by decide
theorem test_illformed_arm : Instr.wellFormed (.clockArm 0 65536 0) = false ∧
    Instr.wellFormed (.clockArm 0 0 4294967296) = false := by decide
theorem test_illformed_delta : Instr.wellFormed (.clockAdjust 0 2147483648) = false ∧
    Instr.wellFormed (.clockAdjust 0 (-2147483649)) = false := by decide
theorem test_illformed_numbers : ∀ c ∈ [Instr.setLeadInTime 0 .all 65536, .setInstalled 0 (.door 1) 65536,
    .setBranch 0 (.door 1) 65536, .setDrop 0 (.door 1) 65536, .setZone 0 (.door 1) 65536, .setUnit 0 (.door 1) 65536,
    .setGeometry 0 (.door 1) 65536 0, .setGeometry 0 (.door 1) 0 65536, .setSlotLimit 0 (.unit 1) 65536,
    .setStartTime 0 (.unit 1) 65536, .setHoldoff 0 (.unit 1) 65536, .setAgeTime 0 (.unit 1) 65536,
    .setUrgentCount 0 (.unit 1) 65536], Instr.wellFormed c = false := by decide
theorem test_illformed_more_numbers : ∀ c ∈ [Instr.setEnable 0 (.branch 1) 65536, .setRoundPeriod 0 (.branch 1) 65536,
    .setReplyTimeout 0 (.branch 1) 65536, .setLostThreshold 0 (.branch 1) 65536, .setPortRole 0 (.port 0) 65536,
    .setSilenceTime 0 (.port 0) 65536, .setReportsEnabled 0 (.port 0) 65536, .setReportSpacing 0 (.port 0) 65536,
    .setRefreshPeriod 0 (.port 0) 65536, .setStartClosed 0 .device 65536, .setClockTrim 0 .device 65536 1],
    Instr.wellFormed c = false := by decide
theorem test_illformed_label : Instr.wellFormed (.setLabel 0 (.door 1) (List.replicate 256 0x41)) = false := by decide +kernel
theorem test_illformed_identity :
    Instr.wellFormed (.setVesselIdentity 0 .device (List.replicate 256 0x41)) = false := by decide +kernel
theorem test_illformed_fetch : Instr.wellFormed (.fetchUnit 0 256) = false := by decide
theorem test_illformed_delay : Instr.wellFormed (.delay 0 65536) = false := by decide
theorem test_illformed_direct : Instr.wellFormed (.direct 0 256 1 1) = false ∧
    Instr.wellFormed (.direct 0 1 256 1) = false ∧ Instr.wellFormed (.direct 0 1 1 256) = false := by decide
theorem test_illformed_undecodable : Item.wellFormed (.undecodable 7) = false := by decide

/-- The table gives no row any bits. -/
theorem test_no_word_spells_a_command : decodeTableWord 8 1 = none ∧ State.reset.withFetchWord 8 1 = State.reset :=
  ⟨rfl, rfl⟩

/-! ### Bytes on the wire (chapter 12) -/

/-- R187: the CRC of the nine characters 1 to 9. -/
theorem test_crc_check_value : crc16 [0x31, 0x32, 0x33, 0x34, 0x35, 0x36, 0x37, 0x38, 0x39] = 0x29B1#16 := by decide +kernel

/-- Section 12.3: CLOSE of door 3, written out field by field. -/
theorem test_read_close : readItem [2, 1, 1, 0, 3, 0, 0, 0, 0, 0, 0] = (.order .close (.door 3), []) := by decide
/-- Section 12.3: CLOCK_ADJUST of −1 ms. -/
theorem test_read_adjust : readItem [2, 16, 0, 0, 0, 0xFF, 0xFF, 0xFF, 0xFF, 0, 0] =
    (.order (.clockAdjust (-1)) .none, []) := by decide
/-- Section 12.3: SET of geometry 612, 3580 for door 12, with a marker behind it. -/
theorem test_read_geometry : readItem [3, 16, 1, 0, 12, 4, 0x02, 0x64, 0x0D, 0xFC, 4, 0, 0, 0, 1] =
    (.set (.geometry 612 3580) (.door 12), [4, 0, 0, 0, 1]) := by decide
/-- Section 12.3: FETCH of HOLDS, and DIRECT IDENT to drop 5 of branch 2. -/
theorem test_read_fetch_direct : readItem [1, 6, 0] = (.fetch .holds 0, []) ∧
    readItem [6, 2, 5, 1] = (.direct 2 5 1, []) := by decide
/-- R188: a SET whose length does not suit its setting, and an item code outside the table. -/
theorem test_read_malformed : readItem [3, 1, 3, 0, 0, 1, 65] = (.undecodable 3, []) ∧
    readItem [7, 1] = (.undecodable 7, []) := by decide
/-- R187: a request of length field 5 carries a header and no item; on another port it is discarded. -/
theorem test_read_empty_request :
    readRequest 1 (consoleFrameBytes [2, 1, 1, 0, 42]) = some { token := 42, items := [] } ∧
      readRequest 0 (consoleFrameBytes [2, 1, 1, 0, 42]) = none := by decide +kernel
/-- A frame of one marker with a length field, a version, a kind and a port, and the XOR on its CRC. -/
def markerFrame (length version kind port : Byte) (d : Byte) : List Byte :=
  let body : List Byte := [0, length, version, kind, port, 0, 42, 4, 0, 0, 0, 7]
  0xC3 :: (body ++ (crcBytes body).map fun b => b ^^^ d)

/-- The frame begins with 0xC3, the length, a header of five bytes and the marker, and two CRC bytes follow. -/
theorem markerFrame_shape (length version kind port d : Byte) : ∃ crc, crc.length = 2 ∧
    markerFrame length version kind port d =
      0xC3 :: 0 :: length :: ([version, kind, port, 0, 42] ++ [4, 0, 0, 0, 7] ++ crc) :=
  ⟨_, by simp [crcBytes, bytesOf], rfl⟩

/-- R155, R187: a frame of CP1 that is good, and one each with a bad CRC, version, kind, port and length. -/
theorem test_read_bad_frames : (readRequest 1 (markerFrame 10 2 1 1 0)).isSome = true ∧
    ∀ l ∈ [markerFrame 10 2 1 1 1, markerFrame 10 1 1 1 0, markerFrame 10 3 1 1 0, markerFrame 10 2 0 1 0,
      markerFrame 10 2 2 1 0, markerFrame 10 2 1 0 0, markerFrame 10 2 1 2 0, markerFrame 4 2 1 1 0], readRequest 1 l = none := by
  decide +kernel
/-- R158: of 33 DELAYs in a request the last cannot be decoded. -/
theorem test_read_many_items :
    (let l := readItems 99 Config.maxItems (List.replicate 33 [(5 : Byte), 0, 1]).flatten
     (l.length, l[31]?, l[32]?)) = (33, some (.delay 1), some (.undecodable 5)) := by decide +kernel
/-- R158: the ends of the fields' ranges. -/
theorem test_malformed_ranges : (∀ it ∈ [Item.fetch .doorRecord 1, .fetch .doorPending 48, .fetch .zoneSummary 16,
      .fetch .unit 4, .fetch .portStatus 2, .fetch .holds 255, .order .close (.door 48), .order .releaseForeign (.holder 4),
      .order .save (.door 49), .set (.zone 99) (.zone 99), .delay 1, .delay 5000, .direct 4 12 2],
      itemMalformed it = false) ∧
    ∀ it ∈ [Item.fetch .doorRecord 0, .fetch .doorPending 49, .fetch .zoneSummary 17, .fetch .unit 5,
      .fetch .portStatus 3, .order .close (.door 49), .order .ack (.door 0), .order .releaseForeign (.holder 5),
      .order .stop (.other 10 1), .set (.zone 1) (.door 49), .delay 0, .delay 5001, .direct 0 1 1, .direct 5 1 1,
      .direct 1 13 1, .direct 1 1 0, .direct 1 1 3], itemMalformed it = true := by decide
/-- R158, R188: items that are a byte too short, of a code outside its table, or with a value of the wrong width. -/
theorem test_read_undecodable : ∀ l ∈ [[(0 : Byte)], [1, 1], [1, 0, 1], [1, 10, 1], [2, 1, 1, 0, 3, 0, 0, 0, 0, 0],
    [2, 0, 1, 0, 3, 0, 0, 0, 0, 0, 0], [2, 22, 1, 0, 3, 0, 0, 0, 0, 0, 0], [3, 1, 1, 0, 1], [3, 1, 1, 0, 1, 2, 0],
    [3, 0, 1, 0, 1, 2, 0, 50], [3, 36, 1, 0, 1, 2, 0, 50], [3, 16, 1, 0, 1, 2, 0, 50], [3, 35, 6, 0, 0, 2, 0, 20],
    [4, 0, 0, 0], [5, 0], [6, 1, 1]], readItem l = (.undecodable (l.headD 0), []) := by decide

/-- Section 12.6: a regular poll of drop 5 with sequence 7, drive CLOSE, sounder, flashing beacon and lamp. -/
theorem test_command_frame :
    (CommandFrame.bytes { drop := 4, kind := .regular, sequence := 7, drive := some .close
                          signals := { sounder := true, beacon := .flash, lamp := true } }).take 4 =
      [0x3C, 5, 0x07, 0x36] := by decide
/-- Section 12.6: an IDENT reply echo, a count of 2100, no data. -/
theorem test_reply_frame : (readStationFrame [0x3C, 5, 0x17, 0x03, 0x08, 0x34, 0, 0, 0]).map
    (fun f => (f.drop, f.kind, f.sequence, f.count)) = some (5, 1, 7, 2100) := by decide

/-! ### Worked arithmetic -/

/-- Section 2.1, cases A to D of the position table. -/
theorem test_positions_a_to_d : rawPosition 2100 612 3580 = 501 ∧ rawPosition 3880 3900 410 = 5 ∧
    rawPosition 3940 3900 410 = -11 ∧ rawPosition 430 3900 410 = 994 := by decide
/-- Section 2.1, cases E to J of the position table. -/
theorem test_positions_e_to_j : rawPosition 40 612 3580 = -192 ∧ rawPosition 461 612 3580 = -50 ∧
    rawPosition 460 612 3580 = -51 ∧ rawPosition 3731 612 3580 = 1050 ∧ rawPosition 3732 612 3580 = 1051 := by decide
/-- Section 2.1: what the margin admits, and the clamp. -/
theorem test_margin : rawInRange (-50) = true ∧ rawInRange (-51) = false ∧ rawInRange 1050 = true ∧
    rawInRange 1051 = false ∧ clampPosition (-11) = 0 ∧ clampPosition 1050 = 1000 := by decide
/-- Section 3.5: the estimates of door 30. -/
theorem test_estimates_close : estimateOf .close 1000 640 12000 = some 21333 ∧
    estimateOf .close 1000 430 24000 = some 18105 ∧ estimateOf .close 1000 150 30000 = some 5294 ∧
    estimateOf .close 1000 1000 106 = none := by decide
/-- Section 3.9: the estimates of door 21, opening from 672. -/
theorem test_estimates_open : estimateOf .opening 672 760 1006 = some 2743 ∧
    estimateOf .opening 672 790 1206 = some 2146 := by decide
/-- Section 3.5: the late-forecast flag of door 30, stroke limit 40,000 ms. -/
theorem test_late_forecast : lateAfter false 24000 40000 (some 18105) = true ∧
    lateAfter true 30000 40000 (some 5294) = false ∧ lateAfter true 200 40000 none = true := by decide
/-- R34: a change is confirmed by the second consecutive reply, and a reply that agrees sets the count to 0. -/
theorem test_debounce : debounce 2 false 0 true = (false, 1) ∧ debounce 2 false 1 true = (true, 0) ∧
    debounce 2 false 1 false = (false, 0) := by decide
/-- R175, R176: the day carries and borrows, and the day count wraps. -/
theorem test_clock_carry : Stamp.next { day := 65535, ms := 86399999 } = { day := 0, ms := 0 } ∧
    Stamp.prev { day := 0, ms := 0 } = { day := 65535, ms := 86399999 } ∧
    Stamp.adjust { day := 4120, ms := 0 } (-86400000) = { day := 4119, ms := 0 } := by decide
/-- R141: 255 is followed by 1. -/
theorem test_round_counter : nextRound 255 = 1 ∧ nextRound 0 = 1 := by decide
/-- Section 6.2, worked sequence, steps 5 and 7: class 0 joins before class 1. -/
theorem test_admission_order :
    (insertEntry { door := 5, direction := .close, cls := 0, cause := .closure, arrival := 308500 }
      [{ door := 4, direction := .close, cls := 0, cause := .closure, arrival := 305500 },
       { door := 8, direction := .close, cls := 1, cause := .localControl, arrival := 300000 },
       { door := 9, direction := .opening, cls := 2, cause := .console 1, arrival := 303000 }]).map
      (fun e => number e.door) = [5, 6, 9, 10] := by decide
/-- R168: a move of 5 permille joins a set, one of 4 does not, and one to an end of the travel does. -/
theorem test_position_joins : positionJoins (some 500) (some 505) = true ∧ positionJoins (some 500) (some 504) = false ∧
    positionJoins (some 3) (some 0) = true ∧ positionJoins none none = true := by decide

/-! ### A small installation -/

/-- An installed, settled door of branch 1 on drop `k + 1`, with the geometry of case A. -/
def someDoor (k : DropId) (st : DoorState) (ind : Indication) (pos : Option Nat) : Door :=
  { Door.powerOn { DoorImage.defaults with installed := true, drop := k, closedCount := 612, openCount := 3580 } with
    state := st, indication := ind, phase := .settled, position := pos
    closedSwitch := ind = .closed, openSwitch := ind = .opened }

/-- A stroke from fully open whose drive was issued at 90,000. -/
def someStroke (dir : Dir) : Stroke :=
  { direction := dir, cause := .console 0, cls := 1, driveIssued := some 90000, startPosition := some 1000
    mark := some { position := 600, instant := 99000 }, estimate := some 15000, lateForecast := false }

/-- An entry for door `i + 1`. -/
def someEntry (i : DoorId) : Entry :=
  { door := i, direction := .close, cls := 1, cause := .localControl, arrival := 99500 }

def putDoor (s : State) (i : DoorId) (d : Door) : State := { s with doors := s.doors.set i d }
def putUnit (s : State) (u : UnitId) (x : PowerUnit) : State := { s with units := s.units.set u x }
def putBranch (s : State) (b : BranchId) (x : Branch) : State := { s with branches := s.branches.set b x }
def putPort (s : State) (p : PortId) (q : Port) : State := { s with ports := s.ports.set p q }

/-- The outputs brought up to date, as R173 keeps them. -/
def inOrder (s : State) : State :=
  { s with outputs := { fault := s.faultOut, closure := s.closureOut, allClosed := s.allClosedOut } }

def unitBase : PowerUnit := PowerUnit.powerOn UnitImage.defaults false
def portBase (r : Role) : Port := { Port.powerOn r with silenceTimer := none }
def branchBase : Branch := { Branch.powerOn BranchImage.defaults with roundTimer := some 100060 }

/-- The doors of the small installation, in the order of their numbers. Zone 3 is held. -/
def benchDoors : List Door :=
  [someDoor 0 .opened .opened (some 1000), someDoor 1 .closed .closed (some 0), someDoor 2 .halted .partly (some 500),
   { someDoor 3 .warning .opened (some 990) with leadIn := some { cause := .console 0, expiry := 105000 } },
   { someDoor 4 .closing .partly (some 600) with
     unit := 1, stroke := some (someStroke .close), lastDriven := some .close },
   { someDoor 5 (.reversing .close) .partly (some 400) with
     unit := 1, stroke := some { someStroke .close with driveIssued := none }, lastDriven := some .opening
     driveOff := some 99900 },
   someDoor 6 (.queued .close) .opened (some 1000),
   { someDoor 7 .recloseWait .opened (some 1000) with zone := 2, reclose := some 110000 },
   { someDoor 8 .halted .partly (some 300) with zone := 2, inService := false, faults := 0x080, unacked := 0x080 },
   { someDoor 9 .unknown .unknown none with phase := .awaiting },
   { someDoor 10 .warning .opened (some 1000) with
     zone := 2, unit := 3, leadIn := some { cause := .closure, expiry := 105000 } },
   { someDoor 0 .unknown .unknown none with branch := 2, phase := .awaiting, faults := 0x002, unacked := 0x002 },
   { someDoor 1 .opened .opened (some 1000) with branch := 1, unit := 2, zone := 4, faults := 0x100, unacked := 0x100 },
   { someDoor 2 .opened .opened (some 1000) with branch := 1, unit := 2, zone := 4 }]

/-- A D48 at 100,000 ms with its lock open: PU1 STARTING with door 7 waiting, PU2 RUNNING with doors 5 and 6 holding
slots, PU3 STOPPED, PU4 FAILED; B3 disabled, B4 without a door; CP1 SILENT, holding zone 3; CP2 a MONITOR port. -/
def bench : State :=
  inOrder { State.reset with
    runCount := 100000
    doors := (benchDoors.zipIdx.foldl (fun v d => v.set! d.2 d.1) State.reset.doors)
    holds := State.reset.holds.setConsole 1 4
    units := ⟨#[{ unitBase with state := .starting, timer := some 103000, list := [someEntry 6] },
                { unitBase with state := .running, holders := [4, 5] }, unitBase,
                { unitBase with state := .failed, attention := true }], rfl⟩
    branches := ⟨#[branchBase, branchBase, { branchBase with enable := false, roundTimer := none }, branchBase], rfl⟩
    ports := ⟨#[portBase .command, { portBase .command with active := false, attention := true },
                portBase .monitor], rfl⟩
    store := { State.reset.store with lockOpen := true, imageFault := false, image := some Image.defaults } }

theorem test_bench : bench.dueEvents = [] ∧ bench.MayInstall 0 ∧ bench.MayOrder 1 ∧ bench.Free 2 ∧ bench.OutputsHold ∧
    bench.FaultsLawful ∧ bench.LinksLawful ∧ ∀ b, (bench.branch b).pendingDirect = none := by decide +kernel

/-! ### One step of each command -/

/-- The state after a command. -/
def after (c : Instr) (s : State) : State :=
  match exec c s with
  | .next t => t
  | _ => s

/-- The entries of the response that a command has added to a port's queue. -/
def answerTo (p : PortId) (c : Instr) (s : State) : Option (List (List Byte)) :=
  (((after c s).port p).queue.getLast?).map fun r => r.entries

/-- R184: the key opens the lock, and an active CLOSE_ALL_IN makes LINE hold every zone. -/
theorem test_power_on : (after (.powerOn true true false 0 false) State.reset).store.lockOpen = true ∧
    (after (.powerOn true true false 0 false) State.reset).holds.line = 0xFFFF#16 := by decide +kernel
/-- The state after a step on an empty queue. -/
def stepped (s : State) : State :=
  match step s with
  | .next t => t
  | _ => s

/-- Section 8.8, worked request: its frame. -/
def workedFrame : State := after (.consoleFrame 1 (requestFrame 1 41 [.marker 1, .delay 2000, .marker 2])) bench

/-- Section 8.8, worked request: the frame's marker is taken, and then the DELAY of 2000 ms waits. -/
theorem test_console_frame :
    ((workedFrame.port 1).request.map fun r => (r.token, r.entries, r.wait)) = some (41, [[4, 0, 0, 0, 0, 1]], none) ∧
    (((stepped workedFrame).port 1).request.map fun r => (r.entries, r.wait)) =
      some ([[4, 0, 0, 0, 0, 1]], some (.delay 102000)) := by decide +kernel
/-- Section 8.8, worked request: request 42 meets request 41 and is answered BUSY. -/
theorem test_console_frame_busy :
    ((after (.consoleFrame 1 (requestFrame 1 42 [])) (after (.delay 1 2000) bench)).port 1).queue =
      [{ token := 42, busy := true, entries := [], carriesRestart := false }] := by decide +kernel
/-- R155: the console receiver's three events. -/
theorem test_console_receiver : ((after (.consoleStartByte 0) bench).port 0).collecting = true ∧
    ((after (.consoleReceiveTimeout 0) (after (.consoleStartByte 0) bench)).port 0).collecting = false ∧
    ((after (.consoleLengthOver256 0) (after (.consoleStartByte 0) bench)).port 0).collecting = false := by decide +kernel
/-- R166, R156: a response goes out, and the silence timer restarts at its end. -/
theorem test_response_out : ((after (.responseSend 0) (after (.marker 0 1) bench)).port 0).queue = [] ∧
    ((after (.responseSent 0) (after (.responseSend 0) (after (.marker 0 1) bench))).port 0).silenceTimer =
      some 110000 := by decide +kernel

/-- CP2 with reports enabled, as in section 9.6: sequence 90, doors 1 to 30 changed. -/
def reporting : State :=
  putPort bench 2 { portBase .monitor with
    reportsEnabled := true, reportSequence := 90, lastReport := some 99750, refreshStart := some 95000
    changed := doorIds.take 30 }

/-- Section 9.6, worked sequence: 24 of 30 doors go, 6 are left. -/
theorem test_report_send : ((after (.reportSend 2) reporting).port 2).changed.map number = [25, 26, 27, 28, 29, 30] ∧
    ((after (.reportSend 2) reporting).port 2).reportSequence = 91 := by decide +kernel
/-- R171: a cycle of 24 doors is absent after its report, and of a cycle of 25 doors the last is left. -/
theorem test_cycle_end : [24, 25].map (fun n => ((after (.reportSend 2) (putPort bench 2 { reporting.port 2 with
    refreshCycle := some (doorIds.take n) })).port 2).refreshCycle.map fun l => l.map number) = [none, some [25]] := by
  decide +kernel
theorem test_report_sent : ((after (.reportSent 2) (after (.reportSend 2) reporting)).port 2).sending = none := by
  decide +kernel
/-- R169: a report that is due already keeps its spacing of 250 ms when 2000 ms are written; the next one has them. -/
theorem test_due_spacing : (let s := after (.setReportSpacing 0 (.port 0) 2000) (putPort bench 0 { portBase .command with
      reportsEnabled := true, changed := [0] })
    ((s.port 0).reportSpacing, (s.port 0).governingSpacing)) = (2000, 250) ∧
    ((after (.setReportSpacing 0 (.port 0) 2000) bench).port 0).governingSpacing = 2000 := by decide +kernel
/-- R171: the refresh period of 5 s has passed, and the cycle holds the 14 installed doors. -/
theorem test_refresh_due : (((after (.refreshDue 2) reporting).port 2).refreshCycle.map List.length) = some 14 := by
  decide +kernel
/-- R156, R173: a silence timeout sets the attention. -/
theorem test_silence : ((after (.silenceTimeout 0)
      (putPort bench 0 { portBase .command with silenceTimer := some 100000 })).port 0).attention = true ∧
    ((after (.silenceTimeout 0) bench).port 0).active = true := by decide +kernel

/-- R190: the defaults of R11 in their order. -/
theorem test_fetch_settings : answerTo 0 (.fetchDoorSettings 0 1) bench = some [[1, 0, 2, 1, 0, 50, 0, 100, 1, 144, 1, 244,
    0, 15, 0, 30, 0, 30, 0, 10, 0, 2, 0, 3]] := by decide +kernel
theorem test_fetch_pending : answerTo 0 (.fetchDoorPending 0 1) bench =
    some [[1, 0, 3, 1] ++ List.replicate 23 0] := by decide +kernel
theorem test_fetch_record_size : ((answerTo 0 (.fetchDoorRecord 0 5) bench).map fun l => l.flatten.length) = some 200 := by
  decide +kernel
/-- R190: zone 5 holds doors 13 (OPEN, event-faulted) and 14 (OPEN). -/
theorem test_fetch_zone : answerTo 2 (.fetchZoneSummary 2 5) bench =
    some [[1, 0, 4, 5, 0, 2, 13, 1, 2, 3, 14, 1, 2, 1]] := by decide +kernel
/-- R190: PU4, FAILED with its attention set. -/
theorem test_fetch_unit : answerTo 0 (.fetchUnit 0 4) bench = some [[1, 0, 5, 4, 5, 2, 0x13, 0x88, 0, 120, 0x07, 0xD0, 2,
    255, 255, 255, 255, 0, 0, 0, 0, 0, 0, 0, 0, 0, 4, 0]] := by decide +kernel
theorem test_fetch_holds : answerTo 0 (.fetchHolds 0) bench =
    some [[1, 0, 6, 0, 0, 0, 0, 4, 0, 0, 0, 0, 0, 0, 0, 4]] := by decide +kernel
theorem test_fetch_clock_size : ((answerTo 0 (.fetchClock 0) bench).map fun l => l.flatten.length) = some 29 := by
  decide +kernel
theorem test_fetch_port : ((answerTo 0 (.fetchPortStatus 0 1) bench).map fun l => l.flatten.take 7) =
    some [1, 0, 8, 1, 0, 10, 1] := by decide +kernel
theorem test_fetch_identity : answerTo 0 (.fetchIdentity 0) bench =
    some [[1, 0, 9, 0] ++ List.replicate 16 0 ++ [1]] := by decide +kernel

/-- Section 1.4, worked sequence, step 4: WARNING with a lead-in of 5.0 s. -/
theorem test_close : ((after (.close 0 (.door 1)) bench).door 0).state = .warning ∧
    ((after (.close 0 (.door 1)) bench).door 0).leadIn = some { cause := .console 0, expiry := 105000 } := by
  decide +kernel
/-- R96, R97: in zone 5 door 13 is event-faulted, door 14 takes the order. -/
theorem test_close_zone : answerTo 0 (.close 0 (.zone 5)) bench = some [[2, 6, 0, 1]] := by decide +kernel
/-- Section 6.2, worked sequence, step 4: a class 2 entry joins behind class 1. -/
theorem test_open : ((after (.openDoor 0 (.door 2)) bench).door 1).state = .queued .opening ∧
    (((after (.openDoor 0 (.door 2)) bench).unit 0).list.map fun e => (number e.door, e.cls)) = [(7, 1), (2, 2)] := by
  decide +kernel
/-- R99: a lead-in is cancelled; in a held zone STOP is REFUSED_MODE. -/
theorem test_stop : ((after (.stop 0 (.door 4)) bench).door 3).state = .opened ∧
    answerTo 0 (.stop 0 (.door 11)) bench = some [[2, 5, 0, 0]] := by decide +kernel
/-- PU2 with both its slots held by doors 5 and 6, and doors 7 and 1 waiting in its list. -/
def crowded : State :=
  let s := putDoor (putDoor bench 6 { bench.door 6 with unit := 1 }) 0 { bench.door 0 with unit := 1, state := .queued .close }
  inOrder (putUnit (putUnit s 0 unitBase) 1 { s.unit 1 with list := [someEntry 6, someEntry 0] })

/-- R128: the slot that a STOP frees goes to the head of the list. -/
theorem test_stop_frees_slot : (let s := after (.stop 0 (.door 5)) crowded
    ((s.unit 1).holders.map number, (s.unit 1).list.map fun e => number e.door, (s.door 6).state, (s.door 0).state)) =
      ([6, 7], [1], .closing, .queued .close) := by decide +kernel
theorem test_service : ((after (.service 0 (.door 1) 0) bench).door 0).inService = false ∧
    answerTo 0 (.service 0 (.door 9) 0) bench = some [[2, 5, 0, 0]] := by decide +kernel
/-- Section 4.9, worked sequence, step 1: an OPEN door of a zone that becomes held. -/
theorem test_hold_zones : ((after (.holdZones 0 (.zoneSet 1)) bench).door 0).leadIn =
      some { cause := .closure, expiry := 105000 } ∧
    (after (.holdZones 0 (.zoneSet 1)) bench).holds.union = 5#16 := by decide +kernel
/-- Section 4.9, worked sequence, step 2: a MONITOR port is refused. -/
theorem test_hold_zones_monitor : answerTo 2 (.holdZones 2 (.zoneSet 1)) bench = some [[2, 4, 0, 0]] := by decide +kernel
theorem test_release_zones : ((after (.releaseZones 1 (.zoneSet 4)) bench).door 7).state = .opened ∧
    (after (.releaseZones 1 (.zoneSet 4)) bench).outputs.closure = false := by decide +kernel
/-- Section 4.9, worked sequence, steps 8 and 11: an ACTIVE port's set stays, a SILENT port's set goes. -/
theorem test_release_foreign : answerTo 1 (.releaseForeign 1 (.holder 0)) bench = some [[2, 6, 0, 0]] ∧
    (after (.releaseForeign 0 (.holder 1)) bench).holds.union = 0#16 := by decide +kernel
theorem test_reset_faults : ((after (.resetFaults 0 (.door 13)) bench).door 12).faults = 0#12 ∧
    ((after (.resetFaults 0 (.door 9)) bench).door 8).faults = 0x080#12 := by decide +kernel
/-- Section 1.4, worked sequence, steps 3 and 6: a value staged under the hold is applied when it goes off. -/
theorem test_settings_hold :
    ((after (.setDeadTime 0 (.door 1) 2500) (after (.settingsHold 0 1) bench)).door 0).pending.deadTime = some 2000 ∧
    ((after (.settingsHold 0 0) (after (.setDeadTime 0 (.door 1) 2500) (after (.settingsHold 0 1) bench))).door
      0).settings.deadTime = 2000 := by decide +kernel
theorem test_signal_test : ((after (.signalTest 0 (.door 1)) bench).door 0).test = some 103000 ∧
    ((after (.signalTest 0 (.door 1)) bench).signalCommand 0).beacon = .flash := by decide +kernel
/-- R107: the rows of its table on doors 4 and 5, on CUT_OFF in held zone 3 and in a free zone, and on a tail; R146 and
R110: CUT_OFF in the held zone with LINK_LOST, the same during a signal test, and with BRANCH_OFF. -/
theorem test_beacon : ([bench, putDoor bench 7 { bench.door 7 with faults := 0x800 },
      putDoor bench 7 { bench.door 7 with faults := 0x800, zone := 0 },
      putDoor bench 7 { bench.door 7 with tail := some 100001 }].map fun s => (s.signalCommand 7).beacon) =
      [.off, .steady, .off, .steady] ∧
    ([{ bench.door 7 with faults := 0x801 }, { bench.door 7 with faults := 0x801, test := some 100001 },
      { bench.door 7 with faults := 0x802 }].map fun d => ((putDoor bench 7 d).signalCommand 7).beacon) =
      [.off, .flash, .off] ∧
    (bench.signalCommand 3).beacon = .flash ∧ (bench.signalCommand 4).beacon = .flash := by decide +kernel
theorem test_reset_unit : ((after (.resetUnit 0 (.unit 4)) bench).unit 3).state = .stopped := by decide +kernel
theorem test_ack : ((after (.ack 0 (.door 13)) bench).door 12).unacked = 0#12 ∧
    ((after (.ack 0 (.door 13)) bench).door 12).faults = 0x100#12 := by decide +kernel
theorem test_ack_port_unit : ((after (.ackPort 0 (.port 1)) bench).port 1).attention = false ∧
    ((after (.ackUnit 0 (.unit 4)) bench).unit 3).attention = false := by decide +kernel

/-- Section 10.4, worked sequence: the armed load is taken at the edge, and the time before it is captured. -/
theorem test_clock_sequence :
    (after .syncInEdge { after (.clockArm 0 4120 43260000) (after (.clockLoad 0 4120 43199000) bench) with
      clock := { (after (.clockArm 0 4120 43260000) bench).clock with time := { day := 4120, ms := 43259940 } } }).clock =
      { time := { day := 4120, ms := 43260000 }, trimInterval := 0, trimForward := true, trimTimer := none
        capture := some { day := 4120, ms := 43259940 }, armed := none } := by decide +kernel
/-- R177: of two edges in one ms the second is none, and an input that a power-on finds active gives an edge only after
a millisecond in which it is inactive. -/
theorem test_sync_edge : (let s := after .syncInEdge { bench with clock := { bench.clock with time := { day := 7, ms := 5 } } }
     (after .syncInEdge { s with clock := { s.clock with capture := none } }).clock.capture) = none ∧
    (let s := after (.powerOn true false false 0 true) bench
     ((after .syncInEdge s).clock.capture, (after .syncInEdge s.tick).clock.capture)) =
      (none, some { day := 0, ms := 1 }) := by decide +kernel
theorem test_clock_load : (after (.clockLoad 0 4120 43199000) bench).clock.time = { day := 4120, ms := 43199000 } ∧
    answerTo 0 (.clockLoad 0 0 86400000) bench = some [[2, 2, 0, 0]] := by decide +kernel
theorem test_clock_adjust : (after (.clockAdjust 0 (-1)) bench).clock.time = { day := 65535, ms := 86399999 } := by
  decide +kernel
theorem test_clock_disarm : (after (.clockDisarm 0) (after (.clockArm 0 1 1) bench)).clock.armed = none := by decide +kernel
/-- Section 11.5, worked sequence: RESTART during a save, and SAVE while a restart is pending. -/
theorem test_save_restart : answerTo 1 (.restart 1) (after (.save 0) bench) = some [[2, 6, 0, 0]] ∧
    answerTo 0 (.save 0) (after (.restart 1) bench) = some [[2, 6, 0, 0]] ∧
    (after (.save 0) bench).store.saving.map (fun v => v.completion) = some 100400 := by decide +kernel
/-- Section 11.5, worked sequence: an installation SET with the lock closed. -/
theorem test_lock : answerTo 0 (.setInstalled 0 (.door 40) 1) (after (.lock 0) bench) = some [[3, 3, 0, 0]] := by
  decide +kernel
theorem test_save_completion : (after .saveCompletion { after (.save 0) bench with runCount := 100400 }).store.saving =
    none ∧ (after .lossOfSupply (after (.save 0) bench)).store.image = none := by decide +kernel
theorem test_marker : answerTo 0 (.marker 0 0xC0DE0102#32) bench = some [[4, 0, 0xC0, 0xDE, 0x01, 0x02]] := by
  decide +kernel
theorem test_delay : answerTo 0 (.delay 0 5001) bench = some [[5, 14, 0, 0]] ∧
    answerTo 1 (.delayExpiry 1) { after (.delay 1 2000) bench with runCount := 102000 } = some [[5, 0, 0, 0]] := by
  decide +kernel
/-- R150: drop 1 of B1 is taken; drop 12 has no door. -/
theorem test_direct : ((after (.direct 0 1 1 1) bench).branch 0).pendingDirect =
      some { drop := 0, kind := .ident, port := 0 } ∧
    answerTo 0 (.direct 0 1 12 2) bench = some [[6, 10, 1, 12, 2, 0, 0, 0, 0, 0, 0, 0, 0]] := by decide +kernel

/-- R17: a zone without an installed door is answered OK, whatever the value; R12: one with a door CLAMPED. -/
theorem test_empty_zone : answerTo 0 (.setLeadInTime 0 (.zone 16) 0) bench = some [[3, 0, 0, 0]] ∧
    answerTo 0 (.setLeadInTime 0 (.zone 1) 0) bench = some [[3, 1, 0, 0]] := by decide +kernel
/-- R12: below and above the ranges of R11. -/
theorem test_operational_low : ∀ x ∈ [(Instr.setLeadInTime 0 (.door 1) 19, OpSetting.leadInTime, 20),
    (.setRecloseDelay 0 (.door 1) 29, .recloseDelay, 30), (.setStrokeLimit 0 (.door 1) 99, .strokeLimit, 100),
    (.setDeadTime 0 (.door 1) 199, .deadTime, 200), (.setClosedBand 0 (.door 1) 4, .closedBand, 5)],
    (((after x.1 bench).door 0).settings.get x.2.1, answerTo 0 x.1 bench) = (x.2.2, some [[3, 1, 0, 0]]) := by
  decide +kernel
theorem test_operational_high : ∀ x ∈ [(Instr.setOpenBand 0 (.zone 1) 81, OpSetting.openBand, 80),
    (.setStallWindow 0 .all 101, .stallWindow, 100), (.setStallDelta 0 .all 51, .stallDelta, 50),
    (.setConfirmCount 0 .all 5, .confirmCount, 4), (.setTailTime 0 .all 11, .tailTime, 10)],
    (((after x.1 bench).door 0).settings.get x.2.1, answerTo 0 x.1 bench) = (x.2.2, some [[3, 1, 0, 0]]) := by
  decide +kernel
/-- R6, R8: door 40 takes a free pair; door 1's pair is not free for it. -/
theorem test_installed :
    ((after (.setInstalled 0 (.door 40) 1) (after (.setDrop 0 (.door 40) 12) bench)).door 39).installed = true ∧
    answerTo 0 (.setInstalled 0 (.door 40) 1) bench = some [[3, 2, 0, 0]] := by decide +kernel
/-- R10: a moved door becomes UNKNOWN; B3 is disabled, so that BRANCH_OFF is raised. -/
theorem test_branch_drop : ((after (.setBranch 0 (.door 1) 4) bench).door 0).state = .unknown ∧
    ((after (.setBranch 0 (.door 2) 3) bench).door 1).faults = 0x002#12 ∧
    ((after (.setDrop 0 (.door 1) 12) bench).door 0).drop = 11 := by decide +kernel
/-- R10, R87: an OPEN door moved into held zone 3. -/
theorem test_zone_unit : ((after (.setZone 0 (.door 1) 3) bench).door 0).state = .warning ∧
    ((after (.setUnit 0 (.door 1) 4) bench).door 0).unit = 3 ∧
    answerTo 0 (.setUnit 0 (.door 5) 4) bench = some [[3, 6, 0, 0]] := by decide +kernel
/-- R6: counts 200 apart are a geometry, counts 199 apart are none. -/
theorem test_geometry_label : ((after (.setGeometry 0 (.door 1) 300 100) bench).door 0).openCount = 100 ∧
    answerTo 0 (.setGeometry 0 (.door 1) 299 100) bench = some [[3, 2, 0, 0]] ∧
    answerTo 0 (.setLabel 0 (.door 1) (List.replicate 9 0x41)) bench = some [[3, 2, 0, 0]] := by decide +kernel
theorem test_unit_settings : ((after (.setSlotLimit 0 (.unit 3) 8) bench).unit 2).slotLimit = 8 ∧
    answerTo 0 (.setSlotLimit 0 (.unit 1) 8) bench = some [[3, 6, 0, 0]] ∧
    ((after (.setStartTime 0 (.unit 1) 500) bench).unit 0).startTime = 500 ∧
    ((after (.setHoldoff 0 (.unit 1) 600) bench).unit 0).holdoff = 600 ∧
    ((after (.setAgeTime 0 (.unit 1) 0) bench).unit 0).ageTime = 0 ∧
    ((after (.setUrgentCount 0 (.unit 1) 8) bench).unit 0).urgentCount = 8 := by decide +kernel
theorem test_branch_settings : ((after (.setEnable 0 (.branch 1) 0) bench).door 1).faults = 0x002#12 ∧
    ((after (.setEnable 0 (.branch 3) 1) bench).branch 2).roundTimer = some 100100 ∧
    ((after (.setRoundPeriod 0 (.branch 1) 50) bench).branch 0).roundPeriod = 50 ∧
    ((after (.setReplyTimeout 0 (.branch 1) 50) bench).branch 0).replyTimeout = 50 ∧
    ((after (.setLostThreshold 0 (.branch 1) 8) bench).branch 0).lostThreshold = 8 := by decide +kernel
/-- R83, R161: CP1's own set holds a zone, so that it stays a COMMAND port. -/
theorem test_port_settings : answerTo 0 (.setPortRole 0 (.port 1) 1) bench = some [[3, 6, 0, 0]] ∧
    ((after (.setPortRole 0 (.port 2) 0) bench).port 2).role = .command ∧
    ((after (.setSilenceTime 0 (.port 0) 1) bench).port 0).silenceTime = 2 ∧
    ((after (.setReportSpacing 0 (.port 0) 2001) bench).port 0).reportSpacing = 2000 ∧
    ((after (.setRefreshPeriod 0 (.port 0) 0) bench).port 0).refreshPeriod = 1 ∧
    ((after (.setReportsEnabled 2 (.port 2) 1) bench).port 2).changed.length = 14 := by decide +kernel
theorem test_device_settings : (after (.setStartClosed 0 .device 1) bench).store.startClosed = true ∧
    (after (.setFaultAlarmMask 0 .device 0x100) bench).store.alarmMask = 0x100#12 ∧
    answerTo 0 (.setVesselIdentity 0 .device [0x43]) (after (.setVesselIdentity 0 .device [0x42]) bench) =
      some [[3, 3, 0, 0]] := by decide +kernel
/-- Section 10.4, worked sequence: the first trim step is due 20 s after the SET. -/
theorem test_trim : (after (.setClockTrim 0 .device 20 0xFF) bench).clock.trimTimer = some 120000 ∧
    (after .trimStep { after (.setClockTrim 0 .device 20 0xFF) bench with runCount := 120000 }).clock.time =
      { day := 65535, ms := 86399999 } := by decide +kernel

/-- A reply frame of drop `drop + 1`, written out field by field (section 12.6). -/
def stationBytes (drop : DropId) (echo status : Byte) (count : Nat) (data : List Byte) : List Byte :=
  0x3C :: ([byteOf (number drop), echo, status] ++ bytesOf 2 count ++ [byteOf data.length] ++ data) ++
    crcBytes ([byteOf (number drop), echo, status] ++ bytesOf 2 count ++ [byteOf data.length] ++ data)

/-- A reply frame of drop `drop + 1` to a regular poll of sequence 7. -/
def replyBytes (drop : DropId) (status : Byte) (count : Nat) : List Byte := stationBytes drop 7 status count []

/-- The last regular poll of a round of B1 is in flight to a drop. -/
def polling (s : State) (d : DropId) : State :=
  putBranch s 0 { branchBase with exchange := some { drop := d, kind := .regular, sequence := 7, deadline := 100000 } }

/-- Door 5 with its closed switch debounced. -/
def nearlyClosed : State := putDoor bench 4 { bench.door 4 with closedSwitch := true }

/-- Section 7.7, worked sequence: at 100,060 the lowest drop of B1 is polled. -/
theorem test_round_timer : ((after (.roundTimerExpiry 0) { bench with runCount := 100060 }).branch 0).exchange =
      some { drop := 0, kind := .regular, sequence := 0, deadline := 100070 } ∧
    ((after (.roundTimerExpiry 3) { bench with runCount := 100060 }).branch 3).roundCounter = 1 := by decide +kernel
/-- R64: door 5 reaches CLOSED at position 10 after 10,000 ms, and frees its slot. -/
theorem test_reply_completes :
    ((after (.stationReplyFrame 0 (replyBytes 4 1 642)) (polling nearlyClosed 4)).door 4).state = .closed ∧
    ((after (.stationReplyFrame 0 (replyBytes 4 1 642)) (polling nearlyClosed 4)).door 4).lastStrokeTime = some 10000 ∧
    ((after (.stationReplyFrame 0 (replyBytes 4 1 642)) (polling nearlyClosed 4)).unit 1).holders = [5] ∧
    ((after (.stationReplyFrame 0 (replyBytes 4 1 642)) (polling nearlyClosed 4)).door 4).tail = some 103000 := by
  decide +kernel
/-- Section 2.1, case E: out of range, the position is kept. -/
theorem test_reply_out_of_range :
    ((after (.stationReplyFrame 0 (replyBytes 0 2 40)) (polling bench 0)).door 0).faults = 0x010#12 ∧
    ((after (.stationReplyFrame 0 (replyBytes 0 2 40)) (polling bench 0)).door 0).position = some 1000 := by
  decide +kernel
/-- Drop 3 of B1 is polled, and the frames of two exchanges that were broken off have not come. -/
def brokenOff : State := putBranch bench 0 { branchBase with
  exchange := some { drop := 2, kind := .regular, sequence := 7, deadline := 100010 }, broken := [(0, 3), (1, 7)] }

/-- R147, R149, R152: a late frame of either is discarded and the exchange in flight stays; the second late frame of one
is a miss (R143). -/
theorem test_broken_frames : (let s := after (.stationReplyFrame 0 (stationBytes 0 3 2 3550 [])) brokenOff
    ((s.branch 0).broken, decide ((s.branch 0).exchange = (brokenOff.branch 0).exchange), (s.link 0 2).missCount)) =
      ([(1, 7)], true, 0) ∧
    (let s := after (.stationReplyFrame 0 (stationBytes 0 3 2 3550 []))
        (after (.stationReplyFrame 0 (stationBytes 0 3 2 3550 [])) brokenOff)
     ((s.branch 0).broken, (s.branch 0).exchange, (s.link 0 2).missCount)) = ([(1, 7)], none, 1) ∧
    ((after (.setEnable 0 (.branch 1) 0) brokenOff).branch 0).broken = [(0, 3), (1, 7), (2, 7)] := by decide +kernel
/-- R145: a miss counts; the third in a row makes the drop LOST. -/
theorem test_reply_deadline : ((after (.replyDeadline 0) (polling bench 0)).link 0 0).missCount = 1 ∧
    ((after (.replyDeadline 0) (putBranch bench 0 { branchBase with
      exchange := some { drop := 0, kind := .regular, sequence := 7, deadline := 100000 }
      drops := branchBase.drops.set 0 { missCount := 2, lost := false } })).door 0).faults = 0x001#12 := by decide +kernel
/-- R70, R128, R145: door 5 is lost while it closes, and door 7 takes its slot. -/
theorem test_loss_frees_slot : (let s := after (.replyDeadline 0) (putBranch crowded 0 { branchBase with
      exchange := some { drop := 4, kind := .regular, sequence := 7, deadline := 100000 }
      drops := branchBase.drops.set 4 { missCount := 2, lost := false } })
    ((s.door 4).state, (s.door 4).faults, (s.unit 1).holders.map number, (s.door 6).state)) =
      (.unknown, 0x001#12, [6, 7], .closing) := by decide +kernel
theorem test_branch_receiver : ((after (.branchStartByte 1) bench).branch 1).collecting = true ∧
    ((after (.branchReceiveTimeout 1) (after (.branchStartByte 1) bench)).branch 1).collecting = false ∧
    ((after (.branchDataLengthOver8 1) (after (.branchStartByte 1) bench)).branch 1).collecting = false := by
  decide +kernel
/-- Section 3.9, worked sequence: the reversal instant is 500 ms after the drive went off. -/
theorem test_reversal : ((after (.reversalInstant 5) { bench with runCount := 100399 }).door 5).state =
      .reversing .close ∧
    ((after (.reversalInstant 5) { bench with runCount := 100400 }).door 5).state = .closing := by decide +kernel
/-- R105, R121: a lead-in of cause CONSOLE asks with class 1, behind door 7. -/
theorem test_lead_in : (((after (.leadInExpiry 3) { bench with runCount := 105000 }).unit 0).list.map fun e =>
      (number e.door, e.cls)) = [(7, 1), (4, 1)] ∧
    ((after (.leadInExpiry 10) { bench with runCount := 105000 }).door 10).faults = 0x400#12 := by decide +kernel
/-- Section 5.7, worked sequence: the reclose timer starts a lead-in of 5.0 s. -/
theorem test_reclose : ((after (.recloseTimerExpiry 7) { bench with runCount := 110000 }).door 7).leadIn =
    some { cause := .reclose, expiry := 115000 } := by decide +kernel
theorem test_tail_and_test :
    ((after (.tailExpiry 1) (putDoor bench 1 { bench.door 1 with tail := some 100000 })).door 1).tail = none ∧
    ((after (.signalTestExpiry 1) (putDoor bench 1 { bench.door 1 with test := some 100001 })).door 1).test =
      some 100001 := by decide +kernel
/-- Section 6.2, worked sequence, step 3: the age timer starts the unit. -/
theorem test_age_timer : ((after (.ageTimerExpiry 2) (putUnit bench 2 { unitBase with
    state := .gathering, timer := some 100000, list := [someEntry 6] })).unit 2).timer = some 105000 := by decide +kernel
/-- Section 6.2, worked sequence, step 6: the unit runs and its first door is admitted. -/
theorem test_start_timer : ((after (.startTimerExpiry 0) { bench with runCount := 103000 }).unit 0).holders = [6] ∧
    ((after (.startTimerExpiry 0) { bench with runCount := 103000 }).door 6).state = .closing := by decide +kernel
/-- PU3, at the end of its start time, with doors 14, 2 and 3 waiting in classes 0, 1 and 2. -/
def manyWaiting : State :=
  let s := [(13 : DoorId), 1, 2].foldl (fun s i => putDoor s i { bench.door i with unit := 2, state := .queued .close }) bench
  inOrder (putUnit s 2 { unitBase with
    state := .starting, timer := some 100000
    list := [{ someEntry 13 with cls := 0 }, someEntry 1, { someEntry 2 with cls := 2 }] })

/-- R125, R126: two slots go to the head of the list in its order, and none under an active cutoff. -/
theorem test_start_timer_list :
    (let s := after (.startTimerExpiry 2) manyWaiting
     ((s.unit 2).holders.map number, (s.unit 2).list.map fun e => number e.door)) = ([2, 14], [3]) ∧
    (let s := after (.startTimerExpiry 2) { manyWaiting with cutoff := Input.sampled true }
     ((s.unit 2).state, (s.unit 2).holders, (s.unit 2).list.length)) = (.running, [], 3) := by decide +kernel
theorem test_holdoff_timer : ((after (.holdoffTimerExpiry 2) (putUnit bench 2 { unitBase with
    state := .idling, timer := some 100000 })).unit 2).state = .stopped := by decide +kernel
/-- R130, R131: a RUNNING unit fails, and its slot holders are cut. -/
theorem test_press_low : ((after (.pressLowChange 1 true) bench).unit 1).state = .failed ∧
    ((after (.pressLowChange 1 true) bench).door 4).faults = 0x400#12 ∧
    ((after (.pressLowChange 2 true) bench).unit 2).state = .stopped := by decide +kernel
/-- R135: doors 5 and 6 are cut, door 7 stays QUEUED. -/
theorem test_cutoff : ((after .driveCutoffActive bench).door 5).faults = 0x800#12 ∧
    ((after .driveCutoffActive bench).door 6).state = .queued .close ∧
    (after .driveCutoffRelease (after .driveCutoffActive bench)).cutoff.value = false := by decide +kernel
theorem test_close_all : (after (.closeAllChange true) bench).holds.line = 0xFFFF#16 ∧
    ((after (.closeAllChange true) bench).door 0).state = .warning := by decide +kernel

/-! ### Witnesses: states and operands that meet the hypotheses of the statements -/

theorem forall_some {α : Type} {p : α → Prop} {o : Option α} {a : α} (h : o = some a) (ha : p a) :
    ∀ e, o = some e → p e := fun _ he => Option.some.inj (h.symm.trans he) ▸ ha

theorem forall_none {α : Type} {p : α → Prop} {o : Option α} (h : o = none) : ∀ e, o = some e → p e := fun _ he =>
  nomatch h.symm.trans he

/-- A step with an empty queue answers a next state. -/
theorem step_idles (s : State) (h : s.pending = []) : ∃ t, step s = .next t := ⟨s.idle, by simp [step, h]⟩

theorem witness_StepTakesFrontCommand :
    ({ bench with pending := [.save 0, .lock 0] } : State).pending = .save 0 :: [.lock 0] := rfl

/-- CP0 has a request of three items, its second one standing next; the schedule gives it the next step. -/
def going (it : Item) (entries : List (List Byte)) : State :=
  putPort bench 0 { portBase .command with
    request := some { token := 9, items := [.marker 1, it, .marker 2], index := 1, entries := entries, wait := none } }

/-- A state with one command waiting. -/
def withFront (c : Instr) (s : State) : State := { s with pending := [c] }

/-- Door 5 has been turned to open. -/
def turnedOpen : State := after (.openDoor 0 (.door 5)) bench

/-- A door with local open held, in held zone 3. -/
def held (d : Door) : Door := { d with zone := 2, localOpen := true }

/-- A pressure input, the close-all input and the cutoff as `n + 1` samples from 100,000 on leave `x`. -/
def sampling (x : Input) (n : Nat) : State :=
  let y := x.sampledFrom 100000 (n + 1)
  putUnit { bench with runCount := 100000 + n, closeAll := y, cutoff := y } 0 { bench.unit 0 with pressLow := y }

/-- R174: a level that holds for 50 ms after its first sample is taken, not before; a cutoff acts at once; and a sample
of the old level ends the wait. -/
theorem test_samples :
    ([(true, 0), (true, 49), (true, 50), (false, 49), (false, 50)].map fun x =>
      (sampling { line := x.1, value := !x.1, since := none } x.2).dueEvents.filter fun c => c ∈
        [.pressLowChange 0 x.1, .closeAllChange x.1, .driveCutoffActive, .driveCutoffRelease]) =
      [[.driveCutoffActive], [.driveCutoffActive], [.pressLowChange 0 true, .driveCutoffActive, .closeAllChange true], [],
       [.pressLowChange 0 false, .driveCutoffRelease, .closeAllChange false]] ∧
    ({ line := false, value := false, since := some 100000 } : Input).sample 100049 = Input.sampled false := by decide +kernel

theorem witness_IdleStepsTakeWhatMayBeTaken :
    (bench.pending = [] ∧ bench.powered = true ∧ (∀ p, (bench.port p).ready = false) ∧ bench.dueEvents = []) ∧
    (let s : State := { bench with runCount := 105000 }
     s.pending = [] ∧ s.powered = true ∧ s.dueEvents ≠ []) ∧
    (let s := going (.marker 7) []
     s.pending = [] ∧ s.powered = true ∧ (s.port 0).ready = true) ∧
    (∃ t, exec (.powerOn true true true 15 true) bench = .next t) ∧
    ((∀ k a o l y, Instr.trimStep ≠ .powerOn k a o l y) ∧ ∃ t, exec .trimStep bench = .next t) ∧
    ∀ l ∈ [false, true], ∀ n ∈ [0, 49, 50],
      let s := sampling { line := l, value := !l, since := none } n
      let y := Input.sampledFrom { line := l, value := !l, since := none } 100000 (n + 1)
      s.powered = true ∧ s.runCount = 100000 + n ∧ y = (s.unit 0).pressLow ∧ y = s.closeAll ∧ y = s.cutoff :=
  ⟨by decide +kernel, by decide +kernel, by decide +kernel, ⟨_, rfl⟩, ⟨by simp, ⟨_, rfl⟩⟩, by decide +kernel⟩

/-- Of the events of the bench, those of its timers are due when their instants have come, and no other. -/
theorem test_due_events : ({ bench with runCount := 100400 } : State).dueEvents =
    [.roundTimerExpiry 0, .roundTimerExpiry 1, .roundTimerExpiry 3, .reversalInstant 5] := by decide +kernel

theorem witness_StepKeepsFaultsClockAndBranchRanges : bench.FaultsLawful ∧ bench.ClockLawful ∧ bench.LinksLawful ∧
    ∃ t, step bench = .next t :=
  ⟨by decide +kernel, ⟨by decide +kernel, forall_none (by decide +kernel), forall_none (by decide +kernel)⟩,
    by decide +kernel, step_idles _ (by decide +kernel)⟩

theorem witness_StepKeepsStrokesSlotsAndEntries : bench.AdmissionLawful ∧ bench.MotionLawful ∧
    ((bench.unit 1).holders ≠ [] ∧ (bench.unit 0).list ≠ []) ∧ (∃ t, step bench = .next t) ∧
    ∃ t, step (withFront (.powerOn true false false 0 false) bench) = .next t :=
  ⟨by decide +kernel, ⟨by decide +kernel, by decide +kernel, by decide +kernel⟩, by decide +kernel,
    step_idles _ (by decide +kernel), ⟨_, rfl⟩⟩

/-- R51, R83, R89, R102: the invariant fails of a held door that opens with no local open held, of a lead-in or a reclose
timer without its state, and of a MONITOR port that holds. -/
theorem test_motion_lawful : (turnedOpen.door 4).Lawful false ∧ ¬(turnedOpen.door 4).Lawful true ∧
    (held (turnedOpen.door 4)).Lawful true ∧ ¬{ bench.door 0 with leadIn := (bench.door 3).leadIn }.Lawful false ∧
    ¬{ bench.door 0 with reclose := some 0 }.Lawful true ∧ ¬(bench.door 7).Lawful false ∧
    ((bench.port 2).role = .monitor ∧ (bench.holds.setConsole 2 1).console[(2 : PortId)] ≠ 0) := by
  and_intros <;> decide +kernel

theorem witness_StepKeepsPairsDistinct : bench.PairsLawful ∧ ∃ t, step bench = .next t :=
  ⟨⟨by decide +kernel, forall_some (a := Image.defaults) (by decide +kernel) (by decide +kernel),
    forall_none (by decide +kernel)⟩, step_idles _ (by decide +kernel)⟩

theorem witness_StepKeepsCutoffLawful : (after .driveCutoffActive bench).CutoffLawful ∧
    (after .driveCutoffActive bench).cutoff.value = true ∧ ∃ t, step (after .driveCutoffActive bench) = .next t :=
  ⟨by decide +kernel, by decide +kernel, step_idles _ (by decide +kernel)⟩

theorem witness_LockOpensOnlyAtPowerOn : State.reset.store.lockOpen = false ∧
    (∃ t, step (withFront (.powerOn true false false 0 false) State.reset) = .next t) ∧
    (stepped (withFront (.powerOn true false false 0 false) State.reset)).store.lockOpen = true ∧
    (let s := after (.lock 0) bench
     s.store.lockOpen = false ∧ (∃ t, step s = .next t) ∧ ∀ k a o l y rest, s.pending ≠ .powerOn k a o l y :: rest) ∧
    ((going (.set (.installed 0) (.door 1)) []).choice = some (.item 0) ∧
      ∃ t, step (going (.set (.installed 0) (.door 1)) []) = .next t) :=
  ⟨rfl, ⟨_, rfl⟩, by decide +kernel,
    ⟨by decide +kernel, step_idles _ (by decide +kernel),
      by simp [show (after (.lock 0) bench).pending = [] from by decide +kernel]⟩,
    by decide +kernel, step_idles _ (by decide +kernel)⟩

theorem witness_HoldersKeepTheirSets : (∃ t, step (withFront (.holdZones 0 (.zoneSet 1)) bench) = .next t) ∧
    (∀ a rest, (withFront (.holdZones 0 (.zoneSet 1)) bench).pending ≠ .closeAllChange a :: rest) ∧
    (∃ t, step (withFront (.closeAllChange true) bench) = .next t) ∧
    bench.powered = true ∧ bench.closeAll.value ≠ true ∧ (∀ p, (bench.port p).role = .monitor → bench.holds.console[p] = 0) ∧
    (∀ k a o l y rest, (withFront (.holdZones 0 (.zoneSet 1)) bench).pending ≠ .powerOn k a o l y :: rest) ∧
    ∃ t, step (going (.order .holdZones (.zoneSet 1)) []) = .next t :=
  ⟨⟨_, rfl⟩, by simp [withFront], ⟨_, rfl⟩, by decide +kernel, by decide +kernel, by decide +kernel,
    by simp [withFront], step_idles _ (by decide +kernel)⟩

theorem witness_ItemsAndFramesReadBackAsWritten : (∀ it ∈ [Item.fetch .identity 255,
      .order (.clockAdjust (-2147483648)) (.other 255 65535), .set (.clockTrim 65535 0xFF) (.zoneSet 0xFFFF),
      .set (.label (List.replicate 255 0x41)) (.door 65535), .marker 0xFFFFFFFF, .delay 65535, .direct 255 255 255],
      it.wellFormed = true) ∧
    ((List.replicate 32 (Item.delay 0)).length ≤ 32 ∧ 65535 < 65536 ∧
      (∀ it ∈ List.replicate 32 (Item.delay 0), it.wellFormed = true) ∧
      (requestFrame 1 65535 (List.replicate 32 (Item.delay 0))).length ≤ 256 ∧ (0 : PortId) ≠ 1) := by decide +kernel

theorem witness_StationFramesAreLaidOut :
    CommandFrame.sequence { drop := 11, kind := .ident, sequence := 15, drive := some .close
                            signals := { sounder := true, beacon := .flash, lamp := true } } < 16 ∧
    (List.replicate 8 (0xFF : Byte)).length ≤ 8 := by decide

/-- CP0 with one response waiting and one being sent. -/
def twoResponses : State :=
  putPort bench 0 { portBase .command with queue := [responseOf []], sending := some (.response (responseOf [])) }

theorem witness_ResponsesAndReportsAreLaidOut :
    (let r : Response := { token := 65535, busy := false, entries := List.replicate 23 (List.replicate 44 0)
                           carriesRestart := false }
     r.entries.length < 256 ∧ r.entries.flatten.length = 1012) ∧
    (let w : Report := { reporting.reportNow 2 with sequence := 255 }
     w.sequence < 256 ∧ w.summary.length = 26 ∧ w.entries.length = 24 ∧ ∀ e ∈ w.entries, e.length = 10) ∧
    ((twoResponses.port 0).sending = some (.response (responseOf [])) ∧
      ((after (.reportSend 2) reporting).port 2).sending = some (.report (reporting.reportNow 2))) := by decide +kernel

/-- Door 1 with its two stamps, and a clock with a capture and an armed load. -/
def stamped : State :=
  { putDoor bench 0 { bench.door 0 with lastClosed := some { day := 1, ms := 2 }, lastFault := some { day := 3, ms := 4 } } with
    clock := { bench.clock with capture := some { day := 5, ms := 6 }, armed := some { day := 7, ms := 8 } } }

theorem witness_FetchEntriesAreLaidOut : (∀ x ∈ [(FetchObject.doorRecord, 48), (.doorSettings, 1), (.doorPending, 48),
      (.zoneSummary, 16), (.unit, 4), (.holds, 255), (.clock, 0), (.portStatus, 2), (.identity, 9)],
      fetchMalformed x.1 x.2 = false) ∧
    ((bench.door 0).stroke = none ∧ (bench.door 0).lastClosed = none ∧ (bench.door 0).lastFault = none) ∧
    ((bench.door 4).stroke = some (someStroke .close) ∧ (someStroke .close).cause = .console 0) ∧
    ((stamped.door 0).lastClosed = some { day := 1, ms := 2 } ∧ (stamped.door 0).lastFault = some { day := 3, ms := 4 }) ∧
    (OpSetting.all[9]? = some .tailTime ∧ (bench.doorsOfZone 4)[1]? = some 13 ∧
      (bench.unit 0).list[0]? = some (someEntry 6) ∧
      { someEntry 6 with cause := .console 2 }.cause = .console 2) ∧
    (stamped.clock.capture = some { day := 5, ms := 6 } ∧ stamped.clock.armed = some { day := 7, ms := 8 } ∧
      bench.clock.capture = none ∧ bench.clock.armed = none) ∧
    ((going (.marker 7) []).port 0).request ≠ none := by decide +kernel

/-- The frames of the clauses on bytes are those of `markerFrame_shape` and `test_read_bad_frames`. -/
theorem witness_FramesAreDiscardedOrAnsweredBusy : bench.powered = true ∧ readRequest 0 [] = none ∧
    2 ≤ (twoResponses.port 0).responses ∧ twoResponses.powered = true ∧
    readRequest 1 (requestFrame 1 42 []) = some { token := 42, items := [] } ∧
    ((after (.delay 1 2000) bench).port 1).responses < 2 ∧ ((after (.delay 1 2000) bench).port 1).request ≠ none ∧
    (natOf [0, 10] = 5 + [(4 : Byte), 0, 0, 0, 7].length ∧ natOf [0, 4] < 5 ∧ 251 < natOf [0, 252]) := by
  decide +kernel

/-- CP0 with one response waiting. -/
def oneResponse : State := putPort bench 0 { portBase .command with queue := [responseOf []] }

/-- CP0 is sending a response. -/
def sendingOne : State := putPort bench 0 { portBase .command with sending := some (.response (responseOf [])) }

theorem witness_MarkersAreEchoedInOrder : sendingOne.Free 0 ∧ (65535 : Nat) < 65536 ∧
    (List.replicate 32 (0 : BitVec 32)).length ≤ 32 ∧ (sendingOne.port 0).responses < 2 ∧ (sendingOne.port 0).active = true ∧
    (∀ q, (sendingOne.port q).ready = false) ∧ sendingOne.dueEvents = [] ∧ sendingOne.pending = [] := by decide +kernel

/-- A run of bytes as the entries of a response that grows. -/
def grown (n : Nat) : List (List Byte) := [List.replicate n 0]

/-- An item that just fits and one that is a byte too long; a malformed item; a marker amid and at the end of its
request; a RESTART, a DELAY, an ORDER, a SET and a FETCH. -/
theorem witness_RequestsGoOnItemByItem : (∀ x ∈ [(Item.fetch .doorRecord 1, 812, 200), (.fetch .doorRecord 1, 813, 200),
      (.marker 7, 1006, 6), (.marker 7, 1007, 6), (.direct 4 12 2, 999, 13), (.delay 5001, 1008, 4), (.delay 0, 1009, 4),
      (.delay 1, 0, 4), (.delay 5000, 0, 4), (.order .restart .none, 0, 4), (.order .close (.door 1), 0, 4),
      (.set (.installed 0) (.door 1), 0, 4), (.undecodable 9, 0, 4)],
      let s := going x.1 (grown x.2.1)
      s.pending = [] ∧ s.powered = true ∧ s.choice = some (.item 0) ∧ (s.port 0).request =
          some { token := 9, items := [.marker 1, x.1, .marker 2], index := 1, entries := grown x.2.1, wait := none } ∧
        [Item.marker 1, x.1, .marker 2][1]? = some x.1 ∧ s.entrySize x.1 = x.2.2 ∧ (s.port 0).role = .command ∧
        s.store.saving = none) ∧
    (12 + (grown 812).flatten.length + 200 = 1024 ∧ 12 + (grown 1006).flatten.length + 6 = 1024) ∧
    (itemMalformed (.delay 5001) = true ∧ itemMalformed (.delay 5000) = false ∧
      itemMalformed (.order .close (.door 1)) = false) ∧
    Instr.item (.setInstalled 0 (.door 1) 0) = some (0, .set (.installed 0) (.door 1)) := by decide +kernel

theorem witness_ItemCommandIsItsOneItemFrame :
    Instr.item (.setLabel 0 (.door 1) [0x41]) = some (0, .set (.label [0x41]) (.door 1)) ∧
    Item.wellFormed (.set (.label [0x41]) (.door 1)) = true ∧
    (requestFrame 0 0 [.set (.label [0x41]) (.door 1)]).length ≤ 256 ∧ (oneResponse.port 0).collecting = false ∧
    (oneResponse.port 0).responses < 2 := by decide +kernel

theorem witness_MalformedAndMonitorItemsAreRefused :
    (Instr.item (.close 2 (.door 49)) = some (2, .order .close (.door 49)) ∧ bench.Free 2 ∧
      itemMalformed (.order .close (.door 49)) = true) ∧
    (Instr.item (.save 2) = some (2, .order .save .none) ∧ itemMalformed (.order .save .none) = false) ∧
    (Instr.item (.setSilenceTime 2 (.port 2) 9) = some (2, .set (.silenceTime 9) (.port 2)) ∧
      itemMalformed (.set (.silenceTime 9) (.port 2)) = false ∧ ∀ v, SettingWrite.silenceTime 9 ≠ .reportsEnabled v) ∧
    (Instr.item (.direct 2 4 12 2) = some (2, .direct 4 12 2) ∧ itemMalformed (.direct 4 12 2) = false) ∧
    (bench.port 2).role = .monitor ∧ bench.OutputsHold ∧
    ∃ g, readRequest 0 (consoleFrameBytes [2, 1, 0, 0, 42, 5, 0, 1, 9]) = some g ∧ g.items[1]? = some (.undecodable 9) :=
  ⟨by decide +kernel, by decide +kernel, ⟨by decide +kernel, by decide +kernel, by simp⟩, by decide +kernel,
    by decide +kernel, by decide +kernel,
    ⟨{ token := 42, items := [.delay 1, .undecodable 9] }, by decide +kernel, by decide +kernel⟩⟩

theorem witness_FetchAndMarkerOnlyAnswer : bench.Free 2 ∧ ∀ x ∈ [(Instr.fetchDoorRecord 2 48, FetchObject.doorRecord, 48),
    (.fetchDoorSettings 2 1, .doorSettings, 1), (.fetchDoorPending 2 1, .doorPending, 1),
    (.fetchZoneSummary 2 16, .zoneSummary, 16), (.fetchUnit 2 4, .unit, 4), (.fetchHolds 2, .holds, 0),
    (.fetchClock 2, .clock, 0), (.fetchPortStatus 2 0, .portStatus, 0), (.fetchIdentity 2, .identity, 0)],
    Instr.item x.1 = some (2, .fetch x.2.1 x.2.2) ∧ fetchMalformed x.2.1 x.2.2 = false ∧
      bench.fetchSize x.2.1 x.2.2 ≤ 1012 := by decide +kernel

theorem witness_DelaysAndDirectsWaitOrAreAnswered : (bench.Free 1 ∧ (after (.delay 1 5000) bench).powered = true ∧
      ((after (.delay 1 5000) bench).port 1).request =
        some { token := 0, items := [.delay 5000], index := 0, entries := [], wait := some (.delay 105000) } ∧
      (after (.delay 1 5000) bench).runCount < 105000 ∧
      105000 ≤ ({ after (.delay 1 5000) bench with runCount := 105000 } : State).runCount ∧
      (let s : State := { stepped workedFrame with runCount := 102000 }
       s.powered = true ∧ ((s.port 1).request.map fun r => (r.wait, decide (r.index + 1 < r.items.length))) =
         some (some (.delay 102000), true))) ∧
    (bench.MayOrder 0 ∧ directKind 2 = some .lampTest ∧ (bench.branch 0).enable = true ∧ bench.claimant 0 0 = some 0 ∧
      (bench.branch 0).pendingDirect = none ∧ (bench.door 0).state.isRest = true) ∧ (bench.branch 2).enable = false ∧
    ((bench.branch 3).enable = true ∧ bench.claimant 3 11 = none) ∧
    ((after (.direct 1 1 1 1) bench).MayOrder 0 ∧ ((after (.direct 1 1 1 1) bench).branch 0).pendingDirect ≠ none ∧
      ((after (.direct 1 1 1 1) bench).branch 0).enable = true ∧
      ((after (.direct 1 1 1 1) bench).claimant 0 0).isSome) ∧
    (bench.claimant 0 4 = some 4 ∧ (bench.door 4).state.isRest = false) := by decide +kernel

/-- CP1 waits for an IDENT of drop 1 of B1; the exchange in flight and the door of drop 1. -/
def waiting (x : Option Exchange) (d : Door) : State :=
  let s := putDoor (after (.direct 1 1 1 1) bench) 0 d
  putBranch s 0 { s.branch 0 with exchange := x }

/-- The request of CP1, and its pending direct exchange. -/
def waitingRequest : Request :=
  { token := 0, items := [.direct 1 1 1], index := 0, entries := [], wait := some (.direct 0) }
def waitingDirect : PendingDirect := { drop := 0, kind := .ident, port := 1 }

/-- The IDENT of drop 1 in flight, and its reply. -/
def identInFlight : Exchange := { drop := 0, kind := .ident, sequence := 7, deadline := 100000 }
def identReply (status : Byte) : StationFrame :=
  { drop := 1, kind := 1, sequence := 7, status := status, count := 3550, data := [1, 2, 3, 4, 5, 6, 7, 8], crcGood := true }

/-- A regular poll of drop 2 is in flight in the same round, and drop 1 comes next. -/
def waitingMidRound (d : Door) : State :=
  let s := waiting (some { drop := 1, kind := .regular, sequence := 7, deadline := 100000 }) d
  putBranch s 0 { s.branch 0 with members := [0] }

/-- The IDENT of drop 1 is in flight to the door `d`, and its next miss is its third. -/
def waitingLost (d : Door) : State :=
  let s := waiting (some identInFlight) { d with branch := 0, drop := 0 }
  putBranch s 0 { s.branch 0 with drops := branchBase.drops.set 0 { missCount := 2, lost := false } }

/-- Doors in each state that a loss ends, with what the loss needs to know of them. -/
def losable : List (Door × DoorState) :=
  [(bench.door 0, .opened), (bench.door 3, .warning), (bench.door 7, .recloseWait), (bench.door 6, .queued .close),
   (bench.door 5, .reversing .close), (bench.door 4, .closing)]

theorem witness_WaitingDirectsAreAnsweredByTheRound :
    (∀ x ∈ [(none, bench.door 0), (none, { bench.door 4 with drop := 0 }), (some identInFlight, bench.door 0)],
      let s := waiting x.1 x.2
      s.powered = true ∧ (s.branch 0).pendingDirect = some waitingDirect ∧ (s.port 1).request = some waitingRequest ∧
        waitingRequest.wait = some (.direct 0)) ∧
    (∀ d ∈ [bench.door 0, { bench.door 4 with drop := 0 }],
      let s : State := { waiting none d with runCount := 100060 }
      (s.branch 0).enable = true ∧ (s.branch 0).exchange = none ∧ (s.branch 0).roundTimer = some 100060 ∧
        100060 ≤ s.runCount ∧ s.claimedDrops 0 = 0 :: (s.claimedDrops 0).tail ∧ s.claimant 0 0 = some 0) ∧
    ((bench.door 0).state.isRest = true ∧ (bench.door 4).state.isRest = false) ∧
    (let s := waiting (some identInFlight) (bench.door 0)
     (s.branch 0).exchange = some identInFlight ∧ identInFlight.kind = waitingDirect.kind ∧
       identInFlight.kind ≠ .regular ∧ identInFlight.drop = waitingDirect.drop ∧ identInFlight.deadline ≤ s.runCount ∧
       s.losesDrop 0 0 = false ∧
       readStationFrame (stationBytes 0 0x17 2 3550 [1, 2, 3, 4, 5, 6, 7, 8]) = some (identReply 2) ∧
       (identReply 2).goodFor identInFlight = true ∧
       (readStationFrame (stationBytes 0 0x18 2 3550 [])).map (fun f =>
         (f.goodFor identInFlight, f.answersBroken (s.branch 0))) = some (false, false)) ∧
    (∀ d ∈ [bench.door 0, { bench.door 4 with drop := 0 }],
      let s := waitingMidRound d
      s.powered = true ∧ (s.branch 0).pendingDirect = some waitingDirect ∧ (s.port 1).request = some waitingRequest ∧
        (s.branch 0).exchange = some { drop := 1, kind := .regular, sequence := 7, deadline := 100000 } ∧
        100000 ≤ s.runCount ∧ s.losesDrop 0 1 = false ∧ s.nextPoll 0 = some waitingDirect.drop ∧ s.claimant 0 0 = some 0) ∧
    (∀ x ∈ losable,
      let s := waitingLost x.1
      s.powered = true ∧ (s.branch 0).pendingDirect = some waitingDirect ∧ (s.port 1).request = some waitingRequest ∧
        (s.branch 0).exchange = some identInFlight ∧ s.losesDrop 0 0 = true ∧ s.claimant 0 0 = some 0 ∧
        (s.door 0).state = x.2 ∧ s.Unlisted 0) := by decide +kernel

theorem witness_WaitingDirectsAreAnsweredWhenTheirPairGoes :
    (∀ x ∈ [none, some identInFlight, some { drop := 3, kind := .regular, sequence := 7, deadline := 100000 }],
      let s := waiting x (bench.door 0)
      (s.branch 0).pendingDirect = some waitingDirect ∧ (s.port 1).request = some waitingRequest ∧
        (s.branch 0).exchange = x ∧ s.MayInstall 0 ∧ (s.branch 0).enable = true ∧ s.claimant 0 0 = some 0 ∧
        (s.door 0).state.isRest = true ∧ s.pairTaken 0 3 0 = false ∧ s.pairTaken 0 0 11 = false) ∧
    (waitingRequest.wait = some (.direct 0) ∧ identInFlight.drop = waitingDirect.drop ∧
      identInFlight.kind = waitingDirect.kind) ∧
    (waiting (some identInFlight) (bench.door 0)).PairsLawful ∧
    ∀ x ∈ [none, some identInFlight],
      let s := after (.responseSend 0) (after (.restart 0) (waiting x (bench.door 0)))
      s.powered = true ∧ (s.branch 0).pendingDirect = some waitingDirect ∧ (s.port 1).request = some waitingRequest ∧
        (s.branch 0).exchange = x ∧
        (s.port 0).sending =
          some (.response { token := 0, busy := false, entries := [orderEntry .ok 0], carriesRestart := true }) ∧
        s.store.restartPending ≠ none :=
  ⟨by decide +kernel, by decide +kernel,
    ⟨by decide +kernel, forall_some (a := Image.defaults) (by decide +kernel) (by decide +kernel),
      forall_none (by decide +kernel)⟩, by decide +kernel⟩

theorem witness_ClockOrdersSetTheClock : bench.MayOrder 0 ∧ (65535 < 65536 ∧ 86399999 < 86400000) ∧
    (86400000 ≤ 86400000) ∧ ((-86400000 : Int) ≤ 86400000 ∧ (86400000 : Int) ≤ 86400000) ∧
    (-86400001 : Int) < -86400000 ∧ Stamp.Legal { day := 65535, ms := 86399999 } := by decide +kernel

theorem witness_StoreOrdersAndSaves : bench.MayOrder 0 ∧ (bench.store.saving = none ∧ bench.store.restartPending = none) ∧
    ((after (.save 1) bench).MayOrder 0 ∧ (after (.save 1) bench).store.saving ≠ none) ∧
    ((after (.restart 1) bench).MayOrder 0 ∧ (after (.restart 1) bench).store.saving = none ∧
      (after (.restart 1) bench).store.restartPending ≠ none) ∧
    ((after (.save 0) bench).powered = true ∧
      (after (.save 0) bench).store.saving = some { copy := bench.settingsImage, completion := 100400 } ∧
      (after (.save 0) bench).runCount < 100400 ∧ (after (.save 0) bench).OutputsHold) ∧
    100400 ≤ ({ after (.save 0) bench with runCount := 100400 } : State).runCount ∧
    (bench.powered = true ∧ bench.store.image ≠ none) := by decide +kernel

/-- Door 1 in held zone 3. -/
def heldOpen : State := inOrder (putDoor bench 0 { bench.door 0 with zone := 2 })

/-- Door 1 in held zone 3 with local open held. -/
def heldRunning : State := inOrder (putDoor bench 0 { bench.door 0 with zone := 2, localOpen := true })

/-- Door 2 has been ordered to open and is QUEUED(open). -/
def queuedOpen : State := after (.openDoor 0 (.door 2)) bench

theorem witness_CloseStartsTheLeadIn : (bench.MayOrder 0 ∧ heldOpen.MayOrder 0 ∧ queuedOpen.MayOrder 0 ∧
      turnedOpen.MayOrder 0) ∧
    (∀ x ∈ [(bench, (0 : DoorId), DoorState.opened, false), (bench, 2, .halted, false), (bench, 7, .recloseWait, true),
        (heldOpen, 0, .opened, true), (queuedOpen, 1, .queued .opening, false),
        (turnedOpen, 4, .reversing .opening, false)],
      (x.1.door x.2.1).installed = true ∧ x.1.closeResult x.2.1 = .ok ∧ (x.1.door x.2.1).state = x.2.2.1 ∧
        x.1.doorHeld x.2.1 = x.2.2.2) ∧
    turnedOpen.Unlisted 4 ∧ (bench.OutputsHold ∧ heldRunning.OutputsHold ∧ heldRunning.MayOrder 0) ∧
    ((bench.door 47).installed = false ∧
      ∀ x ∈ [(bench, (8 : DoorId), Result.refusedService), (bench, 9, .refusedState), (bench, 12, .refusedState),
          (heldRunning, 0, .refusedMode)], (x.1.door x.2.1).installed = true ∧ x.1.closeResult x.2.1 = x.2.2) ∧
    (∀ i ∈ [(1 : DoorId), 3, 4, 5, 6], bench.closeResult i = .ok ∧
      (bench.door i).state ∈ [DoorState.closed, .warning, .queued .close, .reversing .close, .closing]) := by
  decide +kernel

/-- Door 2 driven by PU4. -/
def onFailedUnit : State := putDoor bench 1 { bench.door 1 with unit := 3 }

/-- Zone 5 with door 14 closed on the failed PU4, and with door 14 driving to close. -/
def zoneOf (d : Door) : State := putDoor bench 13 { d with branch := 1, drop := 2, zone := 4 }

theorem witness_ZoneOrdersAnswerForTheirDoors : (bench.MayOrder 0 ∧ (zoneOf (onFailedUnit.door 1)).MayOrder 0 ∧
      (zoneOf (bench.door 4)).MayOrder 0 ∧ bench.OutputsHold) ∧
    ((∀ j ∈ bench.doorsOfZone 4, (bench.door j).state ∉ [DoorState.queued .opening, .reversing .opening, .opening]) ∧
      bench.closeResult 12 = .refusedState ∧ bench.closeResult 13 = .ok ∧ (bench.door 13).state = .opened) ∧
    ((∀ j ∈ bench.doorsOfZone 2, (bench.door j).state ∉ [DoorState.queued .opening, .reversing .opening, .opening]) ∧
      bench.held 2 = true ∧ (bench.door 7).zone = 2 ∧ bench.closeResult 7 = .ok) ∧
    (bench.held 4 = false ∧
      (let s := zoneOf (bench.door 3)
       s.MayOrder 0 ∧ s.held 4 = false ∧ (s.door 13).state = .warning ∧
        ∀ j ∈ s.doorsOfZone 4, (s.door j).state.isRest = true ∨ (s.door j).state ∈ [.warning, .recloseWait])) ∧
    (∀ x ∈ [(onFailedUnit.door 1, Result.refusedPower), (bench.door 4, .ok)],
      let s := zoneOf x.1
      s.held 4 = false ∧ s.openResult 13 = x.2 ∧ ∀ j ∈ s.doorsOfZone 4, s.openResult j = .ok →
        (s.door j).state ∉ [.closed, .halted, .warning, .queued .close]) ∧
    (bench.doorsOfZone 2 ≠ [] ∧ bench.doorsOfZone 15 = [] ∧ heldOpen.held 15 = false) ∧
    (let s := after (.openDoor 0 (.zone 1)) bench
     s.MayOrder 0 ∧ s.doorsOfZone 0 = bench.doorsOfZone 0) :=
  ⟨by decide +kernel, by decide +kernel, by decide +kernel, by decide +kernel, by decide +kernel, by decide +kernel,
    by decide +kernel⟩

/-- The doors of zone 1 after an order for it, and the answer. -/
def zoneAfter (c : Instr) : List DoorState × Option (List (List Byte)) :=
  let t := after c bench
  ((bench.doorsOfZone 0).map fun i => (t.door i).state, answerTo 0 c bench)

/-- R96 to R99, on doors in OPEN, CLOSED, HALTED, WARNING, CLOSING, REVERSING(close), QUEUED(close) and, at the end,
UNKNOWN: OPEN queues, turns and, for the door last driven to open, drives; STOP ends what doors do; CLOSE after OPEN
ends all that and starts the lead-ins. -/
theorem test_zone_orders :
    zoneAfter (.openDoor 0 (.zone 1)) = ([.opened, .queued .opening, .queued .opening, .queued .opening,
      .reversing .opening, .opening, .queued .opening, .unknown, .unknown], some [orderEntry .refusedState 7]) ∧
    zoneAfter (.stop 0 (.zone 1)) = ([.opened, .closed, .halted, .opened, .halted, .halted, .opened, .unknown, .unknown],
      some [orderEntry .ok 9]) ∧
    (let t := after (.close 0 (.zone 1)) (after (.openDoor 0 (.zone 1)) bench)
     (bench.doorsOfZone 0).map fun i => (t.door i).state) =
      [.warning, .warning, .warning, .warning, .warning, .warning, .warning, .unknown, .unknown] := by
  and_intros <;> decide +kernel

/-- Door 14 closed, on an idling PU3. -/
def idlingClosed : State :=
  putUnit (putDoor bench 13 { bench.door 1 with branch := 1, drop := 2, unit := 2 }) 2
    { unitBase with state := .idling, timer := some 200000 }

theorem witness_OpenQueuesOrReverses : (bench.MayOrder 0 ∧ bench.OutputsHold ∧ idlingClosed.MayOrder 0 ∧
      onFailedUnit.MayOrder 0) ∧
    (∀ i ∈ [(1 : DoorId), 2, 3, 6], (bench.door i).installed = true ∧ bench.openResult i = .ok ∧
      (bench.door i).state ∈ [DoorState.closed, .halted, .warning, .queued .close] ∧
      (bench.unit (bench.door i).unit).waits bench.cutoff.value = true) ∧
    ((idlingClosed.door 13).installed = true ∧ idlingClosed.openResult 13 = .ok ∧ (idlingClosed.door 13).state = .closed ∧
      (idlingClosed.unit 2).admitsAlone 13 idlingClosed.cutoff.value = true) ∧
    (∀ i ∈ [(4 : DoorId), 5], (bench.door i).installed = true ∧ bench.openResult i = .ok ∧
      (bench.door i).state ∈ [DoorState.closing, .reversing .close]) ∧
    ((onFailedUnit.door 1).installed = true ∧ onFailedUnit.openResult 1 = .refusedPower) ∧
    (∀ x ∈ [((7 : DoorId), Result.refusedMode), (9, .refusedState), (12, .refusedState)],
      (bench.door x.1).installed = true ∧ bench.openResult x.1 = x.2) ∧
    ((bench.door 0).installed = true ∧ (bench.door 0).state = .opened) := by decide +kernel

theorem witness_StopHaltsAndCancels : bench.MayOrder 0 ∧ bench.OutputsHold ∧
    ((bench.door 7).installed = true ∧ bench.doorHeld 7 = true) ∧
    ((bench.door 0).installed = true ∧ bench.doorHeld 0 = false ∧ (bench.door 0).state.isRest = true) ∧
    ((bench.door 3).installed = true ∧ bench.doorHeld 3 = false ∧ (bench.door 3).state = .warning) ∧
    ((bench.door 6).installed = true ∧ bench.doorHeld 6 = false ∧ (bench.door 6).state = .queued .close) ∧
    ∀ s ∈ [bench, crowded], s.MayOrder 0 ∧ ∀ i ∈ [(4 : DoorId), 5], (s.door i).installed = true ∧ s.doorHeld i = false ∧
      (s.door i).state.hasStroke = true ∧ s.Unlisted i ∧
      ((s.unit (s.door i).unit).list.map fun e => e.door).Nodup := by decide +kernel

/-- Door 9 in free zone 1. -/
def outOfService : State := inOrder (putDoor bench 8 { bench.door 8 with zone := 0 })

theorem witness_ServiceAndResetFaultsActOnADoor : bench.MayOrder 0 ∧ bench.OutputsHold ∧
    ((bench.door 0).installed = true ∧ bench.doorHeld 0 = false ∧ (bench.door 0).state.isRest = true ∧
      (bench.door 0).inService = true) ∧
    (outOfService.MayOrder 0 ∧ (outOfService.door 8).installed = true ∧ outOfService.doorHeld 8 = false ∧
      (outOfService.door 8).inService = false) ∧
    ((bench.door 8).installed = true ∧ bench.doorHeld 8 = true ∧ (bench.door 8).inService = false ∧
      (bench.door 8).state = .halted ∧ (bench.door 8).eventFaulted = false ∧ (bench.door 8).localOpen = false) ∧
    ((bench.door 4).installed = true ∧ bench.doorHeld 4 = false ∧ (bench.door 4).state.isRest = false) ∧
    (bench.door 12).installed = true := by decide +kernel

/-- Door 2 with a tail and a signal test. -/
def signalling (e : Nat) : State := putDoor bench 1 { bench.door 1 with tail := some e, test := some e }

theorem witness_TestsAndAcknowledgementsWriteOneField : bench.MayOrder 0 ∧
    ((bench.door 0).installed = true ∧ (bench.door 0).state.isRest = true) ∧
    ((bench.door 4).installed = true ∧ (bench.door 4).state.isRest = false) ∧
    ((signalling 100000).powered = true ∧ ((signalling 100000).door 1).test = some 100000 ∧
      ((signalling 100000).door 1).tail = some 100000 ∧ 100000 ≤ (signalling 100000).runCount) ∧
    (((signalling 100001).door 1).test = some 100001 ∧ ((signalling 100001).door 1).tail = some 100001 ∧
      (signalling 100001).runCount < 100001) ∧ (1 : PortId) ≠ 0 := by decide +kernel

theorem witness_HoldAndReleaseWriteOwnSet : bench.MayOrder 0 ∧ bench.OutputsHold ∧
    ((1 : PortId) ≠ 0 ∧ (bench.port 1).active = false) ∧ (bench.port 2).active = true ∧
    (State.reset.OutputsHold ∧ State.reset.outputs = { fault := true, closure := false, allClosed := false } ∧
      bench.outputs.closure = true) := by decide +kernel

/-- Door 1 standing as `d`, in a free zone and in no admission list. -/
def ordered (d : Door) : State := inOrder (putDoor bench 0 { d with branch := 0, drop := 0, zone := 0 })

/-- Door 7, QUEUED with the entry `n`, is the one door of zone 9, and PU1 is as `x`. -/
def queuedAlone (d : Door) (n : Entry) (x : PowerUnit) : State :=
  inOrder (putUnit (putDoor bench 6 { d with zone := 8 }) 0 { x with list := [n] })

/-- An entry of door 7 to open. -/
def openEntry : Entry := { someEntry 6 with direction := .opening, cls := 2, cause := .console 0 }

/-- What every clause on a door of a zone that becomes held asks of the door. -/
def becomesHeld (s : State) (i : DoorId) (m : ZoneSet) : Bool := decide <|
  s.MayOrder 0 ∧ s.doorHeld i = false ∧ zoneIn m (s.door i).zone = true ∧ (s.door i).installed = true

theorem witness_DoorsFollowTheHolds : bench.MayOrder 0 ∧
    (bench.Unlisted 0 ∧ bench.doorHeld 0 = false ∧ zoneIn 1 (bench.door 0).zone = true ∧
      (bench.door 0).installed = true ∧ (bench.door 0).inService = true ∧ (bench.door 0).eventFaulted = false ∧
      (bench.door 0).localOpen = false ∧ (bench.door 0).state = .opened) ∧ (bench.door 2).state = .halted ∧
    (bench.Unlisted 7 ∧ bench.doorHeld 7 = true) ∧ (bench.Unlisted 13 ∧ zoneIn 1 (bench.door 13).zone = false) ∧
    (∀ x ∈ [(bench.door 8, false, DoorState.halted, false, false), (bench.door 9, true, .unknown, false, false),
        (bench.door 1, true, .closed, false, false), (bench.door 5, true, .reversing .close, false, false),
        (bench.door 4, true, .closing, false, false), ({ bench.door 0 with faults := 0x100 }, true, .opened, true, false),
        ({ bench.door 2 with localOpen := true }, true, .halted, false, true), (bench.door 3, true, .warning, false, false),
        (turnedOpen.door 4, true, .reversing .opening, false, false),
        ({ turnedOpen.door 4 with state := .opening, faults := 0x100 }, true, .opening, true, false),
        ({ turnedOpen.door 4 with localOpen := true }, true, .reversing .opening, false, true)],
      let s := ordered x.1
      becomesHeld s 0 1 = true ∧ s.Unlisted 0 ∧
        ((s.door 0).inService, (s.door 0).state, (s.door 0).eventFaulted, (s.door 0).localOpen) = x.2) ∧
    (∀ x ∈ [(bench.door 6, someEntry 6, unitBase), (bench.door 6, someEntry 6, { unitBase with state := .running }),
        (bench.door 6, { someEntry 6 with cls := 0 }, { unitBase with state := .starting }),
        ({ bench.door 6 with state := .queued .opening, localOpen := true }, openEntry, { unitBase with state := .gathering }),
        ({ bench.door 6 with state := .queued .opening }, openEntry, { unitBase with state := .gathering }),
        ({ bench.door 6 with state := .queued .opening, faults := 0x100 }, openEntry, { unitBase with state := .gathering })],
      let s := queuedAlone x.1 x.2.1 x.2.2
      becomesHeld s 6 0x100 = true ∧ (s.door 6).inService = true ∧ s.entryOf 6 = some x.2.1 ∧ (s.door 6).stroke = none ∧
        (s.door 6).state = x.1.state ∧
        ∀ j, (s.door j).installed = true → zoneIn 0x100 (s.door j).zone = true → s.doorHeld j = false → j = 6) ∧
    ((queuedAlone (bench.door 6) (someEntry 6) unitBase).unit 0).waits bench.cutoff.value = true ∧
    ((queuedAlone (bench.door 6) (someEntry 6) { unitBase with state := .running }).unit 0).admitsAlone 6
      bench.cutoff.value = true ∧
    (bench.MayOrder 1 ∧ (bench.door 7).installed = true ∧ (bench.door 7).inService = true ∧
      zoneIn (bench.holds.setConsole 1 (bench.holds.console[(1 : PortId)] &&& ~~~(4 : ZoneSet))).union (bench.door 7).zone =
        false ∧ (bench.door 7).state = .recloseWait) ∧
    (bench.Unlisted 8 ∧ (bench.door 8).installed = true ∧ (bench.door 8).inService = false ∧ bench.doorHeld 8 = true ∧
      (bench.door 8).zone = (bench.door 7).zone) ∧ bench.powered = true ∧
    ((bench.door 7).reclose = some 110000 ∧ bench.runCount < 110000) ∧
    110000 ≤ ({ bench with runCount := 110000 } : State).runCount :=
  by and_intros <;> decide +kernel

theorem witness_ResetUnitStopsAFailedUnit : bench.MayOrder 0 ∧
    ((bench.unit 3).state = .failed ∧ (bench.unit 3).pressLow.value = false) ∧ (bench.unit 1).state ≠ .failed ∧
    (let s := after (.pressLowChange 1 true) bench
     s.MayOrder 0 ∧ s.OutputsHold ∧ (s.unit 1).state = .failed ∧ (s.unit 1).pressLow.value = true) := by decide +kernel

theorem witness_OperationalSetsAreStaged : bench.MayOrder 0 ∧ (bench.door 47).installed = false ∧
    (Instr.item (.setTailTime 0 (.door (number (0 : DoorId))) 11) = some (0, .set (.op .tailTime 11) (.door 1)) ∧
      (bench.door 0).installed = true ∧ OpSetting.clamped .tailTime 11 ≠ 11) ∧
    (Instr.item (.setDeadTime 0 (.zone (number (4 : ZoneId))) 0) = some (0, .set (.op .deadTime 0) (.zone 5)) ∧
      ((bench.door 12).installed && decide ((bench.door 12).zone = 4)) = true ∧ OpSetting.clamped .deadTime 0 ≠ 0) ∧
    (Instr.item (.setDeadTime 0 (.zone (number (15 : ZoneId))) 0) = some (0, .set (.op .deadTime 0) (.zone 16)) ∧
      ∀ j, ((bench.door j).installed && decide ((bench.door j).zone = 15)) = false) ∧
    (Instr.item (.setLeadInTime 0 .all 50) = some (0, .set (.op .leadInTime 50) .all) ∧
      OpSetting.clamped .leadInTime 50 = 50) ∧
    bench.settingsHold = false ∧ ({ bench with settingsHold := true } : State).MayOrder 0 := by decide +kernel

/-- Door 40 with a pair of its own. -/
def newPair : State := putDoor bench 39 { bench.door 39 with drop := 11 }

/-- Drop 1 of B1 is polled, and drop 2 comes next. -/
def pollFirst : State := let s := polling bench 0; putBranch s 0 { s.branch 0 with members := [0, 1] }

/-- The same with a door in place of door 1, whose drop has left the round of B1. -/
def leftRound (d : Door) : State :=
  let s := putDoor pollFirst 0 d
  putBranch s 0 { s.branch 0 with members := [1] }

theorem pollFirst_pairsLawful : pollFirst.PairsLawful :=
  ⟨by decide +kernel, forall_some (a := Image.defaults) (by decide +kernel) (by decide +kernel),
    forall_none (by decide +kernel)⟩

theorem witness_DoorsAreInstalledAndRemoved : (newPair.MayInstall 0 ∧ (newPair.door 39).installed = false ∧
      (newPair.door 39).state = .unknown ∧ (newPair.door 39).inService = true ∧ (newPair.door 39).faults = 0 ∧
      (newPair.door 39).unacked = 0 ∧ newPair.pairTaken 39 (newPair.door 39).branch (newPair.door 39).drop = false) ∧
    bench.MayInstall 0 ∧ (bench.door 0).installed = true ∧ (bench.door 0).state.isRest = true ∧
    (∀ x, (bench.branch (bench.door 0).branch).exchange = some x → x.drop ≠ (bench.door 0).drop) ∧
    (∀ x, (bench.branch (bench.door 0).branch).pendingDirect = some x → x.drop ≠ (bench.door 0).drop) ∧
    (pollFirst.MayInstall 0 ∧ (pollFirst.door 0).installed = true ∧ (pollFirst.door 0).state.isRest = true ∧
      (pollFirst.branch (pollFirst.door 0).branch).exchange =
        some { drop := 0, kind := .regular, sequence := 7, deadline := 100000 } ∧
      (pollFirst.branch 0).pendingDirect = none ∧ (leftRound (pollFirst.door 0).removed).nextPoll 0 = some 1) ∧
    pollFirst.PairsLawful :=
  ⟨by decide +kernel, by decide +kernel, by decide +kernel, by decide +kernel, forall_none (by decide +kernel),
    forall_none (by decide +kernel), by decide +kernel, pollFirst_pairsLawful⟩

theorem witness_MovedDoorsTakeTheNewPair : (bench.MayInstall 0 ∧ (3 : BranchId) ≠ (bench.door 0).branch ∧
      (11 : DropId) ≠ (bench.door 0).drop ∧ (bench.door 0).installed = true ∧ (bench.door 0).state.isRest = true ∧
      bench.pairTaken 0 3 (bench.door 0).drop = false ∧ bench.pairTaken 0 (bench.door 0).branch 11 = false ∧
      (bench.door 47).installed = false) ∧
    (∀ x, (bench.branch (bench.door 0).branch).exchange = some x → x.drop ≠ (bench.door 0).drop) ∧
    (∀ x, (bench.branch (bench.door 0).branch).pendingDirect = some x → x.drop ≠ (bench.door 0).drop) ∧
    (pollFirst.MayInstall 0 ∧ pollFirst.pairTaken 0 3 0 = false ∧ pollFirst.pairTaken 0 0 11 = false ∧
      (pollFirst.branch 0).pendingDirect = none ∧ ∀ x ∈ [((3 : BranchId), (0 : DropId)), (0, 11)],
        let v := leftRound (Door.blanked { pollFirst.door 0 with branch := x.1, drop := x.2 } pollFirst.settingsHold)
        v.nextPoll 0 = some 1) ∧ pollFirst.PairsLawful :=
  ⟨by decide +kernel, forall_none (by decide +kernel), forall_none (by decide +kernel), by decide +kernel,
    pollFirst_pairsLawful⟩

/-- R91: an out-of-service door that leaves a held zone, or whose zone is no longer held, loses NOT_CONTROLLED. -/
theorem test_out_of_service : ([(bench, Instr.setZone 0 (.door 9) 1), (outOfService, .setZone 0 (.door 9) 3),
      (bench, .releaseZones 1 (.zoneSet 4))].map fun x => ((after x.2 x.1).door 8).faults) = [0, 0x080, 0] := by
  decide +kernel

theorem witness_PlaceSetsWriteTheDoor : bench.MayInstall 0 ∧ ((bench.door 0).installed = true ∧
      (bench.door 0).inService = true ∧ (bench.door 0).state.isRest = true ∧ (2 : ZoneId) ≠ (bench.door 0).zone) ∧
    (∀ x ∈ [(bench, (0 : ZoneId), false), (outOfService, 2, true)], x.1.MayInstall 0 ∧ (x.1.door 8).installed = true ∧
      (x.1.door 8).inService = false ∧ (x.1.door 8).state.isRest = true ∧ x.2.1 ≠ (x.1.door 8).zone ∧
      x.1.held x.2.1 = x.2.2) ∧
    (0 ≤ 4095 ∧ 200 ≤ 4095 ∧ 0 + 200 ≤ 200 ∧ (bench.door 0).closedCount ≠ 0) ∧ (bench.door 47).installed = false ∧
    (List.replicate 8 (0x7E : Byte)).length ≤ 8 ∧
    ∀ b ∈ List.replicate 8 (0x7E : Byte), 0x20 ≤ b.toNat ∧ b.toNat ≤ 0x7E := by decide +kernel

theorem witness_DoorItemsAreRefused : bench.OutputsHold ∧ bench.MayInstall 0 ∧ bench.MayOrder 0 ∧
    ((bench.door 4).installed = true ∧ (bench.door 4).state.isRest = false ∧
      Instr.item (.setGeometry 0 (.door (number (4 : DoorId))) 4095 3895) =
        some (0, .set (.geometry 4095 3895) (.door (number (4 : DoorId))))) ∧
    Instr.item (.setDrop 0 (.door (number (4 : DoorId))) 13) = some (0, .set (.drop 13) (.door (number (4 : DoorId)))) ∧
    (bench.pairTaken 39 (bench.door 39).branch (bench.door 39).drop = true ∧
      Instr.item (.setInstalled 0 (.door (number (39 : DoorId))) 1) =
        some (0, .set (.installed 1) (.door (number (39 : DoorId))))) ∧
    (bench.pairTaken 4 3 (bench.door 4).drop = false ∧ bench.pairTaken 4 (bench.door 4).branch 11 = false ∧
      Instr.item (.setBranch 0 (.door (number (4 : DoorId))) (number (3 : BranchId))) =
        some (0, .set (.branch (number (3 : BranchId))) (.door (number (4 : DoorId)))) ∧
      Instr.item (.setDrop 0 (.door (number (4 : DoorId))) (number (11 : DropId))) =
        some (0, .set (.drop (number (11 : DropId))) (.door (number (4 : DoorId))))) ∧
    ((bench.door 1).installed = true ∧ bench.pairTaken 1 1 (bench.door 1).drop = true ∧
      bench.pairTaken 1 (bench.door 1).branch 0 = true) ∧
    Instr.item (.setLabel 0 .all []) = some (0, .set (.label []) .all) ∧ (bench.door 39).installed = false := by
  decide +kernel

/-- The response that carries a pending restart of CP0 is being sent. -/
def restarting : State := after (.responseSend 0) (after (.restart 0) bench)

theorem witness_CommissioningLockRule : (∃ t, exec (.powerOn true false false 0 false) bench = .next t) ∧
    ((∀ k a o l y, Instr.trimStep ≠ .powerOn k a o l y) ∧ (∃ t, exec .trimStep bench = .next t) ∧
      bench.store.lockOpen = true) ∧
    (∃ t, exec (.responseSent 0) restarting = .next t) ∧
    (bench.Free 2 ∧ (bench.port 2).role = .monitor) ∧ bench.MayOrder 0 ∧
    ((after (.lock 1) bench).MayOrder 0 ∧ (after (.lock 1) bench).OutputsHold ∧
      (after (.lock 1) bench).store.lockOpen = false ∧ guardedByLock (.slotLimit 1) = true ∧
      itemMalformed (.set (.slotLimit 1) (.unit 1)) = false ∧
      Instr.item (.setSlotLimit 0 (.unit 1) 1) = some (0, .set (.slotLimit 1) (.unit 1))) :=
  ⟨⟨_, rfl⟩, ⟨by simp, ⟨_, rfl⟩, by decide +kernel⟩, ⟨_, rfl⟩, by decide +kernel,
    by decide +kernel, by decide +kernel⟩

theorem witness_UnitAndBranchSetsWriteOneField : bench.MayInstall 0 ∧ bench.OutputsHold ∧
    ((bench.unit 2).state = .stopped ∧ 1 ≤ 8 ∧ 8 ≤ 8) ∧ (500 ≤ 500 ∧ 30000 ≤ 30000) ∧ (bench.unit 0).state ≠ .stopped ∧
    (8 < 9 ∧ 499 < 500 ∧ 30000 < 30001 ∧ 600 < 601 ∧ 10000 < 10001 ∧ 1000 < 1001 ∧ 50 < 51 ∧ 1 < 2) := by decide +kernel

theorem witness_BranchesAreDisabledAndEnabled : bench.MayInstall 0 ∧
    ((bench.branch 0).pendingDirect = none ∧ (bench.branch 0).enable = true) ∧
    (bench.Unlisted 4 ∧ (bench.door 4).installed = true ∧ (bench.door 4).branch = 0) ∧
    (∀ j, (bench.door j).installed = true → (bench.door j).branch = 1 → (bench.door j).state.isRest = true) ∧
    ((bench.branch 2).pendingDirect = none ∧ (bench.branch 2).enable = false ∧
      (∀ j, (bench.door j).installed = true → (bench.door j).branch = 2 → (bench.door j).state.isRest = true) ∧
      bench.claimedDrops 2 = [0] ∧ bench.claimant 2 0 = some 11) ∧
    (let s := after (.setInstalled 0 (.door 12) 0) bench
     s.MayInstall 0 ∧ s.claimedDrops 2 = [] ∧ (s.branch 2).enable = false) ∧ bench.OutputsHold := by decide +kernel

/-- A warm restart that meets a waiting DIRECT whose exchange is not in flight. -/
def restartingWaiting : State := after (.responseSend 0) (after (.restart 0) (waiting none (bench.door 0)))

theorem witness_PortAndDeviceSetsWriteTheirFields : bench.MayOrder 0 ∧ bench.MayInstall 0 ∧ bench.OutputsHold ∧
    (2 = clamp 2 60 1 ∧ 2000 = clamp 100 2000 2001 ∧ 60 = clamp 1 60 60) ∧ (1 : PortId) ≠ 0 ∧
    (readRole 1 = some .monitor ∧ bench.holds.console[(0 : PortId)] = 0) ∧ bench.holds.console[(1 : PortId)] ≠ 0 ∧
    (bench.Free 2 ∧ (bench.port 2).reportsEnabled = false) ∧
    (reporting.Free 2 ∧ (reporting.port 2).reportsEnabled = true) ∧
    ((0xFFF : BitVec 16).toNat < 4096 ∧ 4096 ≤ (0x1000 : BitVec 16).toNat) ∧
    (bench.store.identity = [] ∧ (List.replicate 16 (0x20 : Byte)).length ≤ 16 ∧
      ∀ b ∈ List.replicate 16 (0x20 : Byte), 0x20 ≤ b.toNat ∧ b.toNat ≤ 0x7E) ∧
    (let s := after (.setVesselIdentity 1 .device [0x42]) bench
     s.MayOrder 0 ∧ s.store.identity ≠ [] ∧ s.OutputsHold) ∧ (3600 ≤ 3600 ∧ 3600 < 3601) ∧
    ((0x02 : Byte) ≠ 0x01 ∧ (0x02 : Byte) ≠ 0xFF) ∧ 2 ≤ 2 ∧
    (16 < (List.replicate 17 (0x41 : Byte)).length ∧ ∃ b ∈ [(0x41 : Byte), 0x7F], b.toNat < 0x20 ∨ 0x7E < b.toNat) := by
  decide +kernel

theorem witness_ReceiversAndResponses : bench.powered = true ∧
    ((oneResponse.port 0).sending = none ∧ (oneResponse.port 0).queue = responseOf [] :: []) ∧
    ((twoResponses.port 0).sending ≠ none ∧ (bench.port 0).queue = []) ∧
    ((twoResponses.port 0).sending = some (.response (responseOf [])) ∧ (responseOf []).carriesRestart = false) ∧
    (let s := putPort bench 0 { portBase .command with silenceTimer := some 100000 }
     s.powered = true ∧ (s.port 0).silenceTimer = some 100000 ∧ 100000 ≤ s.runCount ∧ (s.port 0).active = true) ∧
    (let s := putPort bench 0 { portBase .command with silenceTimer := some 100001 }
     s.powered = true ∧ (s.port 0).silenceTimer = some 100001 ∧ s.runCount < 100001 ∧ s.OutputsHold) := by decide +kernel

theorem witness_WarmRestartRestartsEveryBlock : restarting.powered = true ∧
    (∀ b, (restarting.branch b).exchange = none ∧ (restartingWaiting.branch b).exchange = none) ∧
    (restarting.port 0).sending =
      some (.response { token := 0, busy := false, entries := [orderEntry .ok 0], carriesRestart := true }) ∧
    restarting.store.restartPending ≠ none ∧ (restartingWaiting.branch 0).pendingDirect = some waitingDirect ∧
    ((restarting.branch 2).enable = false ∧ (restarting.branch 3).enable = true ∧ restarting.claimedDrops 3 = [] ∧
      restarting.claimedDrops 1 = 1 :: [2]) := by decide +kernel

/-- CP2 in a refresh cycle of all its doors. -/
def refreshing : State := after (.refreshDue 2) reporting

theorem witness_ReportsCarryTheChangedDoors : (reporting.powered = true ∧ (reporting.port 2).reportsEnabled = true ∧
      (reporting.port 2).changed ≠ [] ∧ (reporting.port 2).refreshCycle = none ∧ (reporting.port 2).lastReport = some 99750 ∧
      99750 + (reporting.port 2).dueSpacing.getD (reporting.port 2).reportSpacing ≤ reporting.runCount ∧
      (reporting.port 2).sending = none ∧ (reporting.port 2).queue = []) ∧
    (refreshing.powered = true ∧ (refreshing.port 2).reportsEnabled = true ∧ (refreshing.port 2).refreshCycle ≠ none ∧
      (refreshing.port 2).sending = none ∧ (refreshing.port 2).queue = []) ∧
    ((bench.port 2).reportReady bench.runCount = false ∧ (twoResponses.port 0).transmitterFree = false) ∧
    ((after (.reportSend 2) reporting).port 2).sending = some (.report (reporting.reportNow 2)) ∧
    ((reporting.port 2).refreshStart = some 95000 ∧
      95000 + (if reporting.anyUnacked then (reporting.port 2).refreshPeriod * 1000 / 2
        else (reporting.port 2).refreshPeriod * 1000) ≤ reporting.runCount) ∧
    (let s := putPort reporting 2 { reporting.port 2 with refreshStart := some 97501 }
     s.runCount < 97501 + (if s.anyUnacked then (s.port 2).refreshPeriod * 1000 / 2
        else (s.port 2).refreshPeriod * 1000)) := by decide +kernel

theorem witness_EveryChangeIsMarkedForTheReports :
    (let s := withFront (.close 0 (.door 1)) bench
     (∃ t, step s = .next t) ∧ (∀ k a o l y rest, s.pending ≠ .powerOn k a o l y :: rest) ∧
       s.store.restartPending = none ∧ ((stepped s).door 0).installed = true ∧
       ((stepped s).door 0).state ≠ (s.door 0).state ∧ 0 ∈ ((stepped s).port 2).changed) ∧
    (let s := withFront (.responseSent 0) restarting
     (∃ t, step s = .next t) ∧ s.store.restartPending ≠ none ∧ (stepped s).store.restartPending = none ∧
       ((stepped s).port 0).reportsEnabled = false) ∧
    (reporting.port 2).changed.Pairwise (fun i j => i < j) ∧ (reporting.port 2).changed ≠ [] ∧
    ((bench.port 0).lastReported[(0 : DoorId)] = none ∧ (bench.door 0).position = some 1000) :=
  ⟨⟨⟨_, rfl⟩, by simp [withFront], by decide +kernel, by decide +kernel, by decide +kernel, by decide +kernel⟩,
    ⟨⟨_, rfl⟩, by decide +kernel, by decide +kernel, by decide +kernel⟩, by decide +kernel, by decide +kernel,
    by decide +kernel⟩

/-- The round timers have run out. -/
def roundTime : State := { bench with runCount := 100060 }

/-- A regular poll of B1 is in flight to drop 1, drops 2 and 3 come next, and the round timer runs out at `e`; the next
miss is the drop's third. -/
def midRound (members : List DropId) (e : Nat) (missed : Nat) : State :=
  putBranch bench 0 { branchBase with
    exchange := some { drop := 0, kind := .regular, sequence := 7, deadline := 100000 }, members := members
    roundTimer := some e, drops := branchBase.drops.set 0 { missCount := missed, lost := false } }

theorem witness_RoundsPollInDropOrder : bench.powered = true ∧
    ((bench.branch 0).enable = true ∧ (bench.branch 0).exchange = none ∧ (bench.branch 0).roundTimer = some 100060 ∧
      bench.runCount < 100060) ∧
    (roundTime.powered = true ∧ (roundTime.branch 3).roundTimer = some 100060 ∧ 100060 ≤ roundTime.runCount ∧
      roundTime.claimedDrops 3 = [] ∧ roundTime.claimedDrops 1 = 1 :: [2] ∧ roundTime.claimant 1 1 = some 12 ∧
      (roundTime.branch 1).pendingDirect = none) ∧
    (∀ x ∈ [(midRound [] 100060 0, none, false), (midRound [1, 2] 100060 2, some 1, true),
        (midRound [] 100000 0, some 0, false)],
      x.1.powered = true ∧
        (x.1.branch 0).exchange = some { drop := 0, kind := .regular, sequence := 7, deadline := 100000 } ∧
        100000 ≤ x.1.runCount ∧ x.1.nextPoll 0 = x.2.1 ∧ x.1.losesDrop 0 0 = x.2.2 ∧
        (x.1.branch 0).pendingDirect = none ∧ x.1.claimant 0 0 = some 0 ∧ (x.1.door 0).state.isRest = true) ∧
    (let s : State := { polling bench 0 with runCount := 99999 }
     s.runCount < 100000 ∧ s.OutputsHold) ∧
    (∀ x ∈ losable,
      let s := putDoor (midRound [1, 2] 100060 2) 0 { x.1 with branch := 0, drop := 0 }
      s.powered = true ∧ s.losesDrop 0 0 = true ∧ s.claimant 0 0 = some 0 ∧ (s.door 0).state = x.2 ∧ s.Unlisted 0) ∧
    ((crowded.unit 1).list.map fun e => e.door).Nodup := by decide +kernel

theorem witness_FramesEndAnExchangeOrCountForNothing : brokenOff.powered = true ∧ readStationFrame [] = none ∧
    (brokenOff.OutputsHold ∧ bench.OutputsHold ∧ (bench.branch 0).exchange = none) ∧
    ((brokenOff.branch 0).exchange = some { drop := 2, kind := .regular, sequence := 7, deadline := 100010 } ∧
      (readStationFrame (stationBytes 0 3 2 3550 [])).map (fun f => (f.answersBroken (brokenOff.branch 0),
        f.goodFor { drop := 2, kind := .regular, sequence := 7, deadline := 100010 })) = some (true, false) ∧
      (readStationFrame (stationBytes 2 6 2 3550 [])).map (fun f => (f.answersBroken (brokenOff.branch 0),
        f.goodFor { drop := 2, kind := .regular, sequence := 7, deadline := 100010 })) = some (false, false)) := by
  decide +kernel

/-- Door 10 in held zone 3, which the next reply settles, with a lead-in time of 5 s pending. -/
def settlesHeld : Door := { bench.door 9 with
  drop := 0, zone := 2, phase := .settling, settlingCount := 1, openSwitch := true
  pending := { OpRow.noPending with leadInTime := some 50 } }

/-- R54, R14, R88: door 10 settles OPEN in a held zone, and the values that were pending time its lead-in. R70: a reply
out of range ends what a door does, its entry and its slot. -/
theorem test_reply_follows :
    (let d := (after (.stationReplyFrame 0 (replyBytes 0 2 3580)) (polling (putDoor bench 0 settlesHeld) 0)).door 0
     (d.indication, d.state, d.leadIn, d.pending) =
       (.opened, .warning, some { cause := .closure, expiry := 105000 }, OpRow.noPending)) ∧
    ([(3 : DropId), 4, 5, 6, 7].map fun k =>
      let t := after (.stationReplyFrame 0 (replyBytes k 0 0)) (polling bench k)
      let d := t.door (Fin.ofNat 48 k.val)
      (d.state, d.leadIn.isSome || d.reclose.isSome || d.stroke.isSome, (t.unit 0).list.length, (t.unit 1).holders)) =
      [(.unknown, false, 1, [4, 5]), (.unknown, false, 1, [5]), (.unknown, false, 1, [4]), (.unknown, false, 0, [4, 5]),
       (.unknown, false, 1, [4, 5])] := by decide +kernel

theorem witness_GoodRepliesAreTaken : (
    let s := polling bench 0
    let f : StationFrame := { drop := 1, kind := 0, sequence := 7, status := 2, count := 3550, data := [], crcGood := true }
    let x : Exchange := { drop := 0, kind := .regular, sequence := 7, deadline := 100000 }
    s.powered = true ∧ (s.branch 0).exchange = some x ∧ s.nextPoll 0 = none ∧ (s.branch 0).pendingDirect = none ∧
      readStationFrame (replyBytes 0 2 3550) = some f ∧ f.goodFor x = true ∧ s.claimant 0 x.drop = some 0 ∧
      rawPosition f.count (s.door 0).closedCount (s.door 0).openCount = 989 ∧ (s.door 0).state.isRest = true ∧
      s.doorHeld 0 = false ∧ (s.door 0).pending = OpRow.noPending ∧ f.status.getLsbD 2 = (s.door 0).localOpen ∧
      f.status.getLsbD 3 = (s.door 0).localClose ∧
      ((midRound [1, 2] 100060 2).nextPoll 0 = some 1 ∧ ((midRound [1, 2] 100060 2).branch 0).pendingDirect = none) ∧
      ∀ d ∈ [{ bench.door 9 with drop := 0 }, { bench.door 9 with drop := 0, phase := .settling, settlingCount := 1 },
          { bench.door 0 with openSwitchCount := 1, disagreeCount := 1 }, settlesHeld],
        (polling (putDoor bench 0 d) 0).claimant 0 0 = some 0) ∧
    (let s := polling (putDoor bench 0 settlesHeld) 0
     let d := (after (.stationReplyFrame 0 (replyBytes 0 2 3580)) s).door 0
     s.doorHeld 0 = true ∧ settlesHeld.inService = true ∧ settlesHeld.state.isRest = true ∧
       settlesHeld.state ≠ d.indication.restState ∧ d.indication = .opened ∧ d.eventFaulted = false ∧ d.localOpen = false) ∧
    ∀ k ∈ [(3 : DropId), 4, 5, 6, 7],
      let s := polling bench k
      let i : DoorId := Fin.ofNat 48 k.val
      s.claimant 0 k = some i ∧ (s.door i).state.isRest = false ∧ s.Unlisted i = ((k ≠ 6) : Bool) ∧
        ((s.door i).state.drive = none ∨ k = 4) := by
  and_intros <;> decide +kernel

/-- Section 2.3 and 2.7, confirm count 2: the first reply of a door in AWAITING, the one that settles it, and a second
reply of a made switch out of its band. -/
theorem test_reply_stages :
    ([{ bench.door 9 with drop := 0 }, { bench.door 9 with drop := 0, phase := .settling, settlingCount := 1 },
        { bench.door 0 with disagreeCount := 0 }, { bench.door 0 with disagreeCount := 1 }].map fun d =>
      let e := (after (.stationReplyFrame 0 (replyBytes 0 2 2096)) (polling (putDoor bench 0 d) 0)).door 0
      (e.phase, e.settlingCount, e.openSwitch, e.openSwitchCount, e.disagreeCount, e.faults)) =
      [(.settling, 1, true, 0, 1, 0), (.settled, 2, false, 1, 0, 0), (.settled, 0, true, 0, 1, 0),
        (.settled, 0, true, 0, 2, 0x008)] := by decide +kernel

/-- Door 5 under supervision: its drive issued at `t0`, its mark at position 600 and the instant `m`. -/
def supervising (t0 m : Nat) : State :=
  putDoor nearlyClosed 4 { nearlyClosed.door 4 with
    stroke := some { someStroke .close with driveIssued := some t0, mark := some { position := 600, instant := m } } }

/-- A reply of door 5 to the poll in flight, and what becomes of the door. -/
def supervised (t0 m : Nat) (status : Byte) (count : Nat) : Door :=
  (after (.stationReplyFrame 0 (replyBytes 4 status count)) (polling (supervising t0 m) 4)).door 4

theorem witness_DrivenStrokesAreSupervised :
    let s := polling (supervising 60000 97000) 4
    let f : StationFrame := { drop := 5, kind := 0, sequence := 7, status := 1, count := 2393, data := [], crcGood := true }
    let x : Exchange := { drop := 4, kind := .regular, sequence := 7, deadline := 100000 }
    s.powered = true ∧ (s.branch 0).exchange = some x ∧ s.nextPoll 0 = none ∧
      readStationFrame (replyBytes 4 1 2393) = some f ∧
      f.goodFor x = true ∧ s.claimant 0 x.drop = some 4 ∧ s.doorHeld 4 = false ∧ s.Unlisted 4 ∧
      (s.door 4).stroke = some { someStroke .close with
        driveIssued := some 60000, mark := some { position := 600, instant := 97000 } } ∧
      (s.door 4).state = (someStroke .close).direction.driving ∧ 60000 < s.runCount ∧ (s.door 4).tail = none ∧
      f.status.getLsbD 2 = (s.door 4).localOpen ∧ f.status.getLsbD 3 = (s.door 4).localClose ∧
      (crowded.Unlisted 4 ∧ ((crowded.unit 1).list.map fun e => e.door).Nodup) := by decide +kernel

/-- Section 3.5: each outcome of a supervision step: completion, an indication UNKNOWN, a stroke timeout one ms past the
limit, a stall at the end of the window, progress by the stall delta, and a stroke that goes on. -/
theorem test_supervision_outcomes : (supervised 60000 97000 1 642).indication = .closed ∧
    (supervised 60000 97000 1 40).indication = .unknown ∧
    (hasFault (supervised 59999 99000 1 2364).faults .strokeTimeout = true ∧
      (supervised 59999 99000 1 2364).indication = .partly) ∧
    hasFault (supervised 60000 97000 1 2393).faults .stall = true ∧
    (supervised 60000 97000 1 2364).stroke.bind (fun r => r.mark) = some { position := 590, instant := 100000 } ∧
    (supervised 60000 97001 1 2393).stroke.bind (fun r => r.mark) = some { position := 600, instant := 97001 } := by
  decide +kernel

/-- Door 2 standing as `d`, polled; its next reply confirms a press or a let-go of a local control. -/
def touched (d : Door) : State :=
  polling (putDoor bench 1 { d with branch := 0, drop := 1, localOpenCount := 1, localCloseCount := 1 }) 1

/-- The reply with a status and a count, and how it leaves the door before the edges. -/
def touch (status : Byte) (count : Nat) : StationFrame :=
  { drop := 2, kind := 0, sequence := 7, status := status, count := count, data := [], crcGood := true }
def untouched (s : State) (status : Byte) (count : Nat) : Door :=
  ((s.reply 1 (touch status count).reply).takeResult 1).door 1

/-- What the statements on the local controls ask of every reply. -/
def touchOk (s : State) (status : Byte) (count : Nat) : Bool := decide <|
  s.powered = true ∧ (s.branch 0).exchange = some { drop := 1, kind := .regular, sequence := 7, deadline := 100000 } ∧
    s.nextPoll 0 = none ∧ readStationFrame (replyBytes 1 status count) = some (touch status count) ∧
    (touch status count).goodFor { drop := 1, kind := .regular, sequence := 7, deadline := 100000 } = true ∧
    s.claimant 0 1 = some 1 ∧ (s.link 0 1).lost = false ∧ s.polls 0 1 = false ∧ (s.door 1).phase ≠ .awaiting ∧
    (untouched s status count).state = (s.door 1).state

/-- The doors of the bench and some more, each with a status and a count that leave its state. -/
def touchDoors : List (Door × Byte × Nat) :=
  [(bench.door 0, 2, 3580), (bench.door 1, 1, 612), (bench.door 2, 0, 2096), (bench.door 3, 2, 3580),
   (bench.door 4, 0, 2364), (bench.door 5, 0, 1799), (bench.door 6, 2, 3580), (bench.door 7, 2, 3580),
   (bench.door 8, 0, 1502), ({ bench.door 9 with phase := .settled }, 0, 40), (queuedOpen.door 1, 1, 612),
   (turnedOpen.door 4, 0, 2364), ({ bench.door 1 with unit := 3 }, 1, 612),
   ({ bench.door 4 with state := .opening, stroke := some (someStroke .opening), lastDriven := some .opening }, 0, 2423)]

theorem witness_LocalControlsMoveTheDoor : (∀ x ∈ touchDoors, ∀ press ∈ [(4 : Byte), 8],
      let s := touched x.1
      touchOk s (x.2.1 ||| press) x.2.2 = true ∧
        (let e := untouched s (x.2.1 ||| press) x.2.2
         (!(s.door 1).localOpen && e.localOpen) = decide (press = 4) ∧
           (!(s.door 1).localClose && e.localClose) = decide (press = 8))) ∧
    (touchDoors.map fun x => x.1.state) = [.opened, .closed, .halted, .warning, .closing, .reversing .close,
      .queued .close, .recloseWait, .halted, .unknown, .queued .opening, .reversing .opening, .closed, .opening] ∧
    ((touched (bench.door 7)).doorHeld 1 = true ∧ ((touched (bench.door 8)).door 1).inService = false) ∧
    ((bench.unit 0).waits bench.cutoff.value = true ∧ (idlingClosed.unit 2).admitsAlone 1 false = true ∧
      (bench.unit 3).state = .failed) ∧
    (let s := touched (bench.door 1)
     touchOk s 13 612 = true ∧ (s.door 1).inService = true ∧ (s.door 1).state = .closed ∧ (s.unit 0).state = .starting ∧
       (!(s.door 1).localOpen && (untouched s 13 612).localOpen) = true ∧
       (!(s.door 1).localClose && (untouched s 13 612).localClose) = true) := by decide +kernel

theorem witness_LettingGoWaitsToReclose : (∀ x ∈ touchDoors, ∀ y ∈ [(held x.1, false), ({ x.1 with localOpen := true }, false),
      ({ held x.1 with faults := 0x100, inService := true }, true)],
      let s := touched y.1
      touchOk s x.2.1 x.2.2 = true ∧ (untouched s x.2.1 x.2.2).eventFaulted = y.2 ∧
        ((s.door 1).localOpen && !(untouched s x.2.1 x.2.2).localOpen) = true ∧
        (!(s.door 1).localClose && (untouched s x.2.1 x.2.2).localClose) = false) ∧
    ((touched (held (queuedOpen.door 1))).doorHeld 1 = true ∧ (touched (held (turnedOpen.door 4))).Unlisted 1) ∧
    (let s := putUnit (touched (held (turnedOpen.door 4))) 1 { bench.unit 1 with list := [someEntry 6, someEntry 0] }
     s.Unlisted 1 ∧ ((s.unit (s.door 1).unit).list.map fun e => e.door).Nodup ∧ (s.unit (s.door 1).unit).list ≠ []) := by
  decide +kernel

/-- The lead-ins of doors 4 and 11 have run out; PU1 in another state. -/
def leadInOut (x : PowerUnit) : State := putUnit { bench with runCount := 105000 } 0 x

theorem witness_LeadInsAndReversalsExpire : bench.powered = true ∧ ((bench.door 3).state = .warning ∧
      (bench.door 3).leadIn = some { cause := .console 0, expiry := 105000 } ∧ bench.runCount < 105000 ∧
      bench.OutputsHold) ∧ 105000 ≤ (leadInOut unitBase).runCount ∧
    (∀ x ∈ [unitBase, { unitBase with state := .gathering, list := [someEntry 6] }, { unitBase with state := .starting },
        { unitBase with state := .running, holders := [7, 8] }, { unitBase with state := .idling, slotLimit := 0 }],
      ((leadInOut x).unit ((leadInOut x).door 3).unit).waits (leadInOut x).cutoff.value = true) ∧
    (∀ x ∈ [{ unitBase with state := .running }, { unitBase with state := .idling, timer := some 106000 }],
      ((leadInOut x).unit ((leadInOut x).door 3).unit).admitsAlone 3 (leadInOut x).cutoff.value = true) ∧
    ((bench.door 10).state = .warning ∧ (bench.unit (bench.door 10).unit).state = .failed ∧
      (bench.door 10).leadIn = some { cause := .closure, expiry := 105000 }) ∧
    ((bench.door 5).state = .reversing .close ∧ (bench.door 5).mustWait .close 100399 = true ∧
      (bench.door 5).mustWait .close 100400 = false) := by decide +kernel

theorem witness_UnitTimersMoveTheUnit : bench.powered = true ∧ ((bench.unit 0).timer = some 103000 ∧ bench.runCount < 103000 ∧
      bench.OutputsHold) ∧
    (let s := putUnit bench 2 { unitBase with state := .gathering, timer := some 100000 }
     (s.unit 2).timer = some 100000 ∧ 100000 ≤ s.runCount ∧ (s.unit 2).state = .gathering) ∧
    (let s := putUnit bench 2 { unitBase with state := .idling, timer := some 100000 }
     (s.unit 2).timer = some 100000 ∧ (s.unit 2).state = .idling) ∧
    (let s := putUnit bench 2 { unitBase with state := .starting, timer := some 100000 }
     (s.unit 2).state = .starting ∧ (s.unit 2).pressLow.value = false ∧ (s.unit 2).holders = [] ∧ (s.unit 2).list = []) ∧
    ∀ a ∈ [true, false],
      let s : State := { manyWaiting with cutoff := Input.sampled a }
      s.powered = true ∧ (s.unit 2).timer = some 100000 ∧ 100000 ≤ s.runCount ∧ (s.unit 2).state = .starting ∧
       (s.unit 2).pressLow.value = false ∧ ((s.unit 2).list.map fun n => n.door).Nodup ∧ (s.unit 2).list.length = 3 ∧
       s.cutoff.value = a := by decide +kernel

theorem witness_PressureChangesAndFailures : (bench.powered = true ∧ bench.OutputsHold ∧
      (bench.unit 1).pressLow.value = false ∧ (bench.unit 1).pressLow.value ≠ true ∧ (bench.unit 1).state = .running ∧
      (bench.unit 0).state = .starting) ∧
    ((∀ i ∈ (bench.unit 1).holders, (bench.door i).unit = 1 ∧ (bench.door i).state.hasStroke = true) ∧
      (bench.unit 1).holders ≠ []) ∧
    (let s := putUnit { bench with runCount := 103000 } 0 { bench.unit 0 with pressLow := Input.sampled true }
     s.powered = true ∧ (s.unit 0).state = .starting ∧ (s.unit 0).pressLow.value = true ∧ (s.unit 0).timer = some 103000 ∧
       103000 ≤ s.runCount ∧ (∀ n ∈ (s.unit 0).list, (s.door n.door).unit = 0 ∧ n.door ∉ (s.unit 0).holders) ∧
       ((s.unit 0).list.map fun n => n.door).Nodup ∧ (s.unit 0).list ≠ []) := by decide +kernel

/-- The cutoff is active, and a RUNNING PU3 has doors 14, 2 and 3 waiting. -/
def cutWaiting : State :=
  let s := after .driveCutoffActive manyWaiting
  putUnit s 2 { s.unit 2 with state := .running, timer := none }

theorem witness_CutoffCutsEverySlotHolder : bench.powered = true ∧ bench.cutoff.value = false ∧
    (∀ u i, i ∈ (bench.unit u).holders ↔ (bench.door i).unit = u ∧ (bench.door i).state.hasStroke = true) ∧
    ((bench.unit 1).holders ≠ [] ∧ (bench.unit 1).list = []) ∧
    (let s := after .driveCutoffActive bench
     s.powered = true ∧ s.cutoff.value = true ∧ s.OutputsHold ∧
       ∀ u, (s.unit u).state = .running → (s.unit u).list = []) ∧
    (cutWaiting.powered = true ∧ cutWaiting.cutoff.value = true ∧
      (∀ u, (∀ e ∈ (cutWaiting.unit u).list, (cutWaiting.door e.door).unit = u) ∧
        ((cutWaiting.unit u).list.map fun e => e.door).Nodup) ∧
      (cutWaiting.unit 2).state = .running ∧ (cutWaiting.unit 2).takes false = 2 ∧ (cutWaiting.unit 2).list.length = 3) := by
  decide +kernel

/-- A trim step of −1 ms is due. -/
def trimming : State := { bench with clock := { bench.clock with trimInterval := 20, trimForward := false, trimTimer := some 100000 } }

theorem witness_CabinetLinesAndTrim : bench.powered = true ∧ bench.closeAll.value ≠ true ∧ bench.closeAll.value = false ∧
    bench.OutputsHold ∧ (bench.Unlisted 0 ∧ bench.doorHeld 0 = false ∧ (bench.door 0).installed = true ∧
      (bench.door 0).inService = true ∧ (bench.door 0).eventFaulted = false ∧ (bench.door 0).localOpen = false ∧
      (bench.door 0).state = .opened) ∧
    (trimming.powered = true ∧ trimming.clock.trimTimer = some 100000 ∧ 100000 ≤ trimming.runCount) ∧
    ({ trimming with runCount := 99999 } : State).runCount < 100000 ∧
    (bench.sync.edge = false ∧ bench.sync.sampled = false ∧
      (after .syncInEdge bench).sync.edge = false ∧ (after .syncInEdge bench).sync.sampled = true) ∧
    ({ line := true, sampled := false, edge := false } : SyncInput).sample.edge = true := by decide +kernel

theorem witness_SoundersAndLampsFollowTheirConditions : bench.MayOrder 0 ∧ bench.MayInstall 0 ∧ (bench.door 0).state.isRest = true := by
  decide +kernel

theorem witness_PowerOnLoadsTheImage :
    ((none : Option Image) = if (after (.save 0) bench).powered ∧ (after (.save 0) bench).store.saving ≠ none then none
      else (after (.save 0) bench).store.image) ∧
    some Image.defaults = (if bench.powered ∧ bench.store.saving ≠ none then none else bench.store.image) ∧
    Image.defaults = (none : Option Image).getD Image.defaults ∧
    (let t := after (.powerOn true false false 0 false) { bench with store := { bench.store with
        image := some bench.settingsImage } }
     (bench.settingsImage.branches[(2 : BranchId)].enable = false ∧ bench.settingsImage.branches[(3 : BranchId)].enable = true ∧
       bench.settingsImage.branches[(0 : BranchId)].enable = true) ∧ t.claimedDrops 3 = [] ∧
       t.claimedDrops 1 = 1 :: [2] ∧ t.claimant 1 1 = some 12) := by decide +kernel

end Sys2Proof.Tests
end

