-- ==== Sys2Proof/Proofs/WarningSignals.lean ====
section
/-! SUPPORT. The sounder and the lamp of a door's signal command (R106, R109): what each is on for, and the two orders
that move the lamp. That the lamp follows HOLD_ZONES and SET of zone rests on one fact of its own: whatever becomes of a
door in taking a change of the holds, its zone stays. -/

namespace Sys2Proof.Machine

/-! ### Numbers and zone sets -/

/-- The manual's number of an index names that index. -/
@[simp] theorem numbered_number {n : Nat} (i : Fin n) : numbered n (number i) = some i := by
  simp [numbered, number]

/-- R79: a zone is held exactly if some holder's set contains it. -/
theorem zoneIn_union (h : Holds) (z : ZoneId) :
    zoneIn h.union z = true ↔
      (∃ q : PortId, zoneIn h.console[q] z = true) ∨ zoneIn h.line z = true ∨ zoneIn h.start z = true := by
  simp [Holds.union, zoneIn, Fin.exists_fin_succ, or_assoc]

/-- R84: zones that join a console's set join the union. -/
theorem zoneIn_union_hold (h : Holds) (p : PortId) (m : ZoneSet) (z : ZoneId) :
    zoneIn (h.setConsole p (h.console[p] ||| m)).union z = (zoneIn h.union z || zoneIn m z) := by
  match p with
  | 0 => simp [Holds.union, Holds.setConsole, zoneIn]; ac_rfl
  | 1 => simp [Holds.union, Holds.setConsole, zoneIn]; ac_rfl
  | 2 => simp [Holds.union, Holds.setConsole, zoneIn]; ac_rfl

/-! ### Work on doors keeps their zones -/

/-- Every door is in the zone it was in. -/
def ZonesKept (s t : State) : Prop := ∀ j, (t.door j).zone = (s.door j).zone

theorem ZonesKept.refl (s : State) : ZonesKept s s := fun _ => rfl

theorem ZonesKept.trans {s t u : State} (h : ZonesKept s t) (k : ZonesKept t u) : ZonesKept s u :=
  fun j => (k j).trans (h j)

theorem ZonesKept.of_doors {s t : State} (h : t.doors = s.doors) : ZonesKept s t := fun j => by simp [State.door, h]

theorem zonesKept_modDoor (s : State) (i : DoorId) {f : Door → Door} (hf : ∀ d, (f d).zone = d.zone) :
    ZonesKept s (s.modDoor i f) := by
  intro j
  rw [State.door_modDoor]
  split
  · next h => rw [h, hf]
  · rfl

theorem zonesKept_modUnit (s : State) (u : UnitId) (f : PowerUnit → PowerUnit) : ZonesKept s (s.modUnit u f) :=
  .of_doors (by simp)

theorem zonesKept_forDoors (l : List DoorId) (f : DoorId → State → State) (h : ∀ i s, ZonesKept s (f i s)) :
    ∀ s : State, ZonesKept s (s.forDoors l f) := by
  induction l with
  | nil => exact ZonesKept.refl
  | cons i l ih => exact fun s => (h i s).trans (ih _)

/-! States, faults and rest (Ops, Rest). -/

theorem zonesKept_setState (s : State) (i : DoorId) (st : DoorState) : ZonesKept s (s.setState i st) :=
  zonesKept_modDoor s i fun _ => rfl

theorem zonesKept_setSource (s : State) (i : DoorId) (src : Source) : ZonesKept s (s.setSource i src) :=
  zonesKept_modDoor s i fun _ => rfl

theorem zonesKept_driveOffNow (s : State) (i : DoorId) : ZonesKept s (s.driveOffNow i) := by
  simp only [State.driveOffNow]; split
  · exact zonesKept_modDoor s i fun _ => rfl
  · exact .refl s

theorem zonesKept_followCondition (s : State) (i : DoorId) (k : FaultKind) (c : Bool) :
    ZonesKept s (s.followCondition i k c) := by
  simp only [State.followCondition, State.raiseCondition]; split
  · split
    · exact .refl s
    · exact zonesKept_modDoor s i fun _ => rfl
  · exact zonesKept_modDoor s i fun _ => rfl

theorem zonesKept_enterWarning (s : State) (i : DoorId) (c : Cause) : ZonesKept s (s.enterWarning i c) :=
  (zonesKept_setState s i .warning).trans (zonesKept_modDoor _ i fun _ => rfl)

theorem zonesKept_closureDemand (s : State) (i : DoorId) : ZonesKept s (s.closureDemand i) := by
  simp only [State.closureDemand]; split
  · exact (zonesKept_enterWarning s i _).trans (zonesKept_setSource _ i _)
  · exact .refl s

theorem zonesKept_applyAtRest (s : State) (i : DoorId) : ZonesKept s (s.applyAtRest i) := by
  simp only [State.applyAtRest]; split
  · exact .refl s
  · exact zonesKept_modDoor s i fun _ => rfl

theorem zonesKept_enterRest (s : State) (i : DoorId) (st : DoorState) : ZonesKept s (s.enterRest i st) :=
  ((zonesKept_setState s i st).trans (zonesKept_applyAtRest _ i)).trans (zonesKept_closureDemand _ i)

/-! Admission and the ends of strokes (Admission, Strokes). -/

theorem zonesKept_deadTimeTest (s : State) (i : DoorId) (dir : Dir) : ZonesKept s (s.deadTimeTest i dir) :=
  zonesKept_setState s i _

theorem zonesKept_admitHead (s : State) (u : UnitId) (e : Entry) : ZonesKept s (s.admitHead u e) := by
  simp only [State.admitHead]
  refine ((zonesKept_modUnit s u _).trans (zonesKept_modDoor _ e.door ?_)).trans (zonesKept_deadTimeTest _ _ _)
  exact fun _ => rfl

theorem zonesKept_admitUpTo (u : UnitId) (n : Nat) : ∀ s : State, ZonesKept s (s.admitUpTo u n) := by
  induction n with
  | zero => exact ZonesKept.refl
  | succ n ih =>
    intro s
    simp only [State.admitUpTo]
    split
    · exact .refl s
    · split
      · exact (zonesKept_admitHead s u _).trans (ih _)
      · exact .refl s

theorem zonesKept_admissionRun (s : State) (u : UnitId) : ZonesKept s (s.admissionRun u) := by
  simp only [State.admissionRun]; split
  · exact zonesKept_admitUpTo u _ s
  · exact .refl s

theorem zonesKept_idleIfDone (s : State) (u : UnitId) : ZonesKept s (s.idleIfDone u) := by
  simp only [State.idleIfDone]; split
  · exact zonesKept_modUnit s u _
  · exact .refl s

theorem zonesKept_leaveList (s : State) (i : DoorId) : ZonesKept s (s.leaveList i) := by
  simp only [State.leaveList]; split
  · exact (zonesKept_modUnit s _ _).trans (zonesKept_modUnit _ _ _)
  · exact (zonesKept_modUnit s _ _).trans (zonesKept_idleIfDone _ _)

theorem zonesKept_unitJoined (s : State) (u : UnitId) (cls : Nat) : ZonesKept s (s.unitJoined u cls) := by
  simp only [State.unitJoined]
  split
  case h_1 =>
    split
    · exact zonesKept_modUnit s u _
    · exact zonesKept_modUnit s u _
  case h_2 =>
    split
    · exact zonesKept_modUnit s u _
    · exact .refl s
  case h_3 => exact .refl s
  case h_4 => exact zonesKept_admissionRun s u
  case h_5 => exact (zonesKept_modUnit s u _).trans (zonesKept_admissionRun _ u)
  case h_6 => exact .refl s

theorem zonesKept_freeSlot (s : State) (i : DoorId) : ZonesKept s (s.freeSlot i) := by
  simp only [State.freeSlot]
  exact ((zonesKept_modUnit s _ _).trans (zonesKept_admissionRun _ _)).trans (zonesKept_idleIfDone _ _)

theorem zonesKept_endStroke (s : State) (i : DoorId) : ZonesKept s (s.endStroke i) := by
  simp only [State.endStroke]
  refine ((zonesKept_driveOffNow s i).trans (zonesKept_freeSlot _ i)).trans (zonesKept_modDoor _ i ?_)
  exact fun _ => rfl

theorem zonesKept_endWork (s : State) (i : DoorId) : ZonesKept s (s.endWork i) := by
  simp only [State.endWork]
  split
  case h_1 => exact zonesKept_leaveList s i
  case h_5 => exact .refl s
  all_goals exact zonesKept_endStroke s i

/-! A change of the holds (Holding). -/

theorem zonesKept_moveToClass0 (s : State) (i : DoorId) : ZonesKept s (s.moveToClass0 i) := by
  simp only [State.moveToClass0]
  split
  · split
    · exact (zonesKept_modUnit s _ _).trans (zonesKept_unitJoined _ _ _)
    · exact .refl s
  · exact .refl s

/-- R89: what becomes of a door that opens, or waits to, as its zone becomes held. -/
theorem zonesKept_heldWhileOpening (s : State) (i : DoorId) (localOpen faulted : Bool) :
    ZonesKept s (if localOpen then s.makeHoldToRun i
      else if faulted then s.stopToRest i
      else (s.passToWarning i .closure).setSource i .closure) := by
  split
  · exact (zonesKept_modUnit s _ _).trans (zonesKept_modDoor _ i fun _ => rfl)
  · split
    · exact (zonesKept_endWork s i).trans (zonesKept_enterRest _ i _)
    · exact ((zonesKept_endWork s i).trans (zonesKept_enterWarning _ i _)).trans (zonesKept_setSource _ i _)

theorem zonesKept_doorBecomesHeld (s : State) (i : DoorId) : ZonesKept s (s.doorBecomesHeld i) := by
  have opening := zonesKept_heldWhileOpening s i (s.door i).localOpen (s.door i).eventFaulted
  have demand := zonesKept_closureDemand s i
  have warned := zonesKept_modDoor s i
    (f := fun d => { d with leadIn := d.leadIn.map fun l => { l with cause := l.cause.fromConsole .closure } })
    fun _ => rfl
  have listed := zonesKept_moveToClass0 s i
  have same := ZonesKept.refl s
  simp only [State.doorBecomesHeld]
  split <;> assumption

theorem zonesKept_doorReleased (s : State) (i : DoorId) : ZonesKept s (s.doorReleased i) := by
  simp only [State.doorReleased]; split
  · exact zonesKept_enterRest s i _
  · exact .refl s

theorem zonesKept_takeUnionChange (old : ZoneSet) (i : DoorId) (s : State) :
    ZonesKept s (State.takeUnionChange old i s) := by
  simp only [State.takeUnionChange]
  split
  · exact .refl s
  · split
    · exact (zonesKept_doorBecomesHeld s i).trans (zonesKept_followCondition _ i _ _)
    · exact (zonesKept_doorReleased s i).trans (zonesKept_followCondition _ i _ _)

/-- R82: a change of the holds map leaves every door in its zone. -/
theorem zonesKept_setHolds (s : State) (h : Holds) : ZonesKept s (s.setHolds h) :=
  ZonesKept.trans (t := { s with holds := h }.touchIf (s.holds != h)) (.of_doors (by simp))
    (zonesKept_forDoors _ _ (zonesKept_takeUnionChange _) _)

/-- R82: the holds map after its change is the one written. -/
theorem holds_setHolds (s : State) (h : Holds) : (s.setHolds h).holds = h := by rw [(onlyDoors_setHolds s h).rest]

/-! ### SET of zone -/

theorem onlyDoors_writeZone (z : ZoneId) (i : DoorId) (s : State) : OnlyDoors s (State.writeZone z i s) := by
  have written := onlyDoors_modDoor s i fun d => { d with zone := z }
  simp only [State.writeZone]
  split
  · split
    · exact (written.trans (onlyDoors_doorBecomesHeld _ i)).trans (onlyDoors_updateNotControlled _ i)
    · exact written.trans (onlyDoors_updateNotControlled _ i)
  · exact written

/-- R10: the door is in the zone written, also where the new zone is held and is taken as just become so. -/
theorem zone_writeZone (z : ZoneId) (i : DoorId) (s : State) : ((State.writeZone z i s).door i).zone = z := by
  have written : ((s.modDoor i fun d => { d with zone := z }).door i).zone = z := by simp
  simp only [State.writeZone]
  split
  · split
    · exact (((zonesKept_doorBecomesHeld _ i).trans (zonesKept_followCondition _ i _ _)) i).trans written
    · exact (zonesKept_followCondition _ i _ _ i).trans written
  · exact written

/-- R5 to R7: SET of zone for a door at rest, at a COMMAND port with the lock open: the zone is written, unless it is
the door's already. -/
theorem setZone_atRest {s : State} {p : PortId} {i : DoorId} (z : ZoneId) (hc : s.commands p = true)
    (hl : s.store.lockOpen = true) (hr : (s.door i).state.isRest = true) :
    (s.setZone p (.door (number i)) (number z)).state =
      if (s.door i).zone = z then s else State.writeZone z i s := by
  simp only [State.setZone, numbered_number, State.setInstallation, State.asCommand, hc, State.asUnlocked, hl, hr]
  by_cases h : (s.door i).zone = z
  · simp [h, State.answer]
  · simp [h, State.answer]

/-- R10: after a SET of zone for a door at rest, the door's zone is held exactly if the new zone was. -/
theorem doorHeld_setZone {s : State} {p : PortId} {i : DoorId} (z : ZoneId) (hc : s.commands p = true)
    (hl : s.store.lockOpen = true) (hr : (s.door i).state.isRest = true) :
    (s.setZone p (.door (number i)) (number z)).state.doorHeld i = s.held z := by
  rw [setZone_atRest z hc hl hr]
  split
  · next h => rw [State.doorHeld, h]
  · rw [State.doorHeld, zone_writeZone, State.held, State.held, (onlyDoors_writeZone z i s).rest]

/-! ### The signal command -/

/-- R106: the cause of an entry or stroke record sounds exactly if there is a record whose cause is not LOCAL. -/
theorem any_remote_iff {α : Type} (x : Option α) (cause : α → Cause) :
    (x.any fun a => (cause a).remote) = true ↔ ∃ a, x = some a ∧ cause a ≠ .localControl := by
  have remote_iff : ∀ c : Cause, c.remote = true ↔ c ≠ .localControl := by
    intro c; cases c <;> simp [Cause.remote]
  simp [Option.any_eq_true, remote_iff]

/-- R106: the four conditions of the sounder. -/
theorem sounder_iff (s : State) (i : DoorId) :
    (s.signalCommand i).sounder = true ↔ (s.door i).test ≠ none ∨ (s.door i).state = .warning ∨
      (s.door i).state = .queued .close ∧ ((∃ n, s.entryOf i = some n ∧ n.cause ≠ .localControl) ∨ s.doorHeld i = true) ∨
      (s.door i).state ∈ [.reversing .close, .closing] ∧
        ((∃ r, (s.door i).stroke = some r ∧ r.cause ≠ .localControl) ∨ s.doorHeld i = true) := by
  rw [← any_remote_iff (s.entryOf i) Entry.cause, ← any_remote_iff (s.door i).stroke Stroke.cause]
  simp only [State.signalCommand, Door.signals, Door.sounder, Option.any_map, Bool.or_eq_true,
    Option.isSome_iff_ne_none]
  refine or_congr_right ?_
  split
  · next h => simp [h]
  · next h => simp [h]
  · next h => simp [h]
  · next h => simp [h]
  · simp_all

/-- R109: the lamp is on exactly while the door's zone is held. -/
@[simp] theorem lamp_signalCommand (s : State) (i : DoorId) : (s.signalCommand i).lamp = s.doorHeld i := rfl

/-! ### The two orders -/

theorem exec_holdZones {s : State} (hp : s.powered = true) (p : PortId) (t : Target) :
    exec (.holdZones p t) s = .next (s.itemCommand p (.order .holdZones t)) := by
  change execHoldZones p t s = _
  simp [execHoldZones, State.live, hp]

theorem exec_setZone {s : State} (hp : s.powered = true) (p : PortId) (t : Target) (v : Nat) :
    exec (.setZone p t v) s = .next (s.itemCommand p (.set (.zone v) t)) := by
  change execSetZone p t v s = _
  simp [execSetZone, State.live, hp]

/-- The taking of an item leaves the role of its port. -/
theorem commands_taking {s : State} {p : PortId} (hr : (s.port p).role = .command) (it : Item) :
    (s.taking p it).commands p = true := by
  simp [State.commands, State.taking, State.beginRequest, State.port_modPort, hr]

theorem door_taking (s : State) (p : PortId) (it : Item) (i : DoorId) : (s.taking p it).door i = s.door i := by
  simp [State.taking, State.beginRequest, State.door]

theorem store_taking (s : State) (p : PortId) (it : Item) : (s.taking p it).store = s.store := by
  simp [State.taking, State.beginRequest]

theorem held_taking (s : State) (p : PortId) (it : Item) (z : ZoneId) : (s.taking p it).held z = s.held z := by
  simp [State.held, State.taking, State.beginRequest]

/-- The outputs and the end of an item touch neither doors nor holds, so no lamp. -/
theorem lamp_endItem_evalOutputs (s : State) (p : PortId) (e : List Byte) (i : DoorId) :
    ((s.evalOutputs.endItem p e).signalCommand i).lamp = (s.signalCommand i).lamp := by
  simp [State.doorHeld, State.held, State.door, State.endItem]

/-- R84: the answer of a COMMAND port's HOLD_ZONES. -/
theorem ordering_holdZones {s : State} {p : PortId} (hc : s.commands p = true) (m : ZoneSet) :
    s.ordering p (.zoneSet m) .holdZones =
      ((s.setHolds (s.holds.setConsole p (s.holds.console[p] ||| m))).answer .ok).withOutputs := by
  simp [State.ordering, State.orderHoldZones, State.asCommand, hc]

/-- R84, R109: the lamp after a console's set has taken in the zones of a set. -/
theorem lamp_setHolds_hold (s : State) (p : PortId) (m : ZoneSet) (j : DoorId) :
    ((s.setHolds (s.holds.setConsole p (s.holds.console[p] ||| m))).signalCommand j).lamp =
      (s.held (s.door j).zone || zoneIn m (s.door j).zone) := by
  simp only [lamp_signalCommand, State.doorHeld, State.held]
  rw [holds_setHolds, zonesKept_setHolds s _ j, zoneIn_union_hold]

/-- R84, R109: after a HOLD_ZONES the lamps of all doors of its zones are on, and no other lamp has changed. -/
theorem lamp_holdZones {s : State} {p : PortId} (h : s.MayOrder p) (m : ZoneSet) (j : DoorId) :
    ((s.itemCommand p (.order .holdZones (.zoneSet m))).signalCommand j).lamp =
      ((s.signalCommand j).lamp || zoneIn m (s.door j).zone) := by
  obtain ⟨free, role⟩ := h
  rw [itemCommand_order free (by simp) rfl, ordering_holdZones (commands_taking role _), Answer.withOutputs,
    lamp_endItem_evalOutputs, State.answer, lamp_setHolds_hold, door_taking, held_taking]
  rfl

/-- R10, R109: after a SET of zone for a door at rest, its lamp follows the new zone. -/
theorem lamp_setZone {s : State} {p : PortId} {i : DoorId} (h : s.MayInstall p) (hr : (s.door i).state.isRest = true)
    (z : ZoneId) :
    ((s.itemCommand p (.set (.zone (number z)) (.door (number i)))).signalCommand i).lamp = s.held z := by
  obtain ⟨⟨free, role⟩, unlocked⟩ := h
  rw [itemCommand_set free (by simp [itemMalformed, Target.malformed]), Answer.withOutputs, lamp_endItem_evalOutputs,
    lamp_signalCommand, State.setting,
    doorHeld_setZone z (commands_taking role _) (by rwa [store_taking]) (by rwa [door_taking]), held_taking]

/-- Settles O59: the sounder and the lamp by the signal command's own equations, then the two orders. -/
theorem soundersAndLampsFollowTheirConditions : Obligations.SoundersAndLampsFollowTheirConditions := by
  intro s p m i z
  refine ⟨sounder_iff s i, zoneIn_union s.holds (s.door i).zone, fun h => ?_, fun h hr => ?_⟩
  · exact ⟨_, exec_holdZones h.1.1 p _, lamp_holdZones h m⟩
  · exact ⟨_, exec_setZone h.1.1.1 p _ _, lamp_setZone h hr z⟩

end Sys2Proof.Machine
end

section
/-! SUPPORT. The commissioning lock (R182). Only a power-on opens it: every other piece of work leaves it as it is
(`LockKept`), but for the order LOCK, which closes it. So no item of a request and no event opens it, whatever a frame
carries. A SET that the lock guards meets the lock before it looks at its target. -/

namespace Sys2Proof.Machine

/-! ### Work that leaves the lock as it is -/

/-- The lock stands as it stood. -/
def LockKept (s t : State) : Prop := t.store.lockOpen = s.store.lockOpen

theorem LockKept.refl (s : State) : LockKept s s := rfl

theorem LockKept.trans {s t u : State} (h : LockKept s t) (k : LockKept t u) : LockKept s u := Eq.trans k h

theorem LockKept.of_store {s t : State} (h : t.store = s.store) : LockKept s t := congrArg Store.lockOpen h

/-- Work on doors and units does not reach the Settings Store. -/
theorem OnlyDoors.lockKept {s t : State} (h : OnlyDoors s t) : LockKept s t := .of_store (by rw [h.rest])

/-- Work on a branch does not reach the Settings Store. -/
theorem OnlyLinks.lockKept {s t : State} (h : OnlyLinks s t) : LockKept s t := .of_store (by rw [h.rest])

theorem lockKept_modDoor (s : State) (i : DoorId) (f : Door → Door) : LockKept s (s.modDoor i f) := .of_store (by simp)

theorem lockKept_modUnit (s : State) (u : UnitId) (f : PowerUnit → PowerUnit) : LockKept s (s.modUnit u f) :=
  .of_store (by simp)

theorem lockKept_modBranch (s : State) (b : BranchId) (f : Branch → Branch) : LockKept s (s.modBranch b f) :=
  .of_store (by simp)

theorem lockKept_modPort (s : State) (p : PortId) (f : Port → Port) : LockKept s (s.modPort p f) := .of_store (by simp)

theorem lockKept_mapPorts (s : State) (f : PortId → Port → Port) : LockKept s (s.mapPorts f) := .of_store rfl

theorem lockKept_evalOutputs (s : State) : LockKept s s.evalOutputs := .of_store (by simp)

/-- A write of the Settings Store that does not name the lock. -/
theorem lockKept_modStore (s : State) {f : Store → Store} (hf : ∀ x, (f x).lockOpen = x.lockOpen) :
    LockKept s (s.modStore f) := by
  simp only [LockKept, State.modStore_store, hf]

theorem lockKept_foldl {α : Type} {f : State → α → State} (h : ∀ s a, LockKept s (f s a)) (l : List α) :
    ∀ s, LockKept s (l.foldl f s) := by
  induction l with
  | nil => exact LockKept.refl
  | cons a l ih => exact fun s => (h s a).trans (ih _)

theorem lockKept_forDoors (s : State) (l : List DoorId) {f : DoorId → State → State}
    (h : ∀ i s, LockKept s (f i s)) : LockKept s (s.forDoors l f) :=
  lockKept_foldl (fun s i => h i s) l s

theorem lockKept_setHolds (s : State) (h : Holds) : LockKept s (s.setHolds h) :=
  .of_store (by rw [(onlyDoors_setHolds s h).rest])

/-! ### Answers -/

theorem LockKept.asCommand {s : State} {p : PortId} {k : Answer} (h : LockKept s k.state) :
    LockKept s (s.asCommand p k).state := by
  simp only [State.asCommand]; split
  · exact h
  · exact .refl s

theorem LockKept.asUnlocked {s : State} {k : Answer} (h : LockKept s k.state) : LockKept s (s.asUnlocked k).state := by
  simp only [State.asUnlocked]; split
  · exact h
  · exact .refl s

theorem LockKept.withOutputs {s : State} {a : Answer} (h : LockKept s a.state) : LockKept s a.withOutputs.state :=
  h.trans (lockKept_evalOutputs _)

/-- An order that names one door is work on doors when its per-door rule is. -/
theorem onlyDoors_doorOnly (s : State) (t : Target) (f : DoorOrder) (h : ∀ i s, OnlyDoors s (f i s).1) :
    OnlyDoors s (s.doorOnly t f).state := by
  simp only [State.doorOnly]; split
  · exact onlyDoors_doorOrder _ _ _ h
  · exact OnlyDoors.refl s

/-! ### Orders (R162) -/

theorem lockKept_orderService (s : State) (p : PortId) (t : Target) (v : Nat) :
    LockKept s (s.orderService p t v).state := by
  refine LockKept.asCommand (OnlyDoors.lockKept ?_)
  split
  · exact onlyDoors_doorOnly _ _ _ fun i s => onlyDoors_serviceOut p i s
  · exact onlyDoors_doorOnly _ _ _ fun i s => onlyDoors_serviceIn p i s
  · exact onlyDoors_doorOnly _ _ _ fun _ s => OnlyDoors.refl s

theorem lockKept_orderHoldZones (s : State) (p : PortId) (t : Target) : LockKept s (s.orderHoldZones p t).state := by
  refine LockKept.asCommand ?_
  split
  · exact lockKept_setHolds _ _
  · exact .refl s

theorem lockKept_orderReleaseZones (s : State) (p : PortId) (t : Target) :
    LockKept s (s.orderReleaseZones p t).state := by
  refine LockKept.asCommand ?_
  split
  · exact lockKept_setHolds _ _
  · exact .refl s

theorem lockKept_orderReleaseForeign (s : State) (p : PortId) (t : Target) :
    LockKept s (s.orderReleaseForeign p t).state := by
  refine LockKept.asCommand ?_
  split
  · exact lockKept_setHolds _ _
  · exact .refl s
  · split
    · exact .refl s
    · split
      · exact .refl s
      · exact lockKept_setHolds _ _
  · exact .refl s

theorem lockKept_releaseSettings (s : State) : LockKept s s.releaseSettings :=
  lockKept_forDoors { s with settingsHold := false } _ fun i s => (onlyDoors_applyPending s i).lockKept

theorem lockKept_orderSettingsHold (s : State) (p : PortId) (v : Nat) : LockKept s (s.orderSettingsHold p v).state := by
  refine LockKept.asCommand ?_
  split
  · exact lockKept_releaseSettings s
  all_goals exact .refl s

theorem lockKept_orderResetUnit (s : State) (p : PortId) (t : Target) : LockKept s (s.orderResetUnit p t).state := by
  have demands : ∀ (t : State) l, LockKept t (t.forDoors l fun i t => t.closureDemand i) := fun t l =>
    lockKept_forDoors t l fun i t => (onlyDoors_closureDemand t i).lockKept
  refine LockKept.asCommand ?_
  split
  · split
    · exact .refl s
    · dsimp only
      split
      · exact .refl s
      · refine LockKept.trans ?_ (demands _ _)
        split
        · exact lockKept_modUnit _ _ _
        · exact .refl s
  · exact .refl s

theorem lockKept_orderAck (s : State) (p : PortId) (t : Target) : LockKept s (s.orderAck p t).state := by
  refine LockKept.asCommand (OnlyDoors.lockKept ?_)
  split
  · exact onlyDoors_forDoors _ _ _ fun i s => onlyDoors_ackDoor i s
  · exact onlyDoors_doorOrZone _ _ _ fun i s => onlyDoors_ackDoor i s

theorem lockKept_orderAckPort (s : State) (p : PortId) (t : Target) : LockKept s (s.orderAckPort p t).state := by
  refine LockKept.asCommand ?_
  split
  · split
    · exact lockKept_modPort _ _ _
    · exact .refl s
  · exact .refl s

theorem lockKept_orderAckUnit (s : State) (p : PortId) (t : Target) : LockKept s (s.orderAckUnit p t).state := by
  refine LockKept.asCommand ?_
  split
  · split
    · exact lockKept_modUnit _ _ _
    · exact .refl s
  · exact .refl s

/-- The clock's orders write the clock where their operand is in range. -/
theorem lockKept_clockOrder (s : State) (p : PortId) (legal : Bool) (f : Clock → Clock) :
    LockKept s (s.asCommand p (if legal then (s.modClock f).answer .ok else s.answer .range)).state := by
  cases legal
  · exact LockKept.asCommand (.refl s)
  · exact LockKept.asCommand (.of_store rfl)

theorem lockKept_orderSave (s : State) (p : PortId) : LockKept s (s.orderSave p).state := by
  refine LockKept.asCommand ?_
  split
  · exact .refl s
  · split
    · exact .refl s
    · exact lockKept_modStore s fun _ => rfl

theorem lockKept_orderRestart (s : State) (p : PortId) : LockKept s (s.orderRestart p).state := by
  refine LockKept.asCommand ?_
  split
  · exact .refl s
  · split
    · exact .refl s
    · exact lockKept_modStore s fun _ => rfl

/-- R162, R182: every order but LOCK leaves the lock as it is. -/
theorem lockKept_ordering (s : State) (p : PortId) (t : Target) {o : OrderOp} (ho : o ≠ .lock) :
    LockKept s (s.ordering p t o).state := by
  have doors : ∀ {f : DoorOrder}, (∀ i s, OnlyDoors s (f i s).1) →
      LockKept s (s.asCommand p (s.doorOrZone t f)).withOutputs.state := fun h =>
    (onlyDoors_doorOrZone s t _ h).lockKept.asCommand.withOutputs
  cases o with
  | close => exact doors fun i s => onlyDoors_closeDoor p i s
  | openDoor => exact doors fun i s => onlyDoors_openDoor p i s
  | stop => exact doors fun i s => onlyDoors_stopDoor p i s
  | service v => exact (lockKept_orderService s p t v).withOutputs
  | holdZones => exact (lockKept_orderHoldZones s p t).withOutputs
  | releaseZones => exact (lockKept_orderReleaseZones s p t).withOutputs
  | releaseForeign => exact (lockKept_orderReleaseForeign s p t).withOutputs
  | resetFaults => exact doors fun i s => onlyDoors_resetDoor i s
  | settingsHold v => exact lockKept_orderSettingsHold s p v
  | signalTest => exact (onlyDoors_doorOnly s t _ fun i s => onlyDoors_testDoor i s).lockKept.asCommand
  | resetUnit => exact (lockKept_orderResetUnit s p t).withOutputs
  | ack => exact (lockKept_orderAck s p t).withOutputs
  | ackPort => exact (lockKept_orderAckPort s p t).withOutputs
  | ackUnit => exact (lockKept_orderAckUnit s p t).withOutputs
  | clockLoad day ms => exact lockKept_clockOrder s p _ _
  | clockAdjust delta => exact lockKept_clockOrder s p _ _
  | clockArm day ms => exact lockKept_clockOrder s p _ _
  | clockDisarm => exact lockKept_clockOrder s p true _
  | save => exact lockKept_orderSave s p
  | lock => exact absurd rfl ho
  | restart => exact lockKept_orderRestart s p

/-! ### SETs (R161) -/

/-- R5: an installation SET, whose write is work on a door and its branch. -/
theorem lockKept_setInstallation (s : State) (p : PortId) (t : Target) (legal same : DoorId → Bool) (anyState : Bool)
    {write : DoorId → State → State} (hw : ∀ i s, LockKept s (write i s)) :
    LockKept s (s.setInstallation p t legal same anyState write).state := by
  refine LockKept.asCommand (LockKept.asUnlocked ?_)
  split
  · split
    · exact .refl s
    · split
      · exact .refl s
      · split
        · exact .refl s
        · split
          · exact .refl s
          · exact hw _ s
  · exact .refl s

theorem lockKept_raiseBranchOff (s : State) (i : DoorId) : LockKept s (s.raiseBranchOff i) := by
  simp only [State.raiseBranchOff]; split
  · exact (onlyDoors_raiseCondition s i _).lockKept
  · exact .refl s

theorem lockKept_install (i : DoorId) (s : State) : LockKept s (State.install i s) :=
  ((((lockKept_modDoor s i _).trans (onlyLinks_claimPair _ _ _).lockKept).trans (lockKept_raiseBranchOff _ i)).trans
    (onlyDoors_unsettle _ i).lockKept).trans (onlyDoors_updateNotControlled _ i).lockKept

theorem lockKept_remove (i : DoorId) (s : State) : LockKept s (State.remove i s) := by
  simp only [State.remove]
  exact ((lockKept_modDoor s i _).trans (lockKept_mapPorts _ _)).trans (onlyLinks_releasePair _ _ _).lockKept

theorem lockKept_moved (s : State) (i : DoorId) (b : BranchId) (d : DropId) : LockKept s (s.moved i b d) := by
  have cleared : ∀ (t : State) k, LockKept t (t.clearFault i k) := fun t k => (onlyDoors_clearFault t i k).lockKept
  simp only [State.moved]
  exact (((((onlyLinks_claimPair s _ _).lockKept.trans (cleared _ _)).trans (cleared _ _)).trans
    (lockKept_raiseBranchOff _ i)).trans (onlyDoors_unsettle _ i).lockKept).trans (onlyLinks_releasePair _ b d).lockKept

theorem lockKept_writePair (s : State) (i : DoorId) (f : Door → Door) : LockKept s (s.writePair i f) := by
  simp only [State.writePair]; split
  · exact (lockKept_modDoor s i f).trans (lockKept_moved _ i _ _)
  · exact lockKept_modDoor s i f

theorem lockKept_writeGeometry (c o : Nat) (i : DoorId) (s : State) : LockKept s (State.writeGeometry c o i s) := by
  simp only [State.writeGeometry]; split
  · exact (lockKept_modDoor s i _).trans (onlyDoors_unsettle _ i).lockKept
  · exact lockKept_modDoor s i _

/-- The SET of an installation number that names no part is refused, and writes nothing. -/
theorem lockKept_illegalInstallation (s : State) (p : PortId) (t : Target) :
    LockKept s (s.setInstallation p t (fun _ => false) (fun _ => false) false fun _ s => s).state :=
  lockKept_setInstallation s p t _ _ _ fun _ s => .refl s

theorem lockKept_setInstalled (s : State) (p : PortId) (t : Target) (v : Nat) :
    LockKept s (s.setInstalled p t v).state := by
  refine lockKept_setInstallation s p t _ _ _ fun i s => ?_
  split
  · exact lockKept_install i s
  · exact lockKept_remove i s

theorem lockKept_setBranch (s : State) (p : PortId) (t : Target) (v : Nat) : LockKept s (s.setBranch p t v).state := by
  simp only [State.setBranch]; split
  · exact lockKept_setInstallation s p t _ _ _ fun i s => lockKept_writePair s i _
  · exact lockKept_illegalInstallation s p t

theorem lockKept_setDrop (s : State) (p : PortId) (t : Target) (v : Nat) : LockKept s (s.setDrop p t v).state := by
  simp only [State.setDrop]; split
  · exact lockKept_setInstallation s p t _ _ _ fun i s => lockKept_writePair s i _
  · exact lockKept_illegalInstallation s p t

theorem lockKept_setZone (s : State) (p : PortId) (t : Target) (v : Nat) : LockKept s (s.setZone p t v).state := by
  simp only [State.setZone]; split
  · exact lockKept_setInstallation s p t _ _ _ fun i s => (onlyDoors_writeZone _ i s).lockKept
  · exact lockKept_illegalInstallation s p t

theorem lockKept_setUnit (s : State) (p : PortId) (t : Target) (v : Nat) : LockKept s (s.setUnit p t v).state := by
  simp only [State.setUnit]; split
  · exact lockKept_setInstallation s p t _ _ _ fun i s => lockKept_modDoor s i _
  · exact lockKept_illegalInstallation s p t

/-- R116: a unit SET writes the unit. -/
theorem lockKept_setUnitSetting (s : State) (p : PortId) (t : Target) (legal stoppedOnly : Bool)
    (write : PowerUnit → PowerUnit) : LockKept s (s.setUnitSetting p t legal stoppedOnly write).state := by
  refine LockKept.asCommand (LockKept.asUnlocked ?_)
  split
  · split
    · exact .refl s
    · split
      · exact .refl s
      · split
        · exact .refl s
        · exact lockKept_modUnit _ _ _
  · exact .refl s

/-- R138: a branch SET, whose write is work on the branch. -/
theorem lockKept_setBranchSetting (s : State) (p : PortId) (t : Target) (legal : Bool) {write : BranchId → State}
    (hw : ∀ b, LockKept s (write b)) : LockKept s (s.setBranchSetting p t legal write).state := by
  refine LockKept.asCommand (LockKept.asUnlocked ?_)
  split
  · split
    · exact .refl s
    · split
      · exact hw _
      · exact .refl s
  · exact .refl s

theorem lockKept_setEnable (s : State) (p : PortId) (t : Target) (v : Nat) : LockKept s (s.setEnable p t v).state := by
  refine lockKept_setBranchSetting s p t _ fun b => ?_
  split
  · exact (onlyLinks_disableBranch s b).lockKept
  · exact (onlyLinks_enableBranch s b).lockKept
  · exact .refl s

theorem lockKept_setRole (s : State) (p : PortId) (t : Target) (v : Nat) : LockKept s (s.setRole p t v).state := by
  refine LockKept.asCommand (LockKept.asUnlocked ?_)
  split
  · split
    · split
      · exact .refl s
      · exact lockKept_modPort _ _ _
    · exact .refl s
  · exact .refl s

/-- R161: a SET of a port's own setting writes the port. -/
theorem lockKept_setOwn (s : State) (p : PortId) (t : Target) (low high v : Nat) (write : Nat → Port → Port) :
    LockKept s (s.setOwn p t low high v write).state := by
  refine LockKept.asCommand ?_
  split
  · split
    · exact lockKept_modPort _ _ _
    · exact .refl s
  · exact .refl s

theorem lockKept_setReportsEnabled (s : State) (p : PortId) (t : Target) (v : Nat) :
    LockKept s (s.setReportsEnabled p t v).state := by
  simp only [State.setReportsEnabled]
  split
  · split
    · split
      · exact lockKept_modPort _ _ _
      · exact lockKept_modPort _ _ _
      all_goals exact .refl s
    · exact .refl s
  · exact .refl s

theorem lockKept_setStartClosed (s : State) (p : PortId) (t : Target) (v : Nat) :
    LockKept s (s.setStartClosed p t v).state := by
  refine LockKept.asCommand (LockKept.asUnlocked ?_)
  split
  · split <;> exact .refl s
  · exact .refl s

theorem lockKept_setAlarmMask (s : State) (p : PortId) (t : Target) (m : BitVec 16) :
    LockKept s (s.setAlarmMask p t m).state := by
  refine LockKept.asCommand (LockKept.asUnlocked ?_)
  split
  · split <;> exact .refl s
  · exact .refl s

theorem lockKept_setIdentity (s : State) (p : PortId) (t : Target) (text : List Byte) :
    LockKept s (s.setIdentity p t text).state := by
  refine LockKept.asCommand ?_
  split
  · exact .refl s
  · split
    · split <;> exact .refl s
    · exact .refl s

theorem lockKept_setTrim (s : State) (p : PortId) (t : Target) (interval : Nat) (direction : Byte) :
    LockKept s (s.setTrim p t interval direction).state := by
  refine LockKept.asCommand ?_
  split
  · split
    · split <;> exact .refl s
    · exact .refl s
  · exact .refl s

theorem lockKept_setOp (s : State) (p : PortId) (k : OpSetting) (v : Nat) (t : Target) :
    LockKept s (s.setOp p k v t).state := by
  have staged : ∀ l, LockKept s (s.forDoors l (State.stage k (OpSetting.clamped k v))) := fun l =>
    lockKept_forDoors s l fun i s => (onlyDoors_stage k _ i s).lockKept
  refine LockKept.asCommand ?_
  split
  · exact (onlyDoors_doorOrder s _ _ fun i s => onlyDoors_stage k _ i s).lockKept
  · split
    · simp only [State.stageZone]; split
      · exact .refl s
      · exact staged _
    · exact .refl s
  · exact staged _
  · exact .refl s

/-- R161, R182: no SET moves the lock. -/
theorem lockKept_setting (s : State) (p : PortId) (t : Target) (w : SettingWrite) :
    LockKept s (s.setting p t w).state := by
  cases w with
  | op k v => exact lockKept_setOp s p k v t
  | installed v => exact lockKept_setInstalled s p t v
  | branch v => exact lockKept_setBranch s p t v
  | drop v => exact lockKept_setDrop s p t v
  | zone v => exact lockKept_setZone s p t v
  | unit v => exact lockKept_setUnit s p t v
  | geometry c o => exact lockKept_setInstallation s p t _ _ _ fun i s => lockKept_writeGeometry c o i s
  | label text => exact lockKept_setInstallation s p t _ _ _ fun i s => lockKept_modDoor s i _
  | slotLimit v => exact lockKept_setUnitSetting s p t _ _ _
  | startTime v => exact lockKept_setUnitSetting s p t _ _ _
  | holdoff v => exact lockKept_setUnitSetting s p t _ _ _
  | ageTime v => exact lockKept_setUnitSetting s p t _ _ _
  | urgentCount v => exact lockKept_setUnitSetting s p t _ _ _
  | enable v => exact lockKept_setEnable s p t v
  | roundPeriod v => exact lockKept_setBranchSetting s p t _ fun b => lockKept_modBranch s b _
  | replyTimeout v => exact lockKept_setBranchSetting s p t _ fun b => lockKept_modBranch s b _
  | lostThreshold v => exact lockKept_setBranchSetting s p t _ fun b => lockKept_modBranch s b _
  | portRole v => exact lockKept_setRole s p t v
  | silenceTime v => exact lockKept_setOwn s p t _ _ _ _
  | reportsEnabled v => exact lockKept_setReportsEnabled s p t v
  | reportSpacing v => exact lockKept_setOwn s p t _ _ _ _
  | refreshPeriod v => exact lockKept_setOwn s p t _ _ _ _
  | startClosed v => exact lockKept_setStartClosed s p t v
  | faultAlarmMask m => exact lockKept_setAlarmMask s p t m
  | vesselIdentity text => exact lockKept_setIdentity s p t text
  | clockTrim i d => exact lockKept_setTrim s p t i d

/-! ### Requests -/

/-- The lock is open at most where it was. -/
def LockNotOpened (s t : State) : Prop := t.store.lockOpen = true → s.store.lockOpen = true

theorem LockNotOpened.trans {s t u : State} (h : LockNotOpened s t) (k : LockNotOpened t u) : LockNotOpened s u := h ∘ k

theorem LockKept.notOpened {s t : State} (h : LockKept s t) : LockNotOpened s t := fun k => h ▸ k

theorem lockNotOpened_orderLock (s : State) (p : PortId) : LockNotOpened s (s.orderLock p).state := by
  simp only [State.orderLock, State.asCommand]
  split
  · simp [LockNotOpened, State.answer]
  · exact (LockKept.refl s).notOpened

theorem lockNotOpened_ordering (s : State) (p : PortId) (t : Target) (o : OrderOp) :
    LockNotOpened s (s.ordering p t o).state := by
  by_cases h : o = .lock
  · subst h; exact lockNotOpened_orderLock s p
  · exact (lockKept_ordering s p t h).notOpened

theorem lockKept_executeRestart (s : State) (p : PortId) : LockKept s (s.executeRestart p) := by
  simp only [State.executeRestart]; split
  · exact (lockKept_orderRestart s p).trans (lockKept_modPort _ p _)
  · exact (lockKept_orderRestart s p).trans (lockKept_modPort _ p _)

theorem lockKept_executeDirect (s : State) (p : PortId) (b d k : Nat) : LockKept s (s.executeDirect p b d k) := by
  simp only [State.executeDirect]; split
  · exact lockKept_modPort s p _
  · exact (lockKept_modBranch s _ _).trans (lockKept_modPort _ p _)

/-- R182: no item opens the lock. -/
theorem lockNotOpened_executeItem (s : State) (p : PortId) (it : Item) : LockNotOpened s (s.executeItem p it) := by
  have ended : ∀ (t : State) e, LockKept t (t.endItem p e) := fun t e => lockKept_modPort t p _
  simp only [State.executeItem]
  split
  case h_1 o a => exact (LockKept.trans (t := { s with freeCount := s.freeCount + 64 }) rfl (ended _ _)).notOpened
  case h_2 => exact (lockKept_executeRestart s p).notOpened
  case h_3 o t _ => exact (lockNotOpened_ordering s p t o).trans (ended _ _).notOpened
  case h_4 w t => exact ((lockKept_setting s p t w).withOutputs.trans (ended _ _)).notOpened
  case h_5 => exact (ended s _).notOpened
  case h_6 => exact (lockKept_modPort s p _).notOpened
  case h_7 b d k => exact (lockKept_executeDirect s p b d k).notOpened
  case h_8 => exact (LockKept.refl s).notOpened

theorem lockNotOpened_takeItem (s : State) (p : PortId) (r : Request) : LockNotOpened s (s.takeItem p r) := by
  simp only [State.takeItem]
  split
  · exact (lockKept_modPort s p _).notOpened
  · split
    · exact (lockKept_modPort s p _).notOpened
    · split
      · exact (lockKept_modPort s p _).notOpened
      · exact lockNotOpened_executeItem s p _

theorem lockNotOpened_goOn (s : State) (p : PortId) : LockNotOpened s (s.goOn p) := by
  simp only [State.goOn]
  split
  · split
    · exact lockNotOpened_takeItem s p _
    · exact (LockKept.refl s).notOpened
  · exact (LockKept.refl s).notOpened

theorem lockNotOpened_takeRequest (s : State) (p : PortId) (g : GoodRequest) : LockNotOpened s (s.takeRequest p g) := by
  simp only [State.takeRequest]; split
  · exact (lockKept_modPort s p _).notOpened
  · exact (lockKept_modPort s p _).notOpened.trans (lockNotOpened_goOn _ p)

theorem lockNotOpened_itemCommand (s : State) (p : PortId) (it : Item) : LockNotOpened s (s.itemCommand p it) :=
  lockNotOpened_takeRequest s p _

theorem lockNotOpened_consoleFrame (s : State) (p : PortId) (l : List Byte) : LockNotOpened s (s.consoleFrame p l) := by
  have judged : LockKept s (s.modPort p fun q => { q with collecting := false }) := lockKept_modPort s p _
  simp only [State.consoleFrame]
  split
  · exact judged.notOpened
  · split
    · exact judged.notOpened
    · exact judged.notOpened.trans (lockNotOpened_takeRequest _ p _)

/-! ### Events -/

theorem lockKept_delayExpired (s : State) (p : PortId) : LockKept s (s.delayExpired p) := by
  simp only [State.delayExpired]
  split
  · split
    · split
      · exact lockKept_modPort s p _
      · exact .refl s
    · exact .refl s
  · exact .refl s

theorem lockKept_reportSend (s : State) (p : PortId) : LockKept s (s.reportSend p) := by
  simp only [State.reportSend]; split
  · exact lockKept_modPort s p _
  · exact .refl s

theorem lockKept_silenceExpired (s : State) (p : PortId) : LockKept s (s.silenceExpired p) := by
  simp only [State.silenceExpired]; split
  · exact lockKept_modPort s p _
  · exact .refl s

theorem lockKept_refreshDue (s : State) (p : PortId) : LockKept s (s.refreshDue p) := by
  simp only [State.refreshDue]; split
  · exact lockKept_modPort s p _
  · exact .refl s

theorem lockKept_reversed (s : State) (i : DoorId) : LockKept s (s.reversed i) := by
  simp only [State.reversed]
  split
  · split
    · exact .refl s
    · exact (onlyDoors_setState s i _).lockKept
  · exact .refl s

theorem lockKept_leadInExpired (s : State) (i : DoorId) : LockKept s (s.leadInExpired i) := by
  simp only [State.leadInExpired]
  split
  · split
    · exact (onlyDoors_request s i _).lockKept
    · exact .refl s
  · exact .refl s

theorem lockKept_recloseExpired (s : State) (i : DoorId) : LockKept s (s.recloseExpired i) := by
  simp only [State.recloseExpired]; split
  · exact ((onlyDoors_enterWarning s i _).trans (onlyDoors_setSource _ i _)).lockKept
  · exact .refl s

theorem lockKept_tailExpired (s : State) (i : DoorId) : LockKept s (s.tailExpired i) := by
  simp only [State.tailExpired]; split
  · exact lockKept_modDoor s i _
  · exact .refl s

theorem lockKept_testExpired (s : State) (i : DoorId) : LockKept s (s.testExpired i) := by
  simp only [State.testExpired]; split
  · exact lockKept_modDoor s i _
  · exact .refl s

theorem lockKept_cutoffActive (s : State) : LockKept s s.cutoffActive := by
  simp only [State.cutoffActive]; split
  · exact .refl s
  · refine LockKept.trans (t := { s with cutoff := Input.settledAt true }.touchSummary) (.of_store rfl) ?_
    exact (lockKept_forDoors _ _ fun i s => (onlyDoors_cut s i .cutOff).lockKept)

theorem lockKept_cutoffReleased (s : State) : LockKept s s.cutoffReleased := by
  have runs : ∀ t : State, LockKept s t → LockKept s (unitIds.foldl (fun t u => t.admissionRun u) t) := fun t h =>
    h.trans (lockKept_foldl (fun t u => (onlyDoors_admissionRun t u).lockKept) unitIds t)
  simp only [State.cutoffReleased]; split
  · exact runs _ (.of_store rfl)
  · exact .refl s

theorem lockKept_closeAllChanged (s : State) (active : Bool) : LockKept s (s.closeAllChanged active) := by
  simp only [State.closeAllChanged]; split
  · exact .refl s
  · exact LockKept.trans (.of_store rfl) (lockKept_setHolds _ _)

theorem lockKept_syncEdge (s : State) : LockKept s s.syncEdge := by
  simp only [State.syncEdge]; split <;> exact .refl s

theorem lockKept_trimExpired (s : State) : LockKept s s.trimExpired := by
  simp only [State.trimExpired]
  split
  · split <;> exact .refl s
  · exact .refl s

theorem lockKept_saveCompleted (s : State) : LockKept s s.saveCompleted := by
  simp only [State.saveCompleted]
  split
  · split
    · exact lockKept_modStore s fun _ => rfl
    · exact .refl s
  · exact .refl s

/-! ### The two resets (R184, R185) -/

theorem lockKept_raiseBranchFaults (s : State) : LockKept s s.raiseBranchFaults :=
  lockKept_forDoors s _ fun i s => lockKept_raiseBranchOff s i

theorem lockKept_startRounds (s : State) : LockKept s s.startRounds := by
  refine lockKept_foldl (fun s b => ?_) branchIds s
  split
  · exact (onlyLinks_startRound s b).lockKept
  · exact .refl s

/-- R184: a power-on takes the lock from the key. -/
theorem lockOpen_powerOn (s : State) (l : Lines) : (s.powerOn l).store.lockOpen = l.key :=
  ((lockKept_raiseBranchFaults (s.built (s.store.image.getD Image.defaults) l)).trans
    (lockKept_evalOutputs _)).trans (lockKept_startRounds _)

theorem lockKept_endMotion (s : State) (i : DoorId) : LockKept s (s.endMotion i) :=
  ((onlyDoors_driveOffNow s i).trans (onlyDoors_modDoor _ i _)).lockKept

theorem lockKept_restartBranch (s : State) (b : BranchId) : LockKept s (s.restartBranch b) :=
  ((onlyLinks_breakExchange s b _).trans (onlyLinks_modBranch _ b _)).lockKept

theorem lockKept_restartDoor (s : State) (i : DoorId) : LockKept s (s.restartDoor i) :=
  (((onlyDoors_modDoor s i _).trans (onlyDoors_enterRest _ i _)).trans (onlyDoors_modDoor _ i _)).lockKept

theorem lockKept_restartWork (s : State) : LockKept s s.restartWork :=
  ((lockKept_forDoors s _ fun i s => lockKept_endMotion s i).trans
    (lockKept_foldl (fun s u => lockKept_modUnit s u _) _ _)).trans
    (lockKept_foldl (fun s b => lockKept_restartBranch s b) _ _)

theorem lockKept_restartDoors (s : State) : LockKept s s.restartDoors :=
  ((lockKept_forDoors s _ fun i s => lockKept_restartDoor s i).trans (lockKept_raiseBranchFaults _)).trans
    (lockKept_forDoors _ _ fun i s => (onlyDoors_updateNotControlled s i).lockKept)

/-- R185: a warm restart keeps the lock. -/
theorem lockKept_warmRestart (s : State) : LockKept s s.warmRestart := by
  have worked : LockKept s s.restartWork.restartDoors := (lockKept_restartWork s).trans (lockKept_restartDoors _)
  simp only [LockKept, State.warmRestart]
  exact ((worked.trans (lockKept_mapPorts _ _)).trans (lockKept_evalOutputs _)).trans (lockKept_startRounds _)

theorem lockKept_responseSentNow (s : State) (p : PortId) : LockKept s (s.responseSentNow p) := by
  simp only [State.responseSentNow]
  split
  · split
    · exact (lockKept_modPort s p _).trans (lockKept_warmRestart _)
    · exact lockKept_modPort s p _
  · exact .refl s

/-! ### Commands -/

/-- Assumption 3: the command of an item is the one item of a request of its port. -/
theorem exec_item {c : Instr} {p : PortId} {it : Item} (h : c.item = some (p, it)) (s : State) :
    exec c s = s.live fun s => s.itemCommand p it := by
  cases c <;> cases h <;> rfl

theorem exec_item_live {c : Instr} {p : PortId} {it : Item} {s : State} (h : c.item = some (p, it))
    (hp : s.powered = true) : exec c s = .next (s.itemCommand p it) := by
  simp [exec_item h, State.live, hp]

/-- Assumption 5: what is done to a D48 with supply is done, or nothing is. -/
theorem live_cases {s t : State} {f : State → State} (h : s.live f = .next t) : t = f s ∨ t = s := by
  simp only [State.live, Host.Outcome.next.injEq] at h
  split at h
  · exact .inl h.symm
  · exact .inr h.symm

theorem lockKept_live {s t : State} (f : State → State) (h : s.live f = .next t) (hf : LockKept s (f s)) :
    LockKept s t := by
  obtain rfl | rfl := live_cases h
  · exact hf
  · exact .refl t

theorem lockNotOpened_live {s t : State} (f : State → State) (h : s.live f = .next t) (hf : LockNotOpened s (f s)) :
    LockNotOpened s t := by
  obtain rfl | rfl := live_cases h
  · exact hf
  · exact id

/-- R182: an event moves the lock only where it is a power-on, or a frame received, which may hold a LOCK. -/
theorem lockKept_exec_event {c : Instr} {s t : State} (hi : c.item = none) (ho : ∀ k a o l y, c ≠ .powerOn k a o l y)
    (hf : ∀ p l, c ≠ .consoleFrame p l) (h : exec c s = .next t) : LockKept s t := by
  cases c with
  | powerOn k a o l y => exact absurd rfl (ho k a o l y)
  | consoleFrame p l => exact absurd rfl (hf p l)
  | consoleReceiveTimeout p => exact lockKept_live (fun s => s.receiving p false) h (lockKept_modPort s p _)
  | responseSend p => exact lockKept_live (fun s => s.responseSend p) h (lockKept_modPort s p _)
  | responseSent p => exact lockKept_live (fun s => s.responseSentNow p) h (lockKept_responseSentNow s p)
  | reportSend p => exact lockKept_live (fun s => s.reportSend p) h (lockKept_reportSend s p)
  | reportSent p => exact lockKept_live (fun s => s.reportSent p) h (lockKept_modPort s p _)
  | silenceTimeout p =>
    exact lockKept_live (fun s => (s.silenceExpired p).evalOutputs) h
      ((lockKept_silenceExpired s p).trans (lockKept_evalOutputs _))
  | refreshDue p => exact lockKept_live (fun s => s.refreshDue p) h (lockKept_refreshDue s p)
  | delayExpiry p => exact lockKept_live (fun s => s.delayExpired p) h (lockKept_delayExpired s p)
  | roundTimerExpiry b => exact lockKept_live (fun s => s.nextRoundIfDue b) h (onlyLinks_nextRoundIfDue s b).lockKept
  | stationReplyFrame b l =>
    exact lockKept_live (fun s => (s.stationFrame b l).evalOutputs) h
      ((onlyLinks_stationFrame s b l).lockKept.trans (lockKept_evalOutputs _))
  | replyDeadline b =>
    exact lockKept_live (fun s => (s.deadlinePassed b).evalOutputs) h
      ((onlyLinks_deadlinePassed s b).lockKept.trans (lockKept_evalOutputs _))
  | branchReceiveTimeout b => exact lockKept_live (fun s => s.listening b false) h (lockKept_modBranch s b _)
  | reversalInstant d => exact lockKept_live (fun s => s.reversed d) h (lockKept_reversed s d)
  | leadInExpiry d =>
    exact lockKept_live (fun s => (s.leadInExpired d).evalOutputs) h
      ((lockKept_leadInExpired s d).trans (lockKept_evalOutputs _))
  | recloseTimerExpiry d => exact lockKept_live (fun s => s.recloseExpired d) h (lockKept_recloseExpired s d)
  | tailExpiry d => exact lockKept_live (fun s => s.tailExpired d) h (lockKept_tailExpired s d)
  | signalTestExpiry d => exact lockKept_live (fun s => s.testExpired d) h (lockKept_testExpired s d)
  | ageTimerExpiry u => exact lockKept_live (fun s => s.ageExpired u) h (onlyDoors_ageExpired s u).lockKept
  | startTimerExpiry u =>
    exact lockKept_live (fun s => (s.startExpired u).evalOutputs) h
      ((onlyDoors_startExpired s u).lockKept.trans (lockKept_evalOutputs _))
  | holdoffTimerExpiry u =>
    exact lockKept_live (fun s => s.holdoffExpired u) h (onlyDoors_holdoffExpired s u).lockKept
  | pressLowChange u a =>
    exact lockKept_live (fun s => (s.pressureChanged u a).evalOutputs) h
      ((onlyDoors_pressureChanged s u a).lockKept.trans (lockKept_evalOutputs _))
  | driveCutoffActive =>
    exact lockKept_live (fun s => s.cutoffActive.evalOutputs) h
      ((lockKept_cutoffActive s).trans (lockKept_evalOutputs _))
  | driveCutoffRelease => exact lockKept_live State.cutoffReleased h (lockKept_cutoffReleased s)
  | closeAllChange a =>
    exact lockKept_live (fun s => (s.closeAllChanged a).evalOutputs) h
      ((lockKept_closeAllChanged s a).trans (lockKept_evalOutputs _))
  | syncInEdge => exact lockKept_live State.syncEdge h (lockKept_syncEdge s)
  | trimStep => exact lockKept_live State.trimExpired h (lockKept_trimExpired s)
  | saveCompletion =>
    exact lockKept_live (fun s => s.saveCompleted.evalOutputs) h
      ((lockKept_saveCompleted s).trans (lockKept_evalOutputs _))
  | consoleStartByte p => exact lockKept_live (fun s => s.receiving p true) h (lockKept_modPort s p _)
  | consoleLengthOver256 p => exact lockKept_live (fun s => s.receiving p false) h (lockKept_modPort s p _)
  | branchStartByte b => exact lockKept_live (fun s => s.listening b true) h (lockKept_modBranch s b _)
  | branchDataLengthOver8 b => exact lockKept_live (fun s => s.listening b false) h (lockKept_modBranch s b _)
  | lossOfSupply => exact lockKept_live State.supplyLost h rfl
  | _ => cases hi

/-- R182: no command but a power-on opens the lock. -/
theorem lockNotOpened_exec {c : Instr} {s t : State} (ho : ∀ k a o l y, c ≠ .powerOn k a o l y)
    (h : exec c s = .next t) : LockNotOpened s t := by
  cases hi : c.item with
  | some x =>
    rw [exec_item (p := x.1) (it := x.2) hi] at h
    exact lockNotOpened_live _ h (lockNotOpened_itemCommand s x.1 x.2)
  | none =>
    by_cases hf : ∃ p l, c = .consoleFrame p l
    · obtain ⟨p, l, rfl⟩ := hf
      exact lockNotOpened_live (fun s => s.consoleFrame p l) h (lockNotOpened_consoleFrame s p l)
    · exact (lockKept_exec_event hi ho (fun p l e => hf ⟨p, l, e⟩) h).notOpened

/-- R182, R184: the lock after a power-on is open exactly if the key is active. -/
theorem lockOpen_exec_powerOn {s t : State} {k a o : Bool} {l : BitVec 4} {y : Bool}
    (h : exec (.powerOn k a o l y) s = .next t) : t.store.lockOpen = k := by
  obtain rfl : (if s.powered then s.supplyLost else s).powerOn
    { key := k, closeAll := a, cutoff := o, pressLow := l, sync := y } = t := Host.Outcome.next.inj h
  exact lockOpen_powerOn _ _

/-! ### An item that changes no more than its port -/

theorem modPort_rest (s : State) (p : PortId) (f : Port → Port) :
    s.modPort p f = { s with ports := (s.modPort p f).ports } := by
  simp only [State.modPort, State.touchIf]; split <;> rfl

theorem taking_rest (s : State) (p : PortId) (it : Item) :
    s.taking p it = { s with ports := (s.taking p it).ports } := by
  rw [State.taking, State.beginRequest]; exact modPort_rest s p _

theorem endItem_rest (s : State) (p : PortId) (e : List Byte) :
    s.endItem p e = { s with ports := (s.endItem p e).ports } := modPort_rest s p _

/-- An item that is answered and does nothing else changes the ports alone. -/
theorem taking_endItem_rest (s : State) (p : PortId) (it : Item) (e : List Byte) :
    (s.taking p it).endItem p e = { s with ports := ((s.taking p it).endItem p e).ports } := by
  rw [endItem_rest, taking_rest]

/-- The taking of an item leaves what the outputs are evaluated from (R173). -/
theorem outputsHold_taking {s : State} (h : s.OutputsHold) (p : PortId) (it : Item) : (s.taking p it).OutputsHold := by
  have role : ∀ q, ((s.taking p it).port q).role = (s.port q).role := fun q => by
    simp only [State.taking, State.beginRequest, State.port_modPort]; split
    · next e => rw [e]
    · rfl
  have attention : ∀ q, ((s.taking p it).port q).attention = (s.port q).attention := fun q => by
    simp only [State.taking, State.beginRequest, State.port_modPort]; split
    · next e => rw [e]
    · rfl
  have fault : (s.taking p it).faultOut = s.faultOut := by
    simp only [State.faultOut, role, attention]
    rw [taking_rest]; rfl
  have closure : (s.taking p it).closureOut = s.closureOut := by rw [taking_rest]; rfl
  have allClosed : (s.taking p it).allClosedOut = s.allClosedOut := by rw [taking_rest]; rfl
  have outputs : (s.taking p it).outputs = s.outputs := by rw [taking_rest]
  rw [State.OutputsHold, fault, closure, allClosed, outputs, h]

/-- R173: outputs that hold are left as they are. -/
theorem evalOutputs_eq_self {s : State} (h : s.OutputsHold) : s.evalOutputs = s := by
  simp [State.evalOutputs, ← h, State.touchIf]

/-- Like `answered_endItem`, for an item that leaves the ports as work on doors and units does, whatever else it
writes. -/
theorem answered_endItem_of_ports {s u : State} {p : PortId} {it : Item} (e : List Byte) (hf : s.Free p)
    (h : ∀ q, ((s.taking p it).port q).SameButMarks (u.port q)) : Answered p e s (u.endItem p e) := by
  have moved := answered_endItem (u := { s.taking p it with ports := u.ports }) e hf ⟨rfl, h⟩
  have ports : ∀ q, ({ s.taking p it with ports := u.ports }.endItem p e).port q = (u.endItem p e).port q := fun q => by
    simp only [State.endItem, State.port_modPort]; rfl
  simpa only [Answered, OtherPorts, ports] using moved

/-! ### The order LOCK -/

/-- R83: LOCK from a MONITOR port. -/
theorem itemCommand_lock_monitor {s : State} {p : PortId} (hf : s.Free p) (hr : (s.port p).role = .monitor) :
    s.itemCommand p (.order .lock .none) =
      (s.taking p (.order .lock .none)).endItem p (orderEntry .refusedRole 0) := by
  have hc : (s.taking p (.order .lock .none)).commands p = false := by
    simp [State.commands, State.taking, State.beginRequest, State.port_modPort, hr]
  rw [itemCommand_order hf (by simp) rfl]
  simp [State.ordering, State.orderLock, State.asCommand, hc, State.answer]

/-- R182: LOCK from a COMMAND port. -/
theorem itemCommand_lock_command {s : State} {p : PortId} (h : s.MayOrder p) :
    s.itemCommand p (.order .lock .none) =
      ((s.taking p (.order .lock .none)).modStore fun x => { x with lockOpen := false }).endItem p
        (orderEntry .ok 0) := by
  rw [itemCommand_order h.1 (by simp) rfl]
  simp [State.ordering, State.orderLock, State.asCommand, commands_taking h.2, State.answer]

/-- A write of the Settings Store marks the ports where the image fault or the lock has changed, and leaves them
otherwise (R168). -/
theorem port_modStore (s : State) (f : Store → Store) (q : PortId) :
    (s.modStore f).port q =
      { s.port q with
        summaryChanged := (s.store.imageFault != (f s.store).imageFault || s.store.lockOpen != (f s.store).lockOpen)
          || (s.port q).summaryChanged } := by
  rw [State.modStore, State.port_touchIf]; rfl

theorem modStore_rest (s : State) (f : Store → Store) :
    s.modStore f = { s with ports := (s.modStore f).ports, store := f s.store } := by
  simp only [State.modStore, State.touchIf]; split <;> rfl

theorem summaryChanged_itemEnded (q : Port) (e : List Byte) : (q.itemEnded e).summaryChanged = q.summaryChanged := by
  simp only [Port.itemEnded]
  split
  · rfl
  · split <;> rfl

/-- The end of an item keeps the summary changed flags that are set. -/
theorem summaryChanged_endItem {s : State} {q : PortId} (h : (s.port q).summaryChanged = true) (p : PortId)
    (e : List Byte) : ((s.endItem p e).port q).summaryChanged = true := by
  simp only [State.endItem, State.port_modPort]; split
  · next hq => subst hq; simp [summaryChanged_itemEnded, h]
  · simp [h]

/-- R182: LOCK from a COMMAND port: the marks of R168 are the only trace of the lock's change in the ports. -/
theorem lock_command {s : State} {p : PortId} (h : s.MayOrder p) :
    ∃ t, exec (.lock p) s = .next t ∧ t = { s with ports := t.ports, store := { s.store with lockOpen := false } } ∧
      Answered p (orderEntry .ok 0) s t ∧ (s.store.lockOpen = true → ∀ q, (t.port q).summaryChanged = true) := by
  refine ⟨_, exec_item_live rfl h.1.1, ?_, ?_, fun hl q => ?_⟩ <;> rw [itemCommand_lock_command h]
  · rw [endItem_rest, modStore_rest, taking_rest]
  · exact answered_endItem_of_ports _ h.1 fun q => by rw [port_modStore, Port.SameButMarks]
  · exact summaryChanged_endItem (by simp [port_modStore, store_taking, hl]) p _

/-- R83: LOCK from a MONITOR port is refused and changes nothing. -/
theorem lock_monitor {s : State} {p : PortId} (hf : s.Free p) (hr : (s.port p).role = .monitor) :
    ∃ t, exec (.lock p) s = .next t ∧ t = { s with ports := t.ports } ∧ Answered p (orderEntry .refusedRole 0) s t := by
  refine ⟨_, exec_item_live rfl hf.1, ?_, ?_⟩ <;> rw [itemCommand_lock_monitor hf hr]
  · exact taking_endItem_rest s p _ _
  · exact answered_endItem _ hf (OnlyDoors.refl _)

/-! ### Guarded SETs -/

/-- R182: a check behind the lock is not reached while the lock is closed. -/
theorem asCommand_asUnlocked_closed {s : State} {p : PortId} (hc : s.commands p = true)
    (hl : s.store.lockOpen = false) (k : Answer) : s.asCommand p (s.asUnlocked k) = s.answer .locked := by
  simp [State.asCommand, State.asUnlocked, hc, hl]

/-- R182: a guarded SET from a COMMAND port is answered LOCKED while the lock is closed. -/
theorem setting_locked {s : State} {p : PortId} {w : SettingWrite} (hc : s.commands p = true)
    (hl : s.store.lockOpen = false) (hg : guardedByLock w = true) (t : Target) :
    s.setting p t w = s.answer .locked := by
  have locked := asCommand_asUnlocked_closed hc hl
  cases w with
  | branch v => simp only [State.setting, State.setBranch]; split <;> exact locked _
  | drop v => simp only [State.setting, State.setDrop]; split <;> exact locked _
  | zone v => simp only [State.setting, State.setZone]; split <;> exact locked _
  | unit v => simp only [State.setting, State.setUnit]; split <;> exact locked _
  | op | silenceTime | reportsEnabled | reportSpacing | refreshPeriod | vesselIdentity | clockTrim =>
    simp [guardedByLock] at hg
  | _ => exact locked _

/-- R182: a guarded SET from a COMMAND port changes nothing while the lock is closed. -/
theorem set_locked {s : State} {p : PortId} {c : Instr} {w : SettingWrite} {target : Target} (h : s.MayOrder p)
    (ho : s.OutputsHold) (hl : s.store.lockOpen = false) (hg : guardedByLock w = true)
    (hm : itemMalformed (.set w target) = false) (hi : c.item = some (p, .set w target)) :
    ∃ t, exec c s = .next t ∧ t = { s with ports := t.ports } ∧ Answered p (setEntry .locked) s t := by
  have answer : s.itemCommand p (.set w target) = (s.taking p (.set w target)).endItem p (setEntry .locked) := by
    rw [itemCommand_set h.1 hm, setting_locked (commands_taking h.2 _) (by rwa [store_taking]) hg]
    simp only [Answer.withOutputs, State.answer, evalOutputs_eq_self (outputsHold_taking ho p _)]
  refine ⟨_, exec_item_live hi h.1.1, ?_, ?_⟩ <;> rw [answer]
  · exact taking_endItem_rest s p _ _
  · exact answered_endItem _ h.1 (OnlyDoors.refl _)

/-! ### FETCH IDENTITY -/

/-- R179: the last byte of IDENTITY has the lock in bit 0. -/
theorem identityBytes_lock (x : Store) : (x.identityBytes[16]?.map fun b => b.getLsbD 0) = some x.lockOpen := by
  have length : ((x.identity ++ List.replicate 16 0).take 16).length = 16 := by simp
  have last : x.identityBytes[16]? = some (byteOf (bit x.lockOpen 0 + bit x.imageFault 1 + bit x.saving.isSome 2)) := by
    rw [Store.identityBytes, List.getElem?_append_right (by rw [length])]
    simp
  have bits : ∀ l f v : Bool, (byteOf (bit l 0 + bit f 1 + bit v 2)).getLsbD 0 = l := by decide
  rw [last, Option.map_some, bits]

/-- Settles O40: the lock is followed through every kind of work, which shows that only a power-on opens it; the answers
are those of the one item of a command. -/
theorem commissioningLockRule : Obligations.CommissioningLockRule := by
  intro s p c w target
  refine ⟨fun k a o l y t h => lockOpen_exec_powerOn h, fun t ho h => lockNotOpened_exec ho h, fun t h => ?_,
    lock_monitor, lock_command, set_locked, identityBytes_lock s.store⟩
  exact lockKept_live (fun s => s.responseSentNow p) h (lockKept_responseSentNow s p)

end Sys2Proof.Machine
end

section
/-! SUPPORT. Reads after writes of another part: a write of one block leaves what is read of the others. -/

namespace Sys2Proof.Machine

variable (s : State)

/-! ### Reading a door -/

@[simp] theorem State.door_mapPorts (f : PortId → Port → Port) (i : DoorId) : (s.mapPorts f).door i = s.door i := by simp [State.door]
@[simp] theorem State.door_touchSummary (i : DoorId) : (s.touchSummary).door i = s.door i := by simp [State.door]
@[simp] theorem State.door_touchIf (c : Bool) (i : DoorId) : (s.touchIf c).door i = s.door i := by simp [State.door]
@[simp] theorem State.door_modPort (p : PortId) (f : Port → Port) (i : DoorId) : (s.modPort p f).door i = s.door i := by simp [State.door]
@[simp] theorem State.door_modUnit (v : UnitId) (f : PowerUnit → PowerUnit) (i : DoorId) : (s.modUnit v f).door i = s.door i := by simp [State.door]
@[simp] theorem State.door_modBranch (c : BranchId) (f : Branch → Branch) (i : DoorId) : (s.modBranch c f).door i = s.door i := by simp [State.door]
@[simp] theorem State.door_modLink (c : BranchId) (e : DropId) (f : DropLink → DropLink) (i : DoorId) : (s.modLink c e f).door i = s.door i := by simp [State.door, State.modLink]
@[simp] theorem State.door_modClock (f : Clock → Clock) (i : DoorId) : (s.modClock f).door i = s.door i := by simp [State.door]
@[simp] theorem State.door_modStore (f : Store → Store) (i : DoorId) : (s.modStore f).door i = s.door i := by simp [State.door]
@[simp] theorem State.door_evalOutputs (i : DoorId) : (s.evalOutputs).door i = s.door i := by simp [State.door]

/-! ### Reading a unit -/

@[simp] theorem State.unit_mapPorts (f : PortId → Port → Port) (u : UnitId) : (s.mapPorts f).unit u = s.unit u := by simp [State.unit]
@[simp] theorem State.unit_touchSummary (u : UnitId) : (s.touchSummary).unit u = s.unit u := by simp [State.unit]
@[simp] theorem State.unit_touchIf (c : Bool) (u : UnitId) : (s.touchIf c).unit u = s.unit u := by simp [State.unit]
@[simp] theorem State.unit_modPort (p : PortId) (f : Port → Port) (u : UnitId) : (s.modPort p f).unit u = s.unit u := by simp [State.unit]
@[simp] theorem State.unit_modDoor (j : DoorId) (f : Door → Door) (u : UnitId) : (s.modDoor j f).unit u = s.unit u := by simp [State.unit]
@[simp] theorem State.unit_modBranch (c : BranchId) (f : Branch → Branch) (u : UnitId) : (s.modBranch c f).unit u = s.unit u := by simp [State.unit]
@[simp] theorem State.unit_modLink (c : BranchId) (e : DropId) (f : DropLink → DropLink) (u : UnitId) : (s.modLink c e f).unit u = s.unit u := by simp [State.unit, State.modLink]
@[simp] theorem State.unit_modClock (f : Clock → Clock) (u : UnitId) : (s.modClock f).unit u = s.unit u := by simp [State.unit]
@[simp] theorem State.unit_modStore (f : Store → Store) (u : UnitId) : (s.modStore f).unit u = s.unit u := by simp [State.unit]
@[simp] theorem State.unit_evalOutputs (u : UnitId) : (s.evalOutputs).unit u = s.unit u := by simp [State.unit]
@[simp] theorem State.unit_driveOffNow (j : DoorId) (u : UnitId) : (s.driveOffNow j).unit u = s.unit u := by simp [State.unit]

/-! ### Reading a branch -/

@[simp] theorem State.branch_mapPorts (f : PortId → Port → Port) (b : BranchId) : (s.mapPorts f).branch b = s.branch b := by simp [State.branch]
@[simp] theorem State.branch_touchSummary (b : BranchId) : (s.touchSummary).branch b = s.branch b := by simp [State.branch]
@[simp] theorem State.branch_touchIf (c : Bool) (b : BranchId) : (s.touchIf c).branch b = s.branch b := by simp [State.branch]
@[simp] theorem State.branch_modPort (p : PortId) (f : Port → Port) (b : BranchId) : (s.modPort p f).branch b = s.branch b := by simp [State.branch]
@[simp] theorem State.branch_modDoor (j : DoorId) (f : Door → Door) (b : BranchId) : (s.modDoor j f).branch b = s.branch b := by simp [State.branch]
@[simp] theorem State.branch_modUnit (v : UnitId) (f : PowerUnit → PowerUnit) (b : BranchId) : (s.modUnit v f).branch b = s.branch b := by simp [State.branch]
@[simp] theorem State.branch_modClock (f : Clock → Clock) (b : BranchId) : (s.modClock f).branch b = s.branch b := by simp [State.branch]
@[simp] theorem State.branch_modStore (f : Store → Store) (b : BranchId) : (s.modStore f).branch b = s.branch b := by simp [State.branch]
@[simp] theorem State.branch_evalOutputs (b : BranchId) : (s.evalOutputs).branch b = s.branch b := by simp [State.branch]
@[simp] theorem State.branch_driveOffNow (j : DoorId) (b : BranchId) : (s.driveOffNow j).branch b = s.branch b := by simp [State.branch]

/-! ### Reading a link -/

@[simp] theorem State.link_mapPorts (f : PortId → Port → Port) (b : BranchId) (d : DropId) : (s.mapPorts f).link b d = s.link b d := by simp [State.link, State.branch]
@[simp] theorem State.link_touchSummary (b : BranchId) (d : DropId) : (s.touchSummary).link b d = s.link b d := by simp [State.link, State.branch]
@[simp] theorem State.link_touchIf (c : Bool) (b : BranchId) (d : DropId) : (s.touchIf c).link b d = s.link b d := by simp [State.link, State.branch]
@[simp] theorem State.link_modPort (p : PortId) (f : Port → Port) (b : BranchId) (d : DropId) : (s.modPort p f).link b d = s.link b d := by simp [State.link, State.branch]
@[simp] theorem State.link_modDoor (j : DoorId) (f : Door → Door) (b : BranchId) (d : DropId) : (s.modDoor j f).link b d = s.link b d := by simp [State.link, State.branch]
@[simp] theorem State.link_modUnit (v : UnitId) (f : PowerUnit → PowerUnit) (b : BranchId) (d : DropId) : (s.modUnit v f).link b d = s.link b d := by simp [State.link, State.branch]
@[simp] theorem State.link_modClock (f : Clock → Clock) (b : BranchId) (d : DropId) : (s.modClock f).link b d = s.link b d := by simp [State.link, State.branch]
@[simp] theorem State.link_modStore (f : Store → Store) (b : BranchId) (d : DropId) : (s.modStore f).link b d = s.link b d := by simp [State.link, State.branch]
@[simp] theorem State.link_evalOutputs (b : BranchId) (d : DropId) : (s.evalOutputs).link b d = s.link b d := by simp [State.link, State.branch]
@[simp] theorem State.link_driveOffNow (j : DoorId) (b : BranchId) (d : DropId) : (s.driveOffNow j).link b d = s.link b d := by simp [State.link, State.branch]

end Sys2Proof.Machine
end

section
/-! SUPPORT. What a step can write (`Work`). Every operation of the D48 is a chain of single writes, each of which names
what it keeps: of a door its place and the rule of its fault sets, of a branch its ranges, of a port its role and the
marks of R168. The chain is found once for each operation here; the invariants that every step keeps are then read off
the writes. -/

namespace Sys2Proof.Machine

/-! ### The writes -/

/-- A write of a door by ordinary work: no setting of its place changes, the rule of the fault sets is kept, and no
stroke begins under an active drive cutoff. -/
structure DoorWrite (cutoff : Bool) (d e : Door) : Prop where
  place : e.image = { d.image with settings := e.settings }
  faults : d.unacked &&& ~~~d.faults = 0 → e.unacked &&& ~~~e.faults = 0
  stroke : e.state.hasStroke = true → d.state.hasStroke = true ∨ cutoff = false

/-- A write of a branch by ordinary work: its settings stay, and its counters stay in their ranges. -/
structure BranchWrite (x y : Branch) : Prop where
  image : y.image = x.image
  counter : x.roundCounter ≤ 255 → y.roundCounter ≤ 255
  sequence : x.sequence < 16 → y.sequence < 16
  misses : (∀ d : DropId, x.drops[d].missCount ≤ Config.maxMiss) → ∀ d : DropId, y.drops[d].missCount ≤ Config.maxMiss

/-- A write of a port by ordinary work: its role stays, and no mark of R168 is taken away. -/
structure PortWrite (q r : Port) : Prop where
  role : r.role = q.role
  changed : r.changed = q.changed
  lastReported : r.lastReported = q.lastReported
  reportsEnabled : r.reportsEnabled = q.reportsEnabled
  summary : q.summaryChanged = true → r.summaryChanged = true

/-- A write of the holds map by a console: LINE stays, START gains nothing, and a set that gains is a COMMAND port's. -/
structure HoldsWrite (s : State) (h : Holds) : Prop where
  line : h.line = s.holds.line
  start : h.start &&& ~~~s.holds.start = 0
  console : ∀ p : PortId, h.console[p] = s.holds.console[p] ∨ h.console[p] = 0 ∨ (s.port p).role = .command

/-- A write of the Settings Store by ordinary work: the lock is not opened, what installation SETs write stays, and
image and copy hold settings that stand or stood. -/
structure StoreWrite (s : State) (x : Store) : Prop where
  lock : x.lockOpen = true → s.store.lockOpen = true
  startClosed : x.startClosed = s.store.startClosed
  alarmMask : x.alarmMask = s.store.alarmMask
  image : ∀ m, x.image = some m → s.store.image = some m ∨ ∃ v, s.store.saving = some v ∧ v.copy = m
  saving : ∀ v, x.saving = some v → s.store.saving = some v ∨ v.copy = s.settingsImage

/-- A write of the clock keeps its values in range (R175). -/
def ClockWrite (c e : Clock) : Prop :=
  (c.time.Legal ∧ (∀ t, c.capture = some t → t.Legal) ∧ ∀ t, c.armed = some t → t.Legal) →
    e.time.Legal ∧ (∀ t, e.capture = some t → t.Legal) ∧ ∀ t, e.armed = some t → t.Legal

/-- The states to which ordinary work leads from `s₀`. -/
inductive Work (s₀ : State) : State → Prop where
  | start : Work s₀ s₀
  | door {s : State} (i : DoorId) (f : Door → Door) :
      Work s₀ s → DoorWrite s.cutoff.value (s.door i) (f (s.door i)) → Work s₀ (s.modDoor i f)
  | unit {s : State} (u : UnitId) (f : PowerUnit → PowerUnit) :
      Work s₀ s → (hf : ∀ x, (f x).image = x.image := by exact fun _ => rfl) → Work s₀ (s.modUnit u f)
  | branch {s : State} (b : BranchId) (f : Branch → Branch) :
      Work s₀ s → BranchWrite (s.branch b) (f (s.branch b)) → Work s₀ (s.modBranch b f)
  | port {s : State} (p : PortId) (f : Port → Port) :
      Work s₀ s → PortWrite (s.port p) (f (s.port p)) → Work s₀ (s.modPort p f)
  | cycles {s : State} (i : DoorId) : Work s₀ s → Work s₀ (s.leaveCycles i)
  | outputs {s : State} : Work s₀ s → Work s₀ s.evalOutputs
  | holds {s : State} (h : Holds) : Work s₀ s → HoldsWrite s h → Work s₀ ({ s with holds := h }.touchIf (s.holds != h))
  | settingsHold {s : State} (b : Bool) : Work s₀ s → Work s₀ { s with settingsHold := b }
  | clock {s : State} (f : Clock → Clock) : Work s₀ s → ClockWrite s.clock (f s.clock) → Work s₀ (s.modClock f)
  | sync {s : State} (x : SyncInput) : Work s₀ s → Work s₀ { s with sync := x }
  | store {s : State} (f : Store → Store) : Work s₀ s → StoreWrite s (f s.store) → Work s₀ (s.modStore f)
  | plainStore {s : State} (x : Store) :
      Work s₀ s → StoreWrite s x → x.imageFault = s.store.imageFault → Work s₀ { s with store := x }
  | closeAll {s : State} (a : Bool) : Work s₀ s → Work s₀ { s with closeAll := Input.settledAt a }.touchSummary
  | cutoffReleased {s : State} : Work s₀ s → Work s₀ { s with cutoff := Input.settledAt false }.touchSummary
  | freeCount {s : State} (n : Nat) : Work s₀ s → Work s₀ { s with freeCount := n }

theorem Work.trans {s t u : State} (h : Work s t) (k : Work t u) : Work s u := by
  induction k with
  | start => exact h
  | door i f _ w ih => exact ih.door i f w
  | unit u f _ w ih => exact ih.unit u f (hf := w)
  | branch b f _ w ih => exact ih.branch b f w
  | port p f _ w ih => exact ih.port p f w
  | cycles i _ ih => exact ih.cycles i
  | outputs _ ih => exact ih.outputs
  | holds m _ w ih => exact ih.holds m w
  | settingsHold b _ ih => exact ih.settingsHold b
  | clock f _ w ih => exact ih.clock f w
  | sync x _ ih => exact ih.sync x
  | store f _ w ih => exact ih.store f w
  | plainStore x _ w e ih => exact ih.plainStore x w e
  | closeAll a _ ih => exact ih.closeAll a
  | cutoffReleased _ ih => exact ih.cutoffReleased
  | freeCount n _ ih => exact ih.freeCount n

variable {s₀ s : State}

theorem Work.forEach {α : Type} {f : State → α → State} (l : List α) (hf : ∀ {s} a, Work s₀ s → Work s₀ (f s a)) :
    ∀ {s}, Work s₀ s → Work s₀ (l.foldl f s) := by
  induction l with
  | nil => exact id
  | cons a l ih => exact fun h => ih (hf a h)

theorem Work.forDoors (l : List DoorId) {f : DoorId → State → State} (hf : ∀ {s} i, Work s₀ s → Work s₀ (f i s))
    (h : Work s₀ s) : Work s₀ (s.forDoors l f) := Work.forEach l (fun i => hf i) h

/-- A write of a door that touches neither its place, nor its fault sets, nor its state. -/
structure PlainWrite (d e : Door) : Prop where
  place : e.image = { d.image with settings := e.settings }
  faults : e.faults = d.faults
  unacked : e.unacked = d.unacked
  state : e.state = d.state

theorem Work.plainDoor (h : Work s₀ s) (i : DoorId) {f : Door → Door}
    (hf : ∀ d, PlainWrite d (f d) := by exact fun _ => ⟨rfl, rfl, rfl, rfl⟩) :
    Work s₀ (s.modDoor i f) :=
  h.door i f ⟨(hf _).place, by rw [(hf _).faults, (hf _).unacked]; exact id, by rw [(hf _).state]; exact .inl⟩

/-! ### States, faults and rest (Ops, Rest) -/

theorem Work.setState (h : Work s₀ s) (i : DoorId) {st : DoorState}
    (hst : st.hasStroke = true → (s.door i).state.hasStroke = true ∨ s.cutoff.value = false) :
    Work s₀ (s.setState i st) := h.door i _ ⟨rfl, id, hst⟩

/-- A state without a stroke may be entered under the cutoff. -/
theorem Work.setStill (h : Work s₀ s) (i : DoorId) {st : DoorState} (hst : st.hasStroke = false) :
    Work s₀ (s.setState i st) := h.setState i (by simp [hst])

theorem Work.setSource (h : Work s₀ s) (i : DoorId) (src : Source) : Work s₀ (s.setSource i src) :=
  h.plainDoor i

theorem Work.driveOffNow (h : Work s₀ s) (i : DoorId) : Work s₀ (s.driveOffNow i) := by
  simp only [State.driveOffNow]; split
  · exact h.plainDoor i
  · exact h

/-- R21: a fault kind that joins both sets, or leaves both, keeps the one within the other. -/
theorem unacked_or_within {f u : FaultSet} (k : FaultSet) (h : u &&& ~~~f = 0) : (u ||| k) &&& ~~~(f ||| k) = 0 := by
  ext n hn
  have := congrArg (fun x : FaultSet => x.getLsbD n) h
  simp at this ⊢
  grind

theorem unacked_and_within {f u : FaultSet} (k : FaultSet) (h : u &&& ~~~f = 0) : (u &&& k) &&& ~~~(f &&& k) = 0 := by
  ext n hn
  have := congrArg (fun x : FaultSet => x.getLsbD n) h
  simp at this ⊢
  grind

theorem Work.raiseFault (h : Work s₀ s) (i : DoorId) (k : FaultKind) : Work s₀ (s.raiseFault i k) :=
  h.door i _ ⟨rfl, unacked_or_within _, .inl⟩

theorem Work.clearFault (h : Work s₀ s) (i : DoorId) (k : FaultKind) : Work s₀ (s.clearFault i k) :=
  h.door i _ ⟨rfl, unacked_and_within _, .inl⟩

theorem Work.raiseCondition (h : Work s₀ s) (i : DoorId) (k : FaultKind) : Work s₀ (s.raiseCondition i k) := by
  simp only [State.raiseCondition]; split
  · exact h
  · exact h.raiseFault i k

theorem Work.followCondition (h : Work s₀ s) (i : DoorId) (k : FaultKind) (c : Bool) :
    Work s₀ (s.followCondition i k c) := by
  simp only [State.followCondition]; split
  · exact h.raiseCondition i k
  · exact h.clearFault i k

theorem Work.applyPending (h : Work s₀ s) (i : DoorId) : Work s₀ (s.applyPending i) :=
  h.plainDoor i

theorem Work.enterWarning (h : Work s₀ s) (i : DoorId) (c : Cause) : Work s₀ (s.enterWarning i c) :=
  (h.setStill i rfl).plainDoor i

theorem Work.closureDemand (h : Work s₀ s) (i : DoorId) : Work s₀ (s.closureDemand i) := by
  simp only [State.closureDemand]; split
  · exact (h.enterWarning i _).setSource i _
  · exact h

theorem Work.applyAtRest (h : Work s₀ s) (i : DoorId) : Work s₀ (s.applyAtRest i) := by
  simp only [State.applyAtRest]; split
  · exact h
  · exact h.applyPending i

theorem Work.enterRest (h : Work s₀ s) (i : DoorId) {st : DoorState} (hst : st.hasStroke = false) :
    Work s₀ (s.enterRest i st) := ((h.setStill i hst).applyAtRest i).closureDemand i

@[simp] theorem Indication.restState_hasStroke (x : Indication) : x.restState.hasStroke = false := by cases x <;> rfl

theorem Work.enterIndicated (h : Work s₀ s) (i : DoorId) : Work s₀ (s.enterIndicated i) :=
  h.enterRest i (by simp)

theorem Work.followIndication (h : Work s₀ s) (i : DoorId) : Work s₀ (s.followIndication i) := by
  simp only [State.followIndication]; split
  · exact h
  · exact h.enterIndicated i

/-! ### Admission -/

@[simp] theorem Dir.driving_hasStroke (d : Dir) : d.driving.hasStroke = true := by cases d <;> rfl

theorem Work.admitHead (h : Work s₀ s) (u : UnitId) (e : Entry) (hc : s.cutoff.value = false) :
    Work s₀ (s.admitHead u e) :=
  ((h.unit u _).plainDoor e.door (f := fun d => { d with stroke := some e.stroke }) fun _ => ⟨rfl, rfl, rfl, rfl⟩).setState e.door fun _ => .inr (by simp [hc])

theorem Work.admitUpTo (u : UnitId) (n : Nat) : ∀ {s}, Work s₀ s → Work s₀ (s.admitUpTo u n) := by
  induction n with
  | zero => exact id
  | succ n ih =>
    intro s h
    simp only [State.admitUpTo]
    split
    · exact h
    · split
      · next hc => exact ih (h.admitHead u _ (by simpa using (Bool.and_eq_true_iff.mp hc).2))
      · exact h

theorem Work.admissionRun (h : Work s₀ s) (u : UnitId) : Work s₀ (s.admissionRun u) := by
  simp only [State.admissionRun]; split
  · exact h.admitUpTo u _
  · exact h

theorem Work.idleIfDone (h : Work s₀ s) (u : UnitId) : Work s₀ (s.idleIfDone u) := by
  simp only [State.idleIfDone]; split
  · exact h.unit u _
  · exact h

theorem Work.freeSlot (h : Work s₀ s) (i : DoorId) : Work s₀ (s.freeSlot i) :=
  ((h.unit (s.door i).unit _).admissionRun _).idleIfDone _

theorem Work.leaveList (h : Work s₀ s) (i : DoorId) : Work s₀ (s.leaveList i) := by
  simp only [State.leaveList]; split
  · exact (h.unit _ _).unit _ _
  · exact (h.unit _ _).idleIfDone _

theorem Work.startUnit (h : Work s₀ s) (u : UnitId) : Work s₀ (s.startUnit u) := h.unit u _

theorem Work.unitJoined (h : Work s₀ s) (u : UnitId) (cls : Nat) : Work s₀ (s.unitJoined u cls) := by
  simp only [State.unitJoined]
  split
  case h_1 =>
    split
    · exact h.startUnit u
    · exact h.unit u _
  case h_2 =>
    split
    · exact h.startUnit u
    · exact h
  case h_3 => exact h
  case h_4 => exact h.admissionRun u
  case h_5 => exact (h.unit u _).admissionRun u
  case h_6 => exact h

/-! ### Strokes -/

theorem Work.refusePower (h : Work s₀ s) (i : DoorId) : Work s₀ (s.refusePower i) :=
  (h.raiseFault i _).enterIndicated i

theorem Work.listRequest (h : Work s₀ s) (i : DoorId) (r : StrokeRequest) : Work s₀ (s.listRequest i r) :=
  ((h.unit (s.door i).unit _).setStill i rfl).unitJoined _ _

theorem Work.request (h : Work s₀ s) (i : DoorId) (r : StrokeRequest) : Work s₀ (s.request i r) := by
  simp only [State.request]; split
  · exact h.refusePower i
  · exact h.listRequest i r

theorem Work.endStroke (h : Work s₀ s) (i : DoorId) : Work s₀ (s.endStroke i) :=
  ((h.driveOffNow i).freeSlot i).plainDoor i (f := fun d => { d with stroke := none })

theorem Work.haltToRest (h : Work s₀ s) (i : DoorId) : Work s₀ (s.haltToRest i) := (h.endStroke i).enterIndicated i

theorem Work.cut (h : Work s₀ s) (i : DoorId) (k : FaultKind) : Work s₀ (s.cut i k) := by
  simp only [State.cut]; split
  · exact (h.raiseFault i k).haltToRest i
  · exact h

theorem Work.endWork (h : Work s₀ s) (i : DoorId) : Work s₀ (s.endWork i) := by
  have ended := h.endStroke i
  simp only [State.endWork]
  split
  case h_1 => exact h.leaveList i
  case h_5 => exact h
  all_goals exact ended

theorem Work.stopToRest (h : Work s₀ s) (i : DoorId) : Work s₀ (s.stopToRest i) := (h.endWork i).enterIndicated i

theorem Work.passToWarning (h : Work s₀ s) (i : DoorId) (c : Cause) : Work s₀ (s.passToWarning i c) :=
  (h.endWork i).enterWarning i c

theorem Work.takeIndication (h : Work s₀ s) (i : DoorId) : Work s₀ (s.takeIndication i) := by
  simp only [State.takeIndication]; split
  · exact h.followIndication i
  · split
    · exact h.stopToRest i
    · exact h

/-- A drive that goes off leaves the state of every door. -/
@[simp] theorem State.state_driveOffNow (s : State) (i j : DoorId) : ((s.driveOffNow i).door j).state = (s.door j).state := by
  simp only [State.driveOffNow]; split
  · rw [State.door_modDoor]; split
    · next e => rw [e]
    · rfl
  · rfl

theorem Work.changeDirection (h : Work s₀ s) {i : DoorId} (hi : (s.door i).state.hasStroke = true) (dir : Dir)
    (c : Cause) (cls : Nat) : Work s₀ (s.changeDirection i dir c cls) := by
  simp only [State.changeDirection, State.deadTimeTest]
  refine Work.setState (Work.plainDoor (h.driveOffNow i) i) i fun _ => .inl ?_
  simpa using hi

theorem Work.issueDrive (h : Work s₀ s) (i : DoorId) : Work s₀ (s.issueDrive i) := by
  simp only [State.issueDrive]; split
  · split
    · exact h
    · exact h.plainDoor i
  · exact h

theorem Work.startTail (h : Work s₀ s) (i : DoorId) (c : Cause) : Work s₀ (s.startTail i c) := by
  simp only [State.startTail]; split
  · exact h.plainDoor i
  · exact h

theorem Work.complete (h : Work s₀ s) (i : DoorId) (r : Stroke) (e : Nat) : Work s₀ (s.complete i r e) := by
  have done := (((h.driveOffNow i).freeSlot i).plainDoor i
    (f := fun d => d.completed r.direction e s.clock.time) fun _ => ⟨rfl, rfl, rfl, rfl⟩).enterIndicated i
  simp only [State.complete]; split
  · exact done.startTail i _
  · exact done

theorem Work.supervise (h : Work s₀ s) (i : DoorId) (r : Stroke) (e : Nat) : Work s₀ (s.supervise i r e) := by
  simp only [State.supervise]; split
  · exact h.complete i r e
  · split
    · exact h.cut i _
    · split
      · exact h
      · split
        · exact h.cut i _
        · exact h.plainDoor i

theorem Work.takeResult (h : Work s₀ s) (i : DoorId) : Work s₀ (s.takeResult i) := by
  simp only [State.takeResult]; split
  · exact h.takeIndication i
  · split
    · split
      · exact h.supervise i _ _
      · exact h
    · exact h

/-! ### Local controls -/

theorem Work.localSource (h : Work s₀ s) (i : DoorId) (old : DoorState) : Work s₀ (s.localSource i old) := by
  simp only [State.localSource]; split
  · exact h
  · exact h.setSource i _

theorem Work.openPressed (h : Work s₀ s) (i : DoorId) : Work s₀ (s.openPressed i) := by
  have asked := fun r => h.request i r
  have turned := fun hi => h.changeDirection (i := i) hi .opening .localControl 2
  simp only [State.openPressed]
  split
  case h_1 | h_2 | h_3 | h_4 => exact asked _
  case h_5 =>
    split
    · exact asked _
    · exact h
  case h_6 | h_7 => next e => exact turned (by rw [e]; rfl)
  all_goals exact h

theorem Work.closePressed (h : Work s₀ s) (i : DoorId) : Work s₀ (s.closePressed i) := by
  have asked := fun r => h.request i r
  have turned := fun hi cls => h.changeDirection (i := i) hi .close .localControl cls
  simp only [State.closePressed]
  split
  case h_1 | h_2 | h_3 => exact asked _
  case h_4 =>
    split
    · exact asked _
    · exact h
  case h_5 | h_6 => next e => exact turned (by rw [e]; rfl) _
  all_goals exact h

theorem Work.enterRecloseWait (h : Work s₀ s) (i : DoorId) : Work s₀ (s.enterRecloseWait i) :=
  (h.setStill i rfl).plainDoor i

theorem Work.openLetGo (h : Work s₀ s) (i : DoorId) : Work s₀ (s.openLetGo i) := by
  have opening : Work s₀ (if (s.door i).eventFaulted then s.stopToRest i else (s.endWork i).enterRecloseWait i) := by
    split
    · exact h.stopToRest i
    · exact (h.endWork i).enterRecloseWait i
  have standing : Work s₀ (if (s.door i).eventFaulted then s else s.enterRecloseWait i) := by
    split
    · exact h
    · exact h.enterRecloseWait i
  simp only [State.openLetGo]
  split <;> assumption

theorem Work.takeEdge (h : Work s₀ s) (i : DoorId) (edge : Bool) {f : State → State}
    (hf : Work s₀ (f s)) : Work s₀ (s.takeEdge i edge f) := by
  simp only [State.takeEdge]; split
  · exact hf.localSource i _
  · exact h

theorem Work.takeEdges (h : Work s₀ s) (i : DoorId) (e : Edges) : Work s₀ (s.takeEdges i e) := by
  have pressed := h.takeEdge i e.openPress (f := fun t => t.openPressed i) (h.openPressed i)
  have letGo : Work s₀ ((s.takeEdge i e.openPress fun t => t.openPressed i).takeLetGo i e.openLetGo) :=
    pressed.takeEdge i _ (pressed.openLetGo i)
  exact letGo.takeEdge i _ (letGo.closePressed i)

/-! ### Indication -/

theorem Work.unsettle (h : Work s₀ s) (i : DoorId) : Work s₀ (s.unsettle i) :=
  (h.plainDoor i (f := Door.unsettled) fun _ => ⟨rfl, rfl, rfl, rfl⟩).takeIndication i

theorem Work.rangeCheck (h : Work s₀ s) (i : DoorId) (raw : Int) : Work s₀ (s.rangeCheck i raw) := by
  simp only [State.rangeCheck]; split
  · exact Work.clearFault (h.plainDoor i) i _
  · exact h.raiseCondition i _

theorem Work.takeCount (h : Work s₀ s) (i : DoorId) (r : Reply) : Work s₀ (s.takeCount i r) :=
  (((h.plainDoor i (f := fun d => d.countTaken r.count) fun _ => ⟨rfl, rfl, rfl, rfl⟩).rangeCheck i _).followCondition i _ _).followCondition i _ _

/-- R34, R37, R38: the intake touches the inputs, the counts and the phase alone. -/
theorem Work.intake (h : Work s₀ s) (i : DoorId) (r : Reply) : Work s₀ (s.modDoor i fun d => d.intake r) := by
  have cases : ∀ d : Door, (d.intake r).image = d.image ∧ (d.intake r).faults = d.faults ∧
      (d.intake r).unacked = d.unacked ∧ (d.intake r).state = d.state := by
    intro d
    simp only [Door.intake]; split
    · exact ⟨rfl, rfl, rfl, rfl⟩
    · simp only [Door.settlingAdvanced]; split <;> exact ⟨rfl, rfl, rfl, rfl⟩
  refine h.plainDoor i fun d => ?_
  obtain ⟨image, faults, unacked, state⟩ := cases d
  have settings : (d.intake r).settings = d.settings := congrArg DoorImage.settings image
  exact ⟨by rw [image, settings]; rfl, faults, unacked, state⟩

theorem Work.switchConflict (h : Work s₀ s) (i : DoorId) (c : Bool) : Work s₀ (s.switchConflict i c) := by
  simp only [State.switchConflict]; split
  · exact h.followCondition i _ _
  · exact h

theorem Work.sensorDisagree (h : Work s₀ s) (i : DoorId) : Work s₀ (s.sensorDisagree i) := by
  have counted : ∀ f : Door → Nat, Work s₀ (s.modDoor i fun d => { d with disagreeCount := f d }) := fun f =>
    h.plainDoor i
  simp only [State.sensorDisagree]; split
  · split
    · exact (counted _).raiseCondition i _
    · exact counted _
  · exact (counted fun _ => 0).clearFault i _

theorem Work.indicate (h : Work s₀ s) (i : DoorId) : Work s₀ (s.indicate i) :=
  h.plainDoor i

theorem Work.reply (h : Work s₀ s) (i : DoorId) (r : Reply) : Work s₀ (s.reply i r) := by
  have judged := (((h.takeCount i r).intake i r).indicate i).switchConflict i
    (switchesTested ((s.takeCount i r).door i) (((s.takeCount i r).door i).intake r))
  simp only [State.reply]; split
  · exact judged.sensorDisagree i
  · exact judged

theorem Work.takeReply (h : Work s₀ s) (i : DoorId) (r : Reply) : Work s₀ (s.takeReply i r) :=
  ((h.reply i r).takeResult i).takeEdges i _

end Sys2Proof.Machine
end

section
/-! SUPPORT. What a step can write, continued: the Station Link Controller, the holds, the units, the orders and SETs,
requests and events. The few writes that are not ordinary work stand in `Special`: what the commissioning lock guards, the
enabling of reports, the LINE set and the drive cutoff. -/

namespace Sys2Proof.Machine

variable {s₀ s : State}

/-! ### Branches -/

/-- A write of a branch that touches neither its settings nor its counters. -/
structure PlainBranchWrite (x y : Branch) : Prop where
  image : y.image = x.image
  counter : y.roundCounter = x.roundCounter
  sequence : y.sequence = x.sequence
  drops : y.drops = x.drops

theorem Work.plainBranch (h : Work s₀ s) (b : BranchId) {f : Branch → Branch}
    (hf : ∀ x, PlainBranchWrite x (f x) := by exact fun _ => ⟨rfl, rfl, rfl, rfl⟩) : Work s₀ (s.modBranch b f) :=
  h.branch b f ⟨(hf _).image, by rw [(hf _).counter]; exact id, by rw [(hf _).sequence]; exact id,
    by rw [(hf _).drops]; exact id⟩

theorem drops_set {v : Vector DropLink 12} {d : DropId} {l : DropLink} (e : DropId) :
    (v.set d l)[e] = if e = d then l else v[e] := by
  by_cases h : e = d
  · subst h; simp
  · have : d.val ≠ e.val := fun x => h (Fin.ext x.symm)
    simp [h, this]

/-- R139: one pair rewritten within the range of its miss count. -/
theorem Work.link (h : Work s₀ s) (b : BranchId) (d : DropId) {f : DropLink → DropLink}
    (hf : ∀ l, l.missCount ≤ Config.maxMiss → (f l).missCount ≤ Config.maxMiss) : Work s₀ (s.modLink b d f) := by
  refine h.branch b _ ⟨rfl, id, id, fun hm e => ?_⟩
  rw [drops_set]; split
  · exact hf _ (hm d)
  · exact hm e

theorem missCount_fresh (d : DropId) : (Vector.replicate 12 DropLink.fresh)[d].missCount ≤ Config.maxMiss := by
  simp [DropLink.fresh, Config.maxMiss]

theorem portWrite_itemEnded (q : Port) (e : List Byte) : PortWrite q (q.itemEnded e) := by
  simp only [Port.itemEnded]
  split
  · exact ⟨rfl, rfl, rfl, rfl, id⟩
  · split <;> exact ⟨rfl, rfl, rfl, rfl, id⟩

theorem PortWrite.refl (q : Port) : PortWrite q q := ⟨rfl, rfl, rfl, rfl, id⟩

theorem Work.answerDirect (h : Work s₀ s) (b : BranchId) (r : Result) (data : List Byte) :
    Work s₀ (s.answerDirect b r data) := by
  simp only [State.answerDirect]
  split
  · exact h
  · refine Work.port _ _ (h.plainBranch b) ?_
    split
    · exact portWrite_itemEnded _ _
    · exact PortWrite.refl _

theorem Work.sendFrame (h : Work s₀ s) (b : BranchId) (d : DropId) (k : ExchangeKind) (drive : Drive) (g : Signals) :
    Work s₀ (s.sendFrame b d k drive g) :=
  h.branch b _ ⟨rfl, id, fun _ => Nat.mod_lt _ (by decide), id⟩

theorem Work.sendRegular (h : Work s₀ s) (b : BranchId) (d : DropId) (i : DoorId) : Work s₀ (s.sendRegular b d i) :=
  (h.sendFrame b d _ _ _).issueDrive i

theorem Work.beginExchange (h : Work s₀ s) (b : BranchId) (d : DropId) (i : DoorId) :
    Work s₀ (s.beginExchange b d i) := by
  simp only [State.beginExchange]
  split
  · split
    · split
      · exact h.sendFrame b d _ _ _
      · exact (h.answerDirect b _ _).sendRegular b d i
    · exact h.sendRegular b d i
  · exact h.sendRegular b d i

theorem nextRound_le (n : Nat) (h : n ≤ 255) : nextRound n ≤ 255 := by simp only [nextRound]; split <;> omega

theorem Work.countRound (h : Work s₀ s) (b : BranchId) : Work s₀ (s.countRound b) :=
  h.branch b _ ⟨rfl, nextRound_le _, id, id⟩

theorem Work.members (h : Work s₀ s) (b : BranchId) (f : Branch → List DropId) :
    Work s₀ (s.modBranch b fun x => { x with members := f x }) :=
  h.plainBranch b

theorem Work.exchangeFrom (h : Work s₀ s) (b : BranchId) (l : List DropId) {t : State}
    (ht : s.exchangeFrom b l = some t) : Work s₀ t := by
  induction l with
  | nil => simp [State.exchangeFrom] at ht
  | cons d l ih =>
    simp only [State.exchangeFrom] at ht
    split at ht
    · cases ht
      exact (h.members b fun _ => l).beginExchange b d _
    · exact ih ht

theorem Work.goOnOrComplete (h : Work s₀ s) (b : BranchId) : Work s₀ (s.goOnOrComplete b) := by
  simp only [State.goOnOrComplete]
  split
  · next t ht => exact h.exchangeFrom b _ ht
  · exact (h.members b fun _ => []).countRound b

theorem Work.startRound (h : Work s₀ s) (b : BranchId) : Work s₀ (s.startRound b) :=
  (h.plainBranch b (f := fun x => { x with
    roundTimer := some (s.runCount + x.roundPeriod), members := s.claimedDrops b })).goOnOrComplete b

theorem Work.nextRoundIfDue (h : Work s₀ s) (b : BranchId) : Work s₀ (s.nextRoundIfDue b) := by
  simp only [State.nextRoundIfDue]; split
  · exact h.startRound b
  · exact h

theorem Work.exchangeEnded (h : Work s₀ s) (b : BranchId) : Work s₀ (s.exchangeEnded b) :=
  (h.goOnOrComplete b).nextRoundIfDue b

theorem Work.dropLost (h : Work s₀ s) (b : BranchId) (d : DropId) : Work s₀ (s.dropLost b d) := by
  have lost := h.link b d (f := fun l => { l with lost := true }) fun _ => id
  simp only [State.dropLost]
  split
  · exact (lost.raiseCondition _ _).unsettle _
  · exact lost

theorem Work.miss (h : Work s₀ s) (b : BranchId) (d : DropId) : Work s₀ (s.miss b d) := by
  have counted := h.link b d (f := fun l => { l with missCount := min (l.missCount + 1) Config.maxMiss })
    fun _ _ => Nat.min_le_right _ _
  simp only [State.miss]
  split
  · exact counted.dropLost b d
  · exact counted

theorem Work.exchangeMissed (h : Work s₀ s) (b : BranchId) (x : Exchange) : Work s₀ (s.exchangeMissed b x) := by
  simp only [State.exchangeMissed]
  split
  · exact h.miss b _
  · exact (h.answerDirect b _ _).miss b _

theorem Work.freshLink (h : Work s₀ s) (b : BranchId) (d : DropId) : Work s₀ (s.modLink b d fun _ => DropLink.fresh) :=
  h.link b d fun _ _ => Nat.zero_le _

theorem Work.goodRegular (h : Work s₀ s) (b : BranchId) (d : DropId) (r : Reply) :
    Work s₀ (s.goodRegular b d r) := by
  have linked := h.freshLink b d
  simp only [State.goodRegular]
  split
  · split
    · exact (linked.clearFault _ _).takeReply _ r
    · exact linked.takeReply _ r
  · exact linked

theorem Work.goodDirect (h : Work s₀ s) (b : BranchId) (d : DropId) (data : List Byte) :
    Work s₀ (s.goodDirect b d data) :=
  (h.link b d (f := fun l => { l with missCount := 0 }) fun _ _ => Nat.zero_le _).answerDirect b _ _

theorem Work.clearExchange (h : Work s₀ s) (b : BranchId) : Work s₀ (s.clearExchange b) :=
  h.plainBranch b

theorem Work.deadlinePassed (h : Work s₀ s) (b : BranchId) : Work s₀ (s.deadlinePassed b) := by
  simp only [State.deadlinePassed]
  split
  · split
    · exact ((h.clearExchange b).exchangeMissed b _).exchangeEnded b
    · exact h
  · exact h

theorem Work.frameJudged (h : Work s₀ s) (b : BranchId) (x : Exchange) (f : StationFrame) :
    Work s₀ (s.frameJudged b x f) := by
  simp only [State.frameJudged]
  refine Work.exchangeEnded ?_ b
  split
  · split
    · exact (h.clearExchange b).goodRegular b _ _
    · exact (h.clearExchange b).goodDirect b _ _
  · exact (h.clearExchange b).exchangeMissed b x

theorem Work.takeFrame (h : Work s₀ s) (b : BranchId) (f : StationFrame) : Work s₀ (s.takeFrame b f) := by
  have discarded : Work s₀ (s.discardBroken b f) :=
    h.plainBranch b
  simp only [State.takeFrame]
  split
  · split
    · exact discarded
    · exact h.frameJudged b _ f
  · exact discarded

theorem Work.listening (h : Work s₀ s) (b : BranchId) (c : Bool) : Work s₀ (s.listening b c) :=
  h.plainBranch b

theorem Work.stationFrame (h : Work s₀ s) (b : BranchId) (l : List Byte) : Work s₀ (s.stationFrame b l) := by
  simp only [State.stationFrame]
  split
  · exact (h.listening b false).takeFrame b _
  · exact h.listening b false

theorem Work.breakExchange (h : Work s₀ s) (b : BranchId) (r : Result) : Work s₀ (s.breakExchange b r) := by
  have broken := fun x : Exchange => h.plainBranch b
    (f := fun y => { y with exchange := none, broken := y.broken ++ [(x.drop, x.sequence)] })
  simp only [State.breakExchange]
  split
  · exact h
  · split
    · exact broken _
    · exact (broken _).answerDirect b r _

theorem Work.dropDirect (h : Work s₀ s) (b : BranchId) (d : DropId) (r : Result) : Work s₀ (s.dropDirect b d r) := by
  simp only [State.dropDirect]
  split
  · split
    · exact h.answerDirect b r _
    · exact h
  · exact h

theorem Work.releasePair (h : Work s₀ s) (b : BranchId) (d : DropId) : Work s₀ (s.releasePair b d) := by
  have fresh := (h.freshLink b d).members b fun x => x.members.filter fun e => e ≠ d
  simp only [State.releasePair]
  split
  · split
    · exact ((fresh.breakExchange b _).dropDirect b d _).exchangeEnded b
    · exact fresh.dropDirect b d _
  · exact fresh.dropDirect b d _

theorem Work.claimPair (h : Work s₀ s) (b : BranchId) (d : DropId) : Work s₀ (s.claimPair b d) := h.freshLink b d

/-! ### Holds and units -/

theorem Work.updateNotControlled (h : Work s₀ s) (i : DoorId) : Work s₀ (s.updateNotControlled i) :=
  h.followCondition i _ _

theorem Work.moveToClass0 (h : Work s₀ s) (i : DoorId) : Work s₀ (s.moveToClass0 i) := by
  simp only [State.moveToClass0]; split
  · split
    · exact (h.unit _ _).unitJoined _ _
    · exact h
  · exact h

theorem Work.makeHoldToRun (h : Work s₀ s) (i : DoorId) : Work s₀ (s.makeHoldToRun i) := by
  simp only [State.makeHoldToRun]
  exact Work.plainDoor (h.unit _ _) i

theorem Work.doorBecomesHeld (h : Work s₀ s) (i : DoorId) : Work s₀ (s.doorBecomesHeld i) := by
  have opening : Work s₀ (if (s.door i).localOpen then s.makeHoldToRun i
      else if (s.door i).eventFaulted then s.stopToRest i
      else (s.passToWarning i .closure).setSource i .closure) := by
    split
    · exact h.makeHoldToRun i
    · split
      · exact h.stopToRest i
      · exact (h.passToWarning i _).setSource i _
  have demand := h.closureDemand i
  have listed := h.moveToClass0 i
  have warned : Work s₀ (s.modDoor i fun d =>
      { d with leadIn := d.leadIn.map fun l => { l with cause := l.cause.fromConsole .closure } }) :=
    h.plainDoor i
  simp only [State.doorBecomesHeld]
  split <;> assumption

theorem Work.doorReleased (h : Work s₀ s) (i : DoorId) : Work s₀ (s.doorReleased i) := by
  simp only [State.doorReleased]; split
  · exact h.enterIndicated i
  · exact h

theorem Work.takeUnionChange (h : Work s₀ s) (old : ZoneSet) (i : DoorId) :
    Work s₀ (State.takeUnionChange old i s) := by
  simp only [State.takeUnionChange]; split
  · exact h
  · split
    · exact (h.doorBecomesHeld i).updateNotControlled i
    · exact (h.doorReleased i).updateNotControlled i

/-- R82: what follows on the write of the holds map. -/
theorem Work.setHolds {h : Holds} (w : Work s₀ ({ s with holds := h }.touchIf (s.holds != h))) :
    Work s₀ (s.setHolds h) := w.forDoors _ fun i k => k.takeUnionChange _ i

theorem Work.dropEntry (h : Work s₀ s) (i : DoorId) : Work s₀ (s.dropEntry i) :=
  ((h.raiseFault i _).leaveList i).enterIndicated i

theorem Work.failUnit (h : Work s₀ s) (u : UnitId) : Work s₀ (s.failUnit u) := by
  have cuts : ∀ {t : State} l, Work s₀ t → Work s₀ (t.forDoors l fun i t => t.cut i .noPower) := fun l k =>
    k.forDoors l fun i k => k.cut i .noPower
  have drops : ∀ {t : State} l, Work s₀ t → Work s₀ (t.forDoors l fun i t => t.dropEntry i) := fun l k =>
    k.forDoors l fun i k => k.dropEntry i
  simp only [State.failUnit]
  exact (drops _ (cuts _ (h.unit u (fun x => { x with state := .failed, timer := none })))).unit u
    (fun x => { x with attention := true })

theorem Work.ageExpired (h : Work s₀ s) (u : UnitId) : Work s₀ (s.ageExpired u) := by
  simp only [State.ageExpired]; split
  · exact h.startUnit u
  · exact h

theorem Work.startExpired (h : Work s₀ s) (u : UnitId) : Work s₀ (s.startExpired u) := by
  simp only [State.startExpired]; split
  · split
    · exact h.failUnit u
    · exact ((h.unit u _).admissionRun u).idleIfDone u
  · exact h

theorem Work.holdoffExpired (h : Work s₀ s) (u : UnitId) : Work s₀ (s.holdoffExpired u) := by
  simp only [State.holdoffExpired]; split
  · exact h.unit u _
  · exact h

theorem Work.pressureChanged (h : Work s₀ s) (u : UnitId) (active : Bool) : Work s₀ (s.pressureChanged u active) := by
  simp only [State.pressureChanged]; split
  · exact h
  · split
    · exact (h.unit u _).failUnit u
    · exact h.unit u _

theorem Work.cutoffRelease (h : Work s₀ s) : Work s₀ s.cutoffReleased := by
  simp only [State.cutoffReleased]; split
  · exact Work.forEach _ (fun u k => k.admissionRun u) h.cutoffReleased
  · exact h

/-! ### Orders -/

theorem Work.byPort (h : Work s₀ s) (i : DoorId) (p : PortId) : Work s₀ (s.byPort i p).1 := h.setSource i _

theorem Work.closeDoor (h : Work s₀ s) (p : PortId) (i : DoorId) : Work s₀ (State.closeDoor p i s).1 := by
  have passed : ∀ c, Work s₀ ((s.passToWarning i c).byPort i p).1 := fun c => (h.passToWarning i c).byPort i p
  simp only [State.closeDoor]
  split
  · exact h
  split
  · exact h
  split
  · exact h
  split
  · exact h
  split <;> first | exact h | exact passed _

theorem Work.openDoor (h : Work s₀ s) (p : PortId) (i : DoorId) : Work s₀ (State.openDoor p i s).1 := by
  have asked : ∀ (b : Bool) r, Work s₀
      (if b then (s.refusePower i, Result.refusedPower) else (s.listRequest i r).byPort i p).1 := by
    intro b r
    cases b
    · exact (h.listRequest i r).byPort i p
    · exact h.refusePower i
  have turned := fun hi => (h.changeDirection (i := i) hi .opening (.console p) 2).byPort i p
  simp only [State.openDoor]
  split
  · exact h
  split
  · exact h
  split
  · exact h
  split
  · exact h
  split
  case h_5 | h_6 => next e => exact turned (by rw [e]; rfl)
  all_goals first | exact h | exact asked _ _

theorem Work.stopDoor (h : Work s₀ s) (p : PortId) (i : DoorId) : Work s₀ (State.stopDoor p i s).1 := by
  have stopped := (h.stopToRest i).byPort i p
  simp only [State.stopDoor]
  split
  · exact h
  · split <;> first | exact h | exact stopped

theorem Work.serviceOut (h : Work s₀ s) (p : PortId) (i : DoorId) : Work s₀ (State.serviceOut p i s).1 := by
  simp only [State.serviceOut]
  split
  · exact h
  split
  · exact h
  split
  · exact h
  · exact Work.byPort (h.plainDoor i) i p

theorem Work.serviceIn (h : Work s₀ s) (p : PortId) (i : DoorId) : Work s₀ (State.serviceIn p i s).1 := by
  simp only [State.serviceIn]
  refine Work.closureDemand (Work.clearFault ?_ i _) i
  split
  · exact h
  · exact Work.setSource (h.plainDoor i) i _

theorem Work.resetDoor (h : Work s₀ s) (i : DoorId) : Work s₀ (State.resetDoor i s).1 :=
  (h.door i _ ⟨rfl, unacked_and_within _, .inl⟩).closureDemand i

theorem Work.ackDoor (h : Work s₀ s) (i : DoorId) : Work s₀ (State.ackDoor i s).1 := by
  simp only [State.ackDoor]
  exact h.door i (fun d => { d with unacked := 0 }) ⟨rfl, fun _ => by simp, .inl⟩

theorem Work.testDoor (h : Work s₀ s) (i : DoorId) : Work s₀ (State.testDoor i s).1 := by
  simp only [State.testDoor]; split
  · dsimp only
    exact h.plainDoor i
  · exact h

theorem Work.stage (h : Work s₀ s) (k : OpSetting) (v : Nat) (i : DoorId) : Work s₀ (s.stage k v i) := by
  have staged : Work s₀ (s.modDoor i fun d => { d with pending := d.pending.set k (some v) }) :=
    h.plainDoor i
  simp only [State.stage]; split
  · exact staged.applyPending i
  · exact staged

theorem Work.doorOrder (h : Work s₀ s) (n : Nat) {f : DoorOrder} (hf : ∀ {s} i, Work s₀ s → Work s₀ (f i s).1) :
    Work s₀ (s.doorOrder n f).state := by
  simp only [State.doorOrder]
  split
  · exact h
  · split
    · exact hf _ h
    · exact h

theorem Work.zoneOrder (h : Work s₀ s) (z : ZoneId) {f : DoorOrder} (hf : ∀ {s} i, Work s₀ s → Work s₀ (f i s).1) :
    Work s₀ (s.zoneOrder z f).state := by
  have all : ∀ (l : List DoorId) (t : ZoneTally), Work s₀ t.state → Work s₀ (l.foldl (ZoneTally.next f) t).state := by
    intro l
    induction l with
    | nil => exact fun t => id
    | cons i l ih =>
      refine fun t k => ih _ ?_
      simp only [ZoneTally.next]; split <;> exact hf i k
  exact all _ { state := s, count := 0, first := none } h

theorem Work.doorOrZone (h : Work s₀ s) (t : Target) {f : DoorOrder} (hf : ∀ {s} i, Work s₀ s → Work s₀ (f i s).1) :
    Work s₀ (s.doorOrZone t f).state := by
  simp only [State.doorOrZone]
  split
  · exact h.doorOrder _ hf
  · split
    · exact h.zoneOrder _ hf
    · exact h
  · exact h

theorem Work.doorOnly (h : Work s₀ s) (t : Target) {f : DoorOrder} (hf : ∀ {s} i, Work s₀ s → Work s₀ (f i s).1) :
    Work s₀ (s.doorOnly t f).state := by
  simp only [State.doorOnly]
  split
  · exact h.doorOrder _ hf
  · exact h

/-- R83: the owner's answer is asked for only where the port is a COMMAND port. -/
theorem Work.asCommand (h : Work s₀ s) (p : PortId) {k : Answer} (hk : (s.port p).role = .command → Work s₀ k.state) :
    Work s₀ (s.asCommand p k).state := by
  simp only [State.asCommand]; split
  · next e => exact hk (by simpa [State.commands] using e)
  · exact h

theorem holdsWrite_console {p : PortId} (hr : (s.port p).role = .command) (m : ZoneSet) :
    HoldsWrite s (s.holds.setConsole p m) := by
  refine ⟨rfl, by simp [Holds.setConsole], fun q => ?_⟩
  by_cases e : q = p
  · exact .inr (.inr (e ▸ hr))
  · have : p.val ≠ q.val := fun c => e (Fin.ext c.symm)
    exact .inl (by simp [Holds.setConsole, this])

theorem holdsWrite_foreign (q : PortId) : HoldsWrite s (s.holds.setConsole q 0) := by
  refine ⟨rfl, by simp [Holds.setConsole], fun r => ?_⟩
  by_cases e : r = q
  · exact .inr (.inl (by subst e; simp [Holds.setConsole]))
  · have : q.val ≠ r.val := fun c => e (Fin.ext c.symm)
    exact .inl (by simp [Holds.setConsole, this])

theorem Work.orderHoldZones (h : Work s₀ s) (p : PortId) (t : Target) : Work s₀ (s.orderHoldZones p t).state := by
  refine h.asCommand p fun hr => ?_
  split
  · exact (h.holds _ (holdsWrite_console hr _)).setHolds
  · exact h

theorem Work.orderReleaseZones (h : Work s₀ s) (p : PortId) (t : Target) :
    Work s₀ (s.orderReleaseZones p t).state := by
  refine h.asCommand p fun hr => ?_
  split
  · exact (h.holds _ (holdsWrite_console hr _)).setHolds
  · exact h

theorem Work.orderReleaseForeign (h : Work s₀ s) (p : PortId) (t : Target) :
    Work s₀ (s.orderReleaseForeign p t).state := by
  refine h.asCommand p fun _ => ?_
  split
  · exact (h.holds { s.holds with start := 0 } ⟨rfl, by simp, fun _ => .inl rfl⟩).setHolds
  · exact h
  · split
    · exact h
    · split
      · exact h
      · exact (h.holds _ (holdsWrite_foreign _)).setHolds
  · exact h

theorem Work.orderService (h : Work s₀ s) (p : PortId) (t : Target) (v : Nat) :
    Work s₀ (s.orderService p t v).state := by
  refine h.asCommand p fun _ => ?_
  split
  · exact h.doorOnly t fun i k => k.serviceOut p i
  · exact h.doorOnly t fun i k => k.serviceIn p i
  · exact h.doorOnly t fun _ k => k

theorem Work.orderSettingsHold (h : Work s₀ s) (p : PortId) (v : Nat) : Work s₀ (s.orderSettingsHold p v).state := by
  refine h.asCommand p fun _ => ?_
  split
  · exact (h.settingsHold false).forDoors _ fun i k => k.applyPending i
  · exact h
  · exact h.settingsHold true
  · exact h

theorem Work.orderResetUnit (h : Work s₀ s) (p : PortId) (t : Target) : Work s₀ (s.orderResetUnit p t).state := by
  refine h.asCommand p fun _ => ?_
  split
  · split
    · exact h
    · dsimp only
      split
      · exact h
      · refine Work.forDoors _ (fun i k => k.closureDemand i) ?_
        split
        · exact h.unit _ _
        · exact h
  · exact h

theorem Work.orderAck (h : Work s₀ s) (p : PortId) (t : Target) : Work s₀ (s.orderAck p t).state := by
  refine h.asCommand p fun _ => ?_
  split
  · exact h.forDoors _ fun i k => k.ackDoor i
  · exact h.doorOrZone t fun i k => k.ackDoor i

theorem Work.orderAckPort (h : Work s₀ s) (p : PortId) (t : Target) : Work s₀ (s.orderAckPort p t).state := by
  refine h.asCommand p fun _ => ?_
  split
  · split
    · dsimp only [State.answer]
      exact h.port _ _ ⟨rfl, rfl, rfl, rfl, id⟩
    · exact h
  · exact h

theorem Work.orderAckUnit (h : Work s₀ s) (p : PortId) (t : Target) : Work s₀ (s.orderAckUnit p t).state := by
  refine h.asCommand p fun _ => ?_
  split
  · split
    · dsimp only [State.answer]
      exact h.unit _ _
    · exact h
  · exact h

/-! ### The clock and the store -/

theorem stampLegal_iff (day ms : Nat) : stampLegal day ms = true ↔ Stamp.Legal { day := day, ms := ms } := by
  simp [stampLegal, Stamp.Legal]

theorem Stamp.Legal.next {t : Stamp} (h : t.Legal) : t.next.Legal := by
  obtain ⟨hd, hm⟩ := h
  unfold Stamp.next
  split <;> constructor <;> simp only [Config.dayMs, Config.dayCount] at * <;> omega

theorem Stamp.Legal.prev {t : Stamp} (h : t.Legal) : t.prev.Legal := by
  obtain ⟨hd, hm⟩ := h
  unfold Stamp.prev
  split <;> constructor <;> simp only [Config.dayMs, Config.dayCount] at * <;> omega

theorem Stamp.Legal.adjust {t : Stamp} (h : t.Legal) {delta : Int} (hl : -(Config.dayMs : Int) ≤ delta)
    (hu : delta ≤ (Config.dayMs : Int)) : (t.adjust delta).Legal := by
  obtain ⟨hd, hm⟩ := h
  simp only [Stamp.adjust]
  split
  · constructor <;> simp only [Config.dayMs, Config.dayCount] at * <;> omega
  · split <;> constructor <;> simp only [Config.dayMs, Config.dayCount] at * <;> omega

theorem Work.orderClockLoad (h : Work s₀ s) (p : PortId) (day ms : Nat) :
    Work s₀ (s.orderClockLoad p day ms).state := by
  refine h.asCommand p fun _ => ?_
  split
  · next e =>
    dsimp only [State.answer]
    exact h.clock _ fun ⟨_, hc, ha⟩ => ⟨(stampLegal_iff day ms).mp e, hc, ha⟩
  · exact h

theorem Work.orderClockAdjust (h : Work s₀ s) (p : PortId) (delta : Int) :
    Work s₀ (s.orderClockAdjust p delta).state := by
  refine h.asCommand p fun _ => ?_
  split
  · next e =>
    simp only [Bool.and_eq_true, decide_eq_true_eq] at e
    dsimp only [State.answer]
    exact h.clock _ fun ⟨ht, hc, ha⟩ => ⟨ht.adjust e.1 e.2, hc, ha⟩
  · exact h

theorem Work.orderClockArm (h : Work s₀ s) (p : PortId) (day ms : Nat) :
    Work s₀ (s.orderClockArm p day ms).state := by
  refine h.asCommand p fun _ => ?_
  split
  · next e =>
    dsimp only [State.answer]
    refine h.clock _ fun ⟨ht, hc, _⟩ => ⟨ht, hc, fun t e' => ?_⟩
    cases e'; exact (stampLegal_iff day ms).mp e
  · exact h

theorem Work.orderClockDisarm (h : Work s₀ s) (p : PortId) : Work s₀ (s.orderClockDisarm p).state := by
  refine h.asCommand p fun _ => ?_
  dsimp only [State.answer]
  exact h.clock _ fun ⟨ht, hc, _⟩ => ⟨ht, hc, fun _ e => by cases e⟩

theorem Work.trimExpired (h : Work s₀ s) : Work s₀ s.trimExpired := by
  simp only [State.trimExpired]
  split
  · split
    · refine h.clock _ fun ⟨ht, hc, ha⟩ => ⟨?_, hc, ha⟩
      simp only [Clock.stepped]; split
      · exact ht.next
      · exact ht.prev
    · exact h
  · exact h

theorem Work.syncEdge (h : Work s₀ s) : Work s₀ s.syncEdge := by
  have edge : ClockWrite s.clock s.clock.edge := by
    rintro ⟨ht, hc, ha⟩
    simp only [Clock.edge]
    split
    · next e => exact ⟨ha _ e, fun _ x => by cases x; exact ht, fun _ x => by cases x⟩
    · exact ⟨ht, fun _ x => by cases x; exact ht, ha⟩
  simp only [State.syncEdge]
  split
  · exact (h.clock Clock.edge edge).sync _
  · exact h

/-- A write of the store that keeps image, copy and what installation SETs write, and does not open the lock. -/
theorem storeWrite_plain {x : Store} (hl : x.lockOpen = true → s.store.lockOpen = true)
    (hs : x.startClosed = s.store.startClosed) (hm : x.alarmMask = s.store.alarmMask) (hi : x.image = s.store.image)
    (hv : x.saving = s.store.saving) : StoreWrite s x :=
  ⟨hl, hs, hm, fun _ e => .inl (hi ▸ e), fun _ e => .inl (hv ▸ e)⟩

theorem Work.orderSave (h : Work s₀ s) (p : PortId) : Work s₀ (s.orderSave p).state := by
  refine h.asCommand p fun _ => ?_
  split
  · exact h
  · split
    · exact h
    · dsimp only [State.answer]
      refine h.store _ ⟨id, rfl, rfl, fun _ => .inl, fun v e => .inr ?_⟩
      exact (congrArg Saving.copy (Option.some.inj e)).symm

theorem Work.orderLock (h : Work s₀ s) (p : PortId) : Work s₀ (s.orderLock p).state := by
  refine h.asCommand p fun _ => ?_
  dsimp only [State.answer]
  exact h.store _ (storeWrite_plain (fun e => by cases e) rfl rfl rfl rfl)

theorem Work.orderRestart (h : Work s₀ s) (p : PortId) : Work s₀ (s.orderRestart p).state := by
  refine h.asCommand p fun _ => ?_
  split
  · exact h
  · split
    · exact h
    · dsimp only [State.answer]
      exact h.store _ (storeWrite_plain id rfl rfl rfl rfl)

theorem Work.saveCompleted (h : Work s₀ s) : Work s₀ s.saveCompleted := by
  simp only [State.saveCompleted]
  split
  · next v hv =>
    split
    · refine h.store _ ⟨id, rfl, rfl, fun m e => .inr ⟨v, hv, ?_⟩, fun _ e => by cases e⟩
      exact Option.some.inj e
    · exact h
  · exact h

/-- R162: every order is ordinary work. -/
theorem Work.ordering (h : Work s₀ s) (p : PortId) (t : Target) (o : OrderOp) : Work s₀ (s.ordering p t o).state := by
  have doors : ∀ {f : DoorOrder}, (∀ {s} i, Work s₀ s → Work s₀ (f i s).1) →
      Work s₀ (s.asCommand p (s.doorOrZone t f)).withOutputs.state := fun hf =>
    (h.asCommand p fun _ => h.doorOrZone t hf).outputs
  cases o with
  | close => exact doors fun i k => k.closeDoor p i
  | openDoor => exact doors fun i k => k.openDoor p i
  | stop => exact doors fun i k => k.stopDoor p i
  | service v => exact (h.orderService p t v).outputs
  | holdZones => exact (h.orderHoldZones p t).outputs
  | releaseZones => exact (h.orderReleaseZones p t).outputs
  | releaseForeign => exact (h.orderReleaseForeign p t).outputs
  | resetFaults => exact doors fun i k => k.resetDoor i
  | settingsHold v => exact h.orderSettingsHold p v
  | signalTest => exact h.asCommand p fun _ => h.doorOnly t fun i k => k.testDoor i
  | resetUnit => exact (h.orderResetUnit p t).outputs
  | ack => exact (h.orderAck p t).outputs
  | ackPort => exact (h.orderAckPort p t).outputs
  | ackUnit => exact (h.orderAckUnit p t).outputs
  | clockLoad day ms => exact h.orderClockLoad p day ms
  | clockAdjust delta => exact h.orderClockAdjust p delta
  | clockArm day ms => exact h.orderClockArm p day ms
  | clockDisarm => exact h.orderClockDisarm p
  | save => exact h.orderSave p
  | lock => exact h.orderLock p
  | restart => exact h.orderRestart p

end Sys2Proof.Machine
end

section
/-! SUPPORT. What a step can write, concluded: SETs, requests, events and the resets. `exec_leads` says once to what a
command other than POWER_ON can lead, and `step_leads` to what a step can lead. -/

namespace Sys2Proof.Machine

variable {s₀ s : State}

/-! ### Writes that are not ordinary work -/

/-- A write of a door by an installation SET: the fault sets keep their rule, no stroke begins, and a pair that an
installed door takes is one that no other installed door has (R6). -/
structure PlaceWrite (s : State) (i : DoorId) (e : Door) : Prop where
  faults : (s.door i).unacked &&& ~~~(s.door i).faults = 0 → e.unacked &&& ~~~e.faults = 0
  stroke : e.state.hasStroke = true → (s.door i).state.hasStroke = true
  pair : e.installed = true →
    (s.door i).installed = true ∧ e.branch = (s.door i).branch ∧ e.drop = (s.door i).drop ∨
      s.pairTaken i e.branch e.drop = false

/-- The writes that are not ordinary work, under command `c`. -/
inductive Special (c : Instr) (s : State) : State → Prop where
  | door (i : DoorId) (f : Door → Door) : s.store.lockOpen = true → PlaceWrite s i (f (s.door i)) →
      Special c s (s.modDoor i f)
  | unit (u : UnitId) (f : PowerUnit → PowerUnit) : s.store.lockOpen = true → Special c s (s.modUnit u f)
  | branch (b : BranchId) (f : Branch → Branch) : s.store.lockOpen = true →
      (∀ x, (f x).roundCounter = x.roundCounter ∧ (f x).sequence = x.sequence ∧ (f x).drops = x.drops) →
      Special c s (s.modBranch b f)
  | role (q : PortId) (r : Role) : s.store.lockOpen = true → (r = .monitor → s.holds.console[q] = 0) →
      Special c s (s.modPort q fun x => { x with role := r })
  | store (closed : Bool) (mask : FaultSet) : s.store.lockOpen = true →
      Special c s { s with store := { s.store with startClosed := closed, alarmMask := mask } }
  | enable (p : PortId) : Special c s (s.enableReports p)
  | disable (p : PortId) : Special c s (s.disableReports p)
  | line (m : ZoneSet) (a : Bool) : c = .closeAllChange a →
      Special c s ({ s with holds := { s.holds with line := m } }.touchIf (s.holds != { s.holds with line := m }))
  | cutoff : c = .driveCutoffActive → Special c s { s with cutoff := Input.settledAt true }.touchSummary

/-- Ordinary work, with at most one write among it that is not. -/
def Chain (c : Instr) (s t : State) : Prop := Work s t ∨ ∃ m n, Work s m ∧ Special c m n ∧ Work n t

variable {c : Instr}

theorem Chain.after {t u : State} (h : Chain c s t) (k : Work t u) : Chain c s u := by
  obtain w | ⟨m, n, w, x, w'⟩ := h
  · exact .inl (w.trans k)
  · exact .inr ⟨m, n, w, x, w'.trans k⟩

theorem Chain.before {t u : State} (h : Work s t) (k : Chain c t u) : Chain c s u := by
  obtain w | ⟨m, n, w, x, w'⟩ := k
  · exact .inl (h.trans w)
  · exact .inr ⟨m, n, h.trans w, x, w'⟩

theorem Chain.refl (s : State) : Chain c s s := .inl .start

theorem Special.chain {n t : State} (h : Special c s n) (k : Work n t) : Chain c s t := .inr ⟨s, n, .start, h, k⟩

/-! ### SETs -/

theorem Chain.asCommand {p : PortId} {k : Answer} (h : Chain c s k.state) : Chain c s (s.asCommand p k).state := by
  simp only [State.asCommand]; split
  · exact h
  · exact .refl s

theorem Chain.asUnlocked {k : Answer} (h : s.store.lockOpen = true → Chain c s k.state) :
    Chain c s (s.asUnlocked k).state := by
  simp only [State.asUnlocked]; split
  · next hl => exact h hl
  · exact .refl s

/-- R5: an installation SET writes behind the lock, and a legal value alone. -/
theorem chain_setInstallation (s : State) (p : PortId) (t : Target) (legal same : DoorId → Bool) (anyState : Bool)
    {write : DoorId → State → State}
    (hw : s.store.lockOpen = true → ∀ i, legal i = true → Chain c s (write i s)) :
    Chain c s (s.setInstallation p t legal same anyState write).state := by
  refine Chain.asCommand (Chain.asUnlocked fun hl => ?_)
  split
  · split
    · exact .refl s
    · split
      · exact .refl s
      · next ha =>
        split
        · exact .refl s
        · split
          · exact .refl s
          · exact hw hl _ (by simpa using ha)
  · exact .refl s

theorem Work.raiseBranchOff (h : Work s₀ s) (i : DoorId) : Work s₀ (s.raiseBranchOff i) := by
  simp only [State.raiseBranchOff]; split
  · exact h.raiseCondition i _
  · exact h

theorem chain_install (s : State) (i : DoorId) (hl : s.store.lockOpen = true)
    (hp : s.pairTaken i (s.door i).branch (s.door i).drop = false) : Chain c s (State.install i s) :=
  (Special.door i (fun d => { d with installed := true }) hl ⟨id, id, fun _ => .inr hp⟩).chain
    ((((Work.start.claimPair _ _).raiseBranchOff i).unsettle i).updateNotControlled i)

theorem chain_remove (s : State) (i : DoorId) (hl : s.store.lockOpen = true) : Chain c s (State.remove i s) := by
  have removed : Special c s (s.modDoor i Door.removed) :=
    .door i _ hl ⟨fun _ => by simp [Door.removed], fun h => by simp [Door.removed, DoorState.hasStroke] at h,
      fun h => by simp [Door.removed] at h⟩
  exact removed.chain ((Work.start.cycles i).releasePair _ _)

theorem Work.moved (h : Work s₀ s) (i : DoorId) (b : BranchId) (d : DropId) : Work s₀ (s.moved i b d) := by
  simp only [State.moved]
  exact (((((h.claimPair _ _).clearFault i _).clearFault i _).raiseBranchOff i).unsettle i).releasePair b d

/-- R10: a door's branch or drop is written: `f` writes no other field. -/
theorem chain_writePair (s : State) (i : DoorId) {f : Door → Door} (hl : s.store.lockOpen = true)
    (hi : (f (s.door i)).installed = (s.door i).installed)
    (hf : (f (s.door i)).faults = (s.door i).faults ∧ (f (s.door i)).unacked = (s.door i).unacked ∧
      (f (s.door i)).state = (s.door i).state)
    (hp : s.pairFree i (f (s.door i)).branch (f (s.door i)).drop = true) : Chain c s (s.writePair i f) := by
  obtain ⟨faults, unacked, state⟩ := hf
  have written : Special c s (s.modDoor i f) :=
    .door i f hl ⟨by rw [faults, unacked]; exact id, by rw [state]; exact id, fun h => .inr <| by
      rw [hi] at h; simpa [State.pairFree, h] using hp⟩
  simp only [State.writePair]; split
  · exact written.chain (Work.start.moved i _ _)
  · exact written.chain .start

/-- An installation SET that writes neither the installation of a door nor its pair. -/
theorem special_place (s : State) (i : DoorId) (f : Door → Door) (hl : s.store.lockOpen = true)
    (hf : ∀ d, (f d).installed = d.installed ∧ (f d).branch = d.branch ∧ (f d).drop = d.drop ∧
      (f d).faults = d.faults ∧ (f d).unacked = d.unacked ∧ (f d).state = d.state := by
      exact fun _ => ⟨rfl, rfl, rfl, rfl, rfl, rfl⟩) :
    Special c s (s.modDoor i f) := by
  obtain ⟨installed, branch, drop, faults, unacked, state⟩ := hf (s.door i)
  exact .door i f hl ⟨by rw [faults, unacked]; exact id, by rw [state]; exact id,
    fun h => .inl ⟨installed ▸ h, branch, drop⟩⟩

theorem chain_writeZone (s : State) (z : ZoneId) (i : DoorId) (hl : s.store.lockOpen = true) :
    Chain c s (State.writeZone z i s) := by
  have written : Special c s (s.modDoor i fun d => { d with zone := z }) := special_place s i _ hl
  simp only [State.writeZone]
  split
  · split
    · exact written.chain ((Work.start.doorBecomesHeld i).updateNotControlled i)
    · exact written.chain (Work.start.updateNotControlled i)
  · exact written.chain .start

theorem chain_writeGeometry (s : State) (a o : Nat) (i : DoorId) (hl : s.store.lockOpen = true) :
    Chain c s (State.writeGeometry a o i s) := by
  have written : Special c s (s.modDoor i fun d => { d with closedCount := a, openCount := o }) :=
    special_place s i _ hl
  simp only [State.writeGeometry]
  split
  · exact written.chain (Work.start.unsettle i)
  · exact written.chain .start

/-- The SET of an installation number that names no part is refused, and writes nothing. -/
theorem chain_illegalInstallation (s : State) (p : PortId) (t : Target) :
    Chain c s (s.setInstallation p t (fun _ => false) (fun _ => false) false fun _ s => s).state :=
  chain_setInstallation s p t _ _ _ fun _ _ _ => .refl s

theorem chain_setInstalled (s : State) (p : PortId) (t : Target) (v : Nat) :
    Chain c s (s.setInstalled p t v).state := by
  refine chain_setInstallation s p t _ _ _ fun hl i ha => ?_
  split
  · next e => subst e; exact chain_install s i hl (by simpa using ha)
  · exact chain_remove s i hl

theorem chain_setBranch (s : State) (p : PortId) (t : Target) (v : Nat) : Chain c s (s.setBranch p t v).state := by
  simp only [State.setBranch]; split
  · exact chain_setInstallation s p t _ _ _ fun hl i ha => chain_writePair s i hl rfl ⟨rfl, rfl, rfl⟩ ha
  · exact chain_illegalInstallation s p t

theorem chain_setDrop (s : State) (p : PortId) (t : Target) (v : Nat) : Chain c s (s.setDrop p t v).state := by
  simp only [State.setDrop]; split
  · exact chain_setInstallation s p t _ _ _ fun hl i ha => chain_writePair s i hl rfl ⟨rfl, rfl, rfl⟩ ha
  · exact chain_illegalInstallation s p t

theorem chain_setZone (s : State) (p : PortId) (t : Target) (v : Nat) : Chain c s (s.setZone p t v).state := by
  simp only [State.setZone]; split
  · exact chain_setInstallation s p t _ _ _ fun hl i _ => chain_writeZone s _ i hl
  · exact chain_illegalInstallation s p t

theorem chain_setUnit (s : State) (p : PortId) (t : Target) (v : Nat) : Chain c s (s.setUnit p t v).state := by
  simp only [State.setUnit]; split
  · exact chain_setInstallation s p t _ _ _ fun hl i _ => (special_place s i _ hl).chain .start
  · exact chain_illegalInstallation s p t

theorem chain_setLabel (s : State) (p : PortId) (t : Target) (text : List Byte) :
    Chain c s (s.setLabel p t text).state :=
  chain_setInstallation s p t _ _ _ fun hl i _ => (special_place s i _ hl).chain .start

theorem chain_setUnitSetting (s : State) (p : PortId) (t : Target) (legal stoppedOnly : Bool)
    (write : PowerUnit → PowerUnit) : Chain c s (s.setUnitSetting p t legal stoppedOnly write).state := by
  refine Chain.asCommand (Chain.asUnlocked fun hl => ?_)
  split
  · split
    · exact .refl s
    · split
      · exact .refl s
      · split
        · exact .refl s
        · exact (Special.unit _ write hl).chain .start
  · exact .refl s

theorem chain_setBranchSetting (s : State) (p : PortId) (t : Target) (legal : Bool) {write : BranchId → State}
    (hw : s.store.lockOpen = true → ∀ b, Chain c s (write b)) :
    Chain c s (s.setBranchSetting p t legal write).state := by
  refine Chain.asCommand (Chain.asUnlocked fun hl => ?_)
  split
  · split
    · exact .refl s
    · split
      · exact hw hl _
      · exact .refl s
  · exact .refl s

theorem chain_modBranch (s : State) (b : BranchId) (f : Branch → Branch) (hl : s.store.lockOpen = true)
    (hf : ∀ x, (f x).roundCounter = x.roundCounter ∧ (f x).sequence = x.sequence ∧ (f x).drops = x.drops := by
      exact fun _ => ⟨rfl, rfl, rfl⟩) : Chain c s (s.modBranch b f) :=
  (Special.branch b f hl hf).chain .start

theorem Work.doorBranchOff (h : Work s₀ s) (i : DoorId) : Work s₀ (State.doorBranchOff i s) :=
  ((h.clearFault i _).raiseCondition i _).unsettle i

/-- R147: the round of a branch that is disabled stops, its pairs fresh. -/
theorem Work.roundStopped (h : Work s₀ s) (b : BranchId) :
    Work s₀ (s.modBranch b fun x =>
      { x with members := [], roundTimer := none, roundCounter := 0, drops := Vector.replicate 12 DropLink.fresh }) :=
  h.branch b _ ⟨rfl, fun _ => Nat.zero_le _, id, fun _ => missCount_fresh⟩

theorem chain_disableBranch (s : State) (b : BranchId) (hl : s.store.lockOpen = true) :
    Chain c s (s.disableBranch b) := by
  have disabled : Special c s (s.modBranch b fun x => { x with enable := false }) :=
    .branch b _ hl fun _ => ⟨rfl, rfl, rfl⟩
  refine disabled.chain ?_
  exact (((Work.start.breakExchange b _).roundStopped b).answerDirect b _ _).forDoors _ fun i k => k.doorBranchOff i

theorem chain_enableBranch (s : State) (b : BranchId) (hl : s.store.lockOpen = true) :
    Chain c s (s.enableBranch b) := by
  have enabled : Special c s (s.modBranch b fun x => { x with enable := true }) :=
    .branch b _ hl fun _ => ⟨rfl, rfl, rfl⟩
  exact enabled.chain ((Work.start.forDoors _ fun i k => k.clearFault i _).startRound b)

theorem chain_setEnable (s : State) (p : PortId) (t : Target) (v : Nat) : Chain c s (s.setEnable p t v).state := by
  refine chain_setBranchSetting s p t _ fun hl b => ?_
  split
  · exact chain_disableBranch s b hl
  · exact chain_enableBranch s b hl
  · exact .refl s

theorem chain_setRole (s : State) (p : PortId) (t : Target) (v : Nat) : Chain c s (s.setRole p t v).state := by
  refine Chain.asCommand (Chain.asUnlocked fun hl => ?_)
  split
  · split
    · next q r _ _ =>
      split
      · exact .refl s
      · next e =>
        refine (Special.role q r hl fun hr => ?_).chain .start
        simpa [hr] using e
    · exact .refl s
  · exact .refl s

theorem Work.setOwn (h : Work s₀ s) (p : PortId) (t : Target) (low high v : Nat) {write : Nat → Port → Port}
    (hw : ∀ v q, PortWrite q (write v q)) : Work s₀ (s.setOwn p t low high v write).state := by
  refine h.asCommand p fun _ => ?_
  split
  · split
    · exact h.port p _ (hw _ _)
    · exact h
  · exact h

theorem chain_setReportsEnabled (s : State) (p : PortId) (t : Target) (v : Nat) :
    Chain c s (s.setReportsEnabled p t v).state := by
  simp only [State.setReportsEnabled]
  split
  · split
    · split
      · exact (Special.disable p).chain .start
      · exact (Special.enable p).chain .start
      all_goals exact .refl s
    · exact .refl s
  · exact .refl s

theorem chain_setStartClosed (s : State) (p : PortId) (t : Target) (v : Nat) :
    Chain c s (s.setStartClosed p t v).state := by
  refine Chain.asCommand (Chain.asUnlocked fun hl => ?_)
  split
  · split
    · exact (Special.store (decide (v = 1)) s.store.alarmMask hl).chain .start
    · exact .refl s
  · exact .refl s

theorem chain_setAlarmMask (s : State) (p : PortId) (t : Target) (m : BitVec 16) :
    Chain c s (s.setAlarmMask p t m).state := by
  refine Chain.asCommand (Chain.asUnlocked fun hl => ?_)
  split
  · split
    · exact (Special.store s.store.startClosed (m.setWidth 12) hl).chain .start
    · exact .refl s
  · exact .refl s

theorem Work.setIdentity (h : Work s₀ s) (p : PortId) (t : Target) (text : List Byte) :
    Work s₀ (s.setIdentity p t text).state := by
  refine h.asCommand p fun _ => ?_
  split
  · exact h
  · split
    · split
      · exact h.plainStore { s.store with identity := text } (storeWrite_plain id rfl rfl rfl rfl) rfl
      · exact h
    · exact h

theorem Work.setTrim (h : Work s₀ s) (p : PortId) (t : Target) (interval : Nat) (direction : Byte) :
    Work s₀ (s.setTrim p t interval direction).state := by
  refine h.asCommand p fun _ => ?_
  split
  · split
    · next forward _ =>
      split
      · exact h.clock (fun c => { c with
            trimInterval := interval, trimForward := forward
            trimTimer := if interval = 0 then none else some (s.runCount + interval * 1000) }) id
      · exact h
    · exact h
  · exact h

theorem Work.setOp (h : Work s₀ s) (p : PortId) (k : OpSetting) (v : Nat) (t : Target) :
    Work s₀ (s.setOp p k v t).state := by
  have staged : ∀ l, Work s₀ (s.forDoors l (State.stage k (OpSetting.clamped k v))) := fun l =>
    h.forDoors l fun i w => w.stage k _ i
  refine h.asCommand p fun _ => ?_
  split
  · exact h.doorOrder _ fun i w => w.stage k _ i
  · split
    · simp only [State.stageZone]; split
      · exact h
      · exact staged _
    · exact h
  · exact staged _
  · exact h

/-- R161: a SET is ordinary work, or holds one write that is not. -/
theorem chain_setting (s : State) (p : PortId) (t : Target) (w : SettingWrite) :
    Chain c s (s.setting p t w).state := by
  cases w with
  | op k v => exact .inl (Work.start.setOp p k v t)
  | installed v => exact chain_setInstalled s p t v
  | branch v => exact chain_setBranch s p t v
  | drop v => exact chain_setDrop s p t v
  | zone v => exact chain_setZone s p t v
  | unit v => exact chain_setUnit s p t v
  | geometry a o => exact chain_setInstallation s p t _ _ _ fun hl i _ => chain_writeGeometry s a o i hl
  | label text => exact chain_setLabel s p t text
  | slotLimit v => exact chain_setUnitSetting s p t _ _ _
  | startTime v => exact chain_setUnitSetting s p t _ _ _
  | holdoff v => exact chain_setUnitSetting s p t _ _ _
  | ageTime v => exact chain_setUnitSetting s p t _ _ _
  | urgentCount v => exact chain_setUnitSetting s p t _ _ _
  | enable v => exact chain_setEnable s p t v
  | roundPeriod v => exact chain_setBranchSetting s p t _ fun hl b => chain_modBranch s b _ hl
  | replyTimeout v => exact chain_setBranchSetting s p t _ fun hl b => chain_modBranch s b _ hl
  | lostThreshold v => exact chain_setBranchSetting s p t _ fun hl b => chain_modBranch s b _ hl
  | portRole v => exact chain_setRole s p t v
  | silenceTime v => exact .inl (Work.start.setOwn p t _ _ _ fun _ _ => ⟨rfl, rfl, rfl, rfl, id⟩)
  | reportsEnabled v => exact chain_setReportsEnabled s p t v
  | reportSpacing v => exact .inl (Work.start.setOwn p t _ _ _ fun _ _ => ⟨rfl, rfl, rfl, rfl, id⟩)
  | refreshPeriod v => exact .inl (Work.start.setOwn p t _ _ _ fun _ _ => ⟨rfl, rfl, rfl, rfl, id⟩)
  | startClosed v => exact chain_setStartClosed s p t v
  | faultAlarmMask m => exact chain_setAlarmMask s p t m
  | vesselIdentity text => exact .inl (Work.start.setIdentity p t text)
  | clockTrim i d => exact .inl (Work.start.setTrim p t i d)

/-! ### Requests -/

theorem portWrite_concluded (q : Port) (r : Request) (carries : Bool) : PortWrite q (q.concluded r carries) :=
  ⟨rfl, rfl, rfl, rfl, id⟩

theorem Work.endItem (h : Work s₀ s) (p : PortId) (e : List Byte) : Work s₀ (s.endItem p e) :=
  h.port p _ (portWrite_itemEnded _ e)

theorem Work.await (h : Work s₀ s) (p : PortId) (w : Wait) : Work s₀ (s.await p w) :=
  h.port p _ ⟨rfl, rfl, rfl, rfl, id⟩

/-- A request that ends, if there is one, by `f`. -/
theorem portWrite_getD (q : Port) {f : Request → Port} (hf : ∀ r, PortWrite q (f r)) :
    PortWrite q ((q.request.map f).getD q) := by
  cases q.request with
  | none => exact .refl q
  | some r => exact hf r

theorem Work.finish (h : Work s₀ s) (p : PortId) : Work s₀ (s.finish p) :=
  h.port p _ (portWrite_getD _ fun _ => portWrite_concluded _ _ _)

theorem Work.finishWith (h : Work s₀ s) (p : PortId) (e : List Byte) (carries : Bool) :
    Work s₀ (s.finishWith p e carries) :=
  h.port p _ (portWrite_getD _ fun _ => portWrite_concluded _ _ _)

theorem Work.executeRestart (h : Work s₀ s) (p : PortId) : Work s₀ (s.executeRestart p) := by
  simp only [State.executeRestart]; split
  · exact (h.orderRestart p).finishWith p _ _
  · exact (h.orderRestart p).endItem p _

theorem Work.executeDirect (h : Work s₀ s) (p : PortId) (b d k : Nat) : Work s₀ (s.executeDirect p b d k) := by
  simp only [State.executeDirect]; split
  · exact h.endItem p _
  · exact (h.plainBranch _).await p _

theorem chain_executeItem (s : State) (p : PortId) (it : Item) : Chain c s (s.executeItem p it) := by
  simp only [State.executeItem]
  split
  case h_1 o a => exact .inl ((Work.start.freeCount (s.freeCount + 64)).endItem p _)
  case h_2 => exact .inl (Work.start.executeRestart p)
  case h_3 o t _ => exact .inl ((Work.start.ordering p t o).endItem p _)
  case h_4 w t => exact (chain_setting s p t w).after (Work.start.outputs.endItem p _)
  case h_5 => exact .inl (Work.start.endItem p _)
  case h_6 => exact .inl (Work.start.await p _)
  case h_7 b d k => exact .inl (Work.start.executeDirect p b d k)
  case h_8 => exact .refl s

theorem chain_takeItem (s : State) (p : PortId) (r : Request) : Chain c s (s.takeItem p r) := by
  simp only [State.takeItem]
  split
  · exact .inl (Work.start.finish p)
  · split
    · exact .inl (Work.start.finish p)
    · split
      · exact .inl (Work.start.finishWith p _ _)
      · exact chain_executeItem s p _

theorem chain_goOn (s : State) (p : PortId) : Chain c s (s.goOn p) := by
  simp only [State.goOn]
  split
  · split
    · exact chain_takeItem s p _
    · exact .refl s
  · exact .refl s

theorem chain_takeRequest (s : State) (p : PortId) (g : GoodRequest) : Chain c s (s.takeRequest p g) := by
  simp only [State.takeRequest]; split
  · exact .inl (Work.start.port p _ ⟨rfl, rfl, rfl, rfl, id⟩)
  · exact (chain_goOn _ p).before (Work.start.port p _ ⟨rfl, rfl, rfl, rfl, id⟩)

theorem chain_consoleFrame (s : State) (p : PortId) (l : List Byte) : Chain c s (s.consoleFrame p l) := by
  have judged : Work s (s.modPort p fun q => { q with collecting := false }) :=
    Work.start.port p _ ⟨rfl, rfl, rfl, rfl, id⟩
  simp only [State.consoleFrame]
  split
  · exact .inl judged
  · split
    · exact .inl judged
    · exact (chain_takeRequest _ p _).before judged

/-! ### Events -/

theorem Work.delayExpired (h : Work s₀ s) (p : PortId) : Work s₀ (s.delayExpired p) := by
  simp only [State.delayExpired]
  split
  · split
    · split
      · exact h.endItem p _
      · exact h
    · exact h
  · exact h

theorem Work.responseSend (h : Work s₀ s) (p : PortId) : Work s₀ (s.responseSend p) := by
  refine h.port p _ ?_
  split
  · exact ⟨rfl, rfl, rfl, rfl, id⟩
  · exact .refl _

theorem Work.reportSent (h : Work s₀ s) (p : PortId) : Work s₀ (s.reportSent p) := by
  refine h.port p _ ?_
  split
  · exact ⟨rfl, rfl, rfl, rfl, id⟩
  · exact .refl _

theorem Work.silenceExpired (h : Work s₀ s) (p : PortId) : Work s₀ (s.silenceExpired p) := by
  simp only [State.silenceExpired]; split
  · exact h.port p _ ⟨rfl, rfl, rfl, rfl, id⟩
  · exact h

theorem Work.refreshDue (h : Work s₀ s) (p : PortId) : Work s₀ (s.refreshDue p) := by
  simp only [State.refreshDue]; split
  · exact h.port p _ ⟨rfl, rfl, rfl, rfl, id⟩
  · exact h

theorem Work.receiving (h : Work s₀ s) (p : PortId) (collecting : Bool) : Work s₀ (s.receiving p collecting) :=
  h.port p _ ⟨rfl, rfl, rfl, rfl, id⟩

theorem Work.reversed (h : Work s₀ s) (i : DoorId) : Work s₀ (s.reversed i) := by
  simp only [State.reversed]
  split
  · next e =>
    split
    · exact h
    · exact h.setState i fun _ => .inl (by rw [e]; rfl)
  · exact h

theorem Work.leadInExpired (h : Work s₀ s) (i : DoorId) : Work s₀ (s.leadInExpired i) := by
  simp only [State.leadInExpired]
  split
  · split
    · exact h.request i _
    · exact h
  · exact h

theorem Work.recloseExpired (h : Work s₀ s) (i : DoorId) : Work s₀ (s.recloseExpired i) := by
  simp only [State.recloseExpired]; split
  · exact (h.enterWarning i _).setSource i _
  · exact h

theorem Work.tailExpired (h : Work s₀ s) (i : DoorId) : Work s₀ (s.tailExpired i) := by
  simp only [State.tailExpired]; split
  · exact h.plainDoor i
  · exact h

theorem Work.testExpired (h : Work s₀ s) (i : DoorId) : Work s₀ (s.testExpired i) := by
  simp only [State.testExpired]; split
  · exact h.plainDoor i
  · exact h

/-- R135: once the cutoff is active, the cutting of the doors is ordinary work. -/
theorem chain_cutoffActive (s : State) : Chain .driveCutoffActive s s.cutoffActive := by
  have cuts : ∀ (t : State) l, Work t (t.forDoors l fun i t => t.cut i .cutOff) := fun t l =>
    Work.start.forDoors l fun i k => k.cut i _
  simp only [State.cutoffActive]; split
  · exact .refl s
  · exact (Special.cutoff rfl).chain (cuts _ _)

theorem chain_closeAllChanged (s : State) (a b : Bool) : Chain (.closeAllChange b) s (s.closeAllChanged a) := by
  simp only [State.closeAllChanged]; split
  · exact .refl s
  · exact .inr ⟨_, _, Work.start.closeAll a, .line _ b rfl, Work.setHolds .start⟩

/-! ### The resets -/

theorem Work.endMotion (h : Work s₀ s) (i : DoorId) : Work s₀ (s.endMotion i) := by
  simp only [State.endMotion]
  exact (h.driveOffNow i).plainDoor i

theorem Work.restartBranch (h : Work s₀ s) (b : BranchId) : Work s₀ (s.restartBranch b) :=
  (h.breakExchange b _).branch b _ ⟨rfl, fun _ => Nat.zero_le _, id, fun _ => missCount_fresh⟩

theorem Work.restartDoor (h : Work s₀ s) (i : DoorId) : Work s₀ (s.restartDoor i) := by
  simp only [State.restartDoor]
  exact ((h.plainDoor i (f := Door.unsettled)).enterRest i rfl).door i _ ⟨rfl, unacked_and_within _, .inl⟩

theorem Work.restartWork (h : Work s₀ s) : Work s₀ s.restartWork := by
  simp only [State.restartWork]
  exact Work.forEach branchIds (fun b k => k.restartBranch b)
    (Work.forEach unitIds (fun u k => k.unit u PowerUnit.restarted) (h.forDoors _ fun i k => k.endMotion i))

theorem Work.raiseBranchFaults (h : Work s₀ s) : Work s₀ s.raiseBranchFaults :=
  h.forDoors _ fun i k => k.raiseBranchOff i

theorem Work.restartDoors (h : Work s₀ s) : Work s₀ s.restartDoors :=
  ((h.forDoors _ fun i k => k.restartDoor i).raiseBranchFaults).forDoors _ fun i k => k.updateNotControlled i

theorem Work.startRounds (h : Work s₀ s) : Work s₀ s.startRounds := by
  refine Work.forEach branchIds (fun b k => ?_) h
  split
  · exact k.startRound b
  · exact k

theorem Work.restartTaken (h : Work s₀ s) :
    Work s₀ { s with store := { s.store with restartPending := none } } :=
  h.plainStore _ (storeWrite_plain id rfl rfl rfl rfl) rfl

/-! ### Commands and steps -/

/-- To what a command can lead: ordinary work with at most one write that is not; a warm restart, which rewrites the
report states between two runs of work; the sending of a report; or the loss of supply. -/
inductive Leads (c : Instr) (s t : State) : Prop where
  | chain : Chain c s t → Leads c s t
  | restart (m : State) : s.store.restartPending ≠ none → Work s m →
      Work (m.mapPorts fun _ q => q.restarted m.installedDoors m.runCount) t → t.store.restartPending = none → Leads c s t
  | report (p : PortId) : t = s.beginReport p → Leads c s t
  | supplyLost : t = s.supplyLost → Leads c s t

theorem Work.leads {t : State} (h : Work s t) : Leads c s t := .chain (.inl h)

theorem leads_responseSentNow (s : State) (p : PortId) : Leads c s (s.responseSentNow p) := by
  simp only [State.responseSentNow]
  split
  · next r _ =>
    have sent : Work s (s.modPort p fun q => q.responseSent r s.runCount) :=
      Work.start.port p _ ⟨rfl, rfl, rfl, rfl, id⟩
    split
    · next hr =>
      refine .restart _ ?_ (Work.restartDoors (Work.restartWork sent)) ?_ (by rw [State.warmRestart])
      · simpa [Option.isSome_iff_ne_none] using (Bool.and_eq_true_iff.mp hr).2
      · simp only [State.warmRestart]
        exact Work.start.outputs.startRounds.restartTaken
    · exact sent.leads
  · exact Work.start.leads

theorem leads_reportSend (s : State) (p : PortId) : Leads c s (s.reportSend p) := by
  simp only [State.reportSend]; split
  · exact .report p rfl
  · exact Work.start.leads

/-- Assumption 5: a command leads to what it does at a D48 with supply, or changes nothing. -/
theorem leads_live {t : State} (f : State → State) (h : s.live f = .next t) (hf : Leads c s (f s)) : Leads c s t := by
  obtain rfl | rfl := live_cases h
  · exact hf
  · exact Work.start.leads

/-- To what every command but POWER_ON leads. -/
theorem exec_leads {t : State} (ho : ∀ k a o l y, c ≠ .powerOn k a o l y) (h : exec c s = .next t) : Leads c s t := by
  cases hi : c.item with
  | some x =>
    rw [exec_item (p := x.1) (it := x.2) hi] at h
    exact leads_live _ h (.chain (chain_takeRequest s x.1 _))
  | none =>
    cases c with
    | powerOn k a o l y => exact absurd rfl (ho k a o l y)
    | consoleFrame p l => exact leads_live (fun s => s.consoleFrame p l) h (.chain (chain_consoleFrame s p l))
    | consoleReceiveTimeout p => exact leads_live (fun s => s.receiving p false) h (Work.start.receiving p _).leads
    | responseSend p => exact leads_live (fun s => s.responseSend p) h (Work.start.responseSend p).leads
    | responseSent p => exact leads_live (fun s => s.responseSentNow p) h (leads_responseSentNow s p)
    | reportSend p => exact leads_live (fun s => s.reportSend p) h (leads_reportSend s p)
    | reportSent p => exact leads_live (fun s => s.reportSent p) h (Work.start.reportSent p).leads
    | silenceTimeout p =>
      exact leads_live (fun s => (s.silenceExpired p).evalOutputs) h (Work.start.silenceExpired p).outputs.leads
    | refreshDue p => exact leads_live (fun s => s.refreshDue p) h (Work.start.refreshDue p).leads
    | delayExpiry p => exact leads_live (fun s => s.delayExpired p) h (Work.start.delayExpired p).leads
    | roundTimerExpiry b => exact leads_live (fun s => s.nextRoundIfDue b) h (Work.start.nextRoundIfDue b).leads
    | stationReplyFrame b l =>
      exact leads_live (fun s => (s.stationFrame b l).evalOutputs) h (Work.start.stationFrame b l).outputs.leads
    | replyDeadline b =>
      exact leads_live (fun s => (s.deadlinePassed b).evalOutputs) h (Work.start.deadlinePassed b).outputs.leads
    | branchReceiveTimeout b => exact leads_live (fun s => s.listening b false) h (Work.start.listening b _).leads
    | reversalInstant d => exact leads_live (fun s => s.reversed d) h (Work.start.reversed d).leads
    | leadInExpiry d =>
      exact leads_live (fun s => (s.leadInExpired d).evalOutputs) h (Work.start.leadInExpired d).outputs.leads
    | recloseTimerExpiry d => exact leads_live (fun s => s.recloseExpired d) h (Work.start.recloseExpired d).leads
    | tailExpiry d => exact leads_live (fun s => s.tailExpired d) h (Work.start.tailExpired d).leads
    | signalTestExpiry d => exact leads_live (fun s => s.testExpired d) h (Work.start.testExpired d).leads
    | ageTimerExpiry u => exact leads_live (fun s => s.ageExpired u) h (Work.start.ageExpired u).leads
    | startTimerExpiry u =>
      exact leads_live (fun s => (s.startExpired u).evalOutputs) h (Work.start.startExpired u).outputs.leads
    | holdoffTimerExpiry u => exact leads_live (fun s => s.holdoffExpired u) h (Work.start.holdoffExpired u).leads
    | pressLowChange u a =>
      exact leads_live (fun s => (s.pressureChanged u a).evalOutputs) h (Work.start.pressureChanged u a).outputs.leads
    | driveCutoffActive =>
      exact leads_live (fun s => s.cutoffActive.evalOutputs) h
        (.chain ((chain_cutoffActive s).after Work.start.outputs))
    | driveCutoffRelease => exact leads_live State.cutoffReleased h Work.start.cutoffRelease.leads
    | closeAllChange a =>
      exact leads_live (fun s => (s.closeAllChanged a).evalOutputs) h
        (.chain ((chain_closeAllChanged s a a).after Work.start.outputs))
    | syncInEdge => exact leads_live State.syncEdge h Work.start.syncEdge.leads
    | trimStep => exact leads_live State.trimExpired h Work.start.trimExpired.leads
    | saveCompletion =>
      exact leads_live (fun s => s.saveCompleted.evalOutputs) h Work.start.saveCompleted.outputs.leads
    | consoleStartByte p => exact leads_live (fun s => s.receiving p true) h (Work.start.receiving p _).leads
    | consoleLengthOver256 p => exact leads_live (fun s => s.receiving p false) h (Work.start.receiving p _).leads
    | branchStartByte b => exact leads_live (fun s => s.listening b true) h (Work.start.listening b _).leads
    | branchDataLengthOver8 b => exact leads_live (fun s => s.listening b false) h (Work.start.listening b _).leads
    | lossOfSupply => exact leads_live State.supplyLost h (.supplyLost rfl)
    | _ => cases hi

/-- R184: to what a power-on leads: work from every block's power-on values. -/
theorem exec_powerOn_work {t : State} {k a o : Bool} {l : BitVec 4} {y : Bool}
    (h : exec (.powerOn k a o l y) s = .next t) :
    ∃ x, (x = s ∨ x = s.supplyLost) ∧ ∃ m : Image, m = x.store.image.getD Image.defaults ∧
      Work (x.built m { key := k, closeAll := a, cutoff := o, pressLow := l, sync := y }) t := by
  obtain rfl : (if s.powered then s.supplyLost else s).powerOn
    { key := k, closeAll := a, cutoff := o, pressLow := l, sync := y } = t := Host.Outcome.next.inj h
  refine ⟨_, ?_, _, rfl, Work.start.raiseBranchFaults.outputs.startRounds⟩
  split
  · exact .inr rfl
  · exact .inl rfl

/-- To what a step leads: a command is taken; or, with none waiting, an item of a request is taken, an event queued, or
a millisecond passes. -/
theorem step_leads {t : State} (h : step s = .next t) :
    (∃ c rest, s.pending = c :: rest ∧ exec c { s with pending := rest } = .next t) ∨
      s.pending = [] ∧ ((∃ x : State, x = { s with schedule := x.schedule } ∧ ∀ c, Chain c x t) ∨
        t = { s with schedule := t.schedule, pending := t.pending } ∨ t = s.tick) := by
  simp only [step] at h
  split at h
  · next c rest e => exact .inl ⟨c, rest, e, h⟩
  · next e =>
    obtain rfl := Host.Outcome.next.inj h
    refine .inr ⟨e, ?_⟩
    simp only [State.idle]
    split
    · split
      · next c _ =>
        cases c with
        | item p => exact .inl ⟨{ s with schedule := s.schedule.tail }, rfl, fun c => chain_goOn _ p⟩
        | event c => exact .inr (.inl rfl)
      · exact .inr (.inr rfl)
    · exact .inr (.inl rfl)

end Sys2Proof.Machine
end

section
/-! SUPPORT. The invariants that every step keeps by its single writes (`Work`): the rule of the fault sets, the ranges of
the clock and of the branches, the distinct pairs, the drive cutoff, the lock and what it guards, and the holders. -/

namespace Sys2Proof.Machine

/-! ### The induction over a step -/

/-- What the writes of a command must keep, for every command of `C` to keep it. -/
structure KeptByWrites (C : Instr → Prop) (P : State → Prop) : Prop where
  queues : ∀ {s : State} (l : List Nat) (k : List Instr), P s → P { s with schedule := l, pending := k }
  work : ∀ {s t : State}, Work s t → P s → P t
  special : ∀ {c : Instr} {s t : State}, C c → Special c s t → P s → P t
  ports : ∀ {s : State}, P s → P (s.mapPorts fun _ q => q.restarted s.installedDoors s.runCount)
  report : ∀ {s : State} (p : PortId), P s → P (s.beginReport p)
  supplyLost : ∀ {s : State}, P s → P s.supplyLost
  powerOn : ∀ {s : State} {k a o : Bool} {l : BitVec 4} {y : Bool}, C (.powerOn k a o l y) → P s →
    P (s.built (s.store.image.getD Image.defaults)
      { key := k, closeAll := a, cutoff := o, pressLow := l, sync := y })

variable {C : Instr → Prop} {P : State → Prop}

theorem KeptByWrites.chainKeeps (k : KeptByWrites C P) {c : Instr} (hc : C c) {s t : State} (h : Chain c s t) (hs : P s) :
    P t := by
  obtain w | ⟨m, n, w, x, w'⟩ := h
  · exact k.work w hs
  · exact k.work w' (k.special hc x (k.work w hs))

theorem KeptByWrites.execKeeps (k : KeptByWrites C P) {c : Instr} (hc : C c) {s t : State} (h : exec c s = .next t)
    (hs : P s) : P t := by
  by_cases hp : ∃ a b d l y, c = .powerOn a b d l y
  · obtain ⟨a, b, d, l, y, rfl⟩ := hp
    obtain ⟨x, hx, m, rfl, w⟩ := exec_powerOn_work h
    refine k.work w (k.powerOn hc ?_)
    obtain rfl | rfl := hx
    · exact hs
    · exact k.supplyLost hs
  · cases exec_leads (fun a b d l y e => hp ⟨a, b, d, l, y, e⟩) h with
    | chain x => exact k.chainKeeps hc x hs
    | restart m _ w w' _ => exact k.work w' (k.ports (k.work w hs))
    | report p e => exact e ▸ k.report p hs
    | supplyLost e => exact e ▸ k.supplyLost hs

/-- What every write keeps, and a millisecond, every step keeps that takes a command of `C`, or none. An item of a
request, which no command names, is taken as under a loss of supply. -/
theorem KeptByWrites.stepKeeps (k : KeptByWrites C P) (hc : C .lossOfSupply) {s t : State}
    (hp : ∀ c rest, s.pending = c :: rest → C c) (ht : P s → P s.tick) (h : step s = .next t) (hs : P s) : P t := by
  obtain ⟨c, rest, e, h⟩ | ⟨_, ⟨x, hx, w⟩ | e | e⟩ := step_leads h
  · exact k.execKeeps (hp c rest e) h (k.queues _ _ hs)
  · refine k.chainKeeps hc (w .lossOfSupply) ?_
    rw [hx]; exact k.queues _ _ hs
  · rw [e]; exact k.queues _ _ hs
  · exact e ▸ ht hs

/-- Every command. -/
def AnyCommand (_ : Instr) : Prop := True

theorem KeptByWrites.everyStep (k : KeptByWrites AnyCommand P) {s t : State} (ht : P s → P s.tick)
    (h : step s = .next t) (hs : P s) : P t := k.stepKeeps trivial (fun _ _ _ => trivial) ht h hs

/-! ### Doors and branches after a power-on -/

theorem getElem_foldl_set {α : Type} (g : DoorId → α) (j : DoorId) (l : List DoorId) :
    ∀ v : Vector α 48, (l.foldl (fun v (i : DoorId) => v.set i (g i)) v)[j] = if j ∈ l then g j else v[j] := by
  induction l with
  | nil => intro v; simp
  | cons i l ih =>
    intro v
    rw [List.foldl_cons, ih]
    by_cases hj : j ∈ l
    · simp [hj]
    · by_cases e : j = i
      · subst e; simp [hj]
      · have : i.val ≠ j.val := fun c => e (Fin.ext c.symm)
        simp [hj, e, this]

@[simp] theorem mem_doorIds (j : DoorId) : j ∈ doorIds := List.mem_finRange j

theorem State.door_built (s : State) (m : Image) (l : Lines) (j : DoorId) :
    (s.built m l).door j = Door.powerOn m.doors[j] := by
  simp only [State.door, State.built]
  rw [getElem_foldl_set (fun i => Door.powerOn m.doors[i])]
  simp

theorem State.branch_built (s : State) (m : Image) (l : Lines) (b : BranchId) :
    (s.built m l).branch b = Branch.powerOn m.branches[b] := by
  match b with
  | 0 => rfl
  | 1 => rfl
  | 2 => rfl
  | 3 => rfl

theorem State.unit_built (s : State) (m : Image) (l : Lines) (u : UnitId) :
    (s.built m l).unit u = PowerUnit.powerOn m.units[u] (l.pressLow.getLsbD u) := by
  match u with
  | 0 => rfl
  | 1 => rfl
  | 2 => rfl
  | 3 => rfl

theorem State.port_built (s : State) (m : Image) (l : Lines) (p : PortId) :
    (s.built m l).port p = Port.powerOn m.roles[p] := by
  match p with
  | 0 => rfl
  | 1 => rfl
  | 2 => rfl

/-! ### The fault sets -/

theorem Work.faultsLawful {s t : State} (w : Work s t) (h : s.FaultsLawful) : t.FaultsLawful := by
  induction w with
  | start => exact h
  | door i f _ x ih =>
    intro j
    rw [State.door_modDoor]; split
    · exact x.faults (ih i)
    · exact ih j
  | _ => rename_i ih; simpa [State.FaultsLawful, State.door, State.leaveCycles] using ih

theorem keptFaultsLawful : KeptByWrites AnyCommand State.FaultsLawful where
  queues _ _ h := h
  work w h := w.faultsLawful h
  special _ x h := by
    cases x with
    | door i f _ w =>
      intro j
      rw [State.door_modDoor]; split
      · exact w.faults (h i)
      · exact h j
    | _ => simpa [State.FaultsLawful, State.door, State.enableReports, State.disableReports] using h
  ports h := h
  report p h := by simpa [State.FaultsLawful, State.door, State.beginReport] using h
  supplyLost h := h
  powerOn _ _ j := by simp [State.door_built, Door.powerOn]

/-! ### The clock -/

theorem Work.clockLawful {s t : State} (w : Work s t) (h : s.ClockLawful) : t.ClockLawful := by
  induction w with
  | start => exact h
  | clock f _ x ih => exact x ih
  | _ => rename_i ih; simpa [State.ClockLawful, State.leaveCycles] using ih

theorem keptClockLawful : KeptByWrites AnyCommand State.ClockLawful where
  queues _ _ h := h
  work w h := w.clockLawful h
  special _ x h := by
    cases x <;> simpa [State.ClockLawful, State.enableReports, State.disableReports] using h
  ports h := h
  report p h := by simpa [State.ClockLawful, State.beginReport] using h
  supplyLost h := h
  powerOn _ _ := by
    simp [State.ClockLawful, State.built, Clock.powerOn, Stamp.Legal, Config.dayCount, Config.dayMs]

/-! ### The branches -/

theorem linksLawful_modBranch {s : State} (b : BranchId) {f : Branch → Branch} (h : s.LinksLawful)
    (hc : (s.branch b).roundCounter ≤ 255 → (f (s.branch b)).roundCounter ≤ 255)
    (hs : (s.branch b).sequence < 16 → (f (s.branch b)).sequence < 16)
    (hm : (∀ d : DropId, (s.branch b).drops[d].missCount ≤ Config.maxMiss) →
      ∀ d : DropId, (f (s.branch b)).drops[d].missCount ≤ Config.maxMiss) : (s.modBranch b f).LinksLawful := by
  intro e
  simp only [State.link, State.branch_modBranch]
  obtain ⟨counter, sequence, misses⟩ := h e
  by_cases heb : e = b
  · subst heb
    simp only [if_true]
    exact ⟨hc counter, hs sequence, hm misses⟩
  · simp only [heb, if_false]
    exact ⟨counter, sequence, misses⟩

theorem Work.linksLawful {s t : State} (w : Work s t) (h : s.LinksLawful) : t.LinksLawful := by
  induction w with
  | start => exact h
  | branch b f _ x ih => exact linksLawful_modBranch b ih x.counter x.sequence x.misses
  | _ => rename_i ih; simpa [State.LinksLawful, State.branch, State.link, State.leaveCycles] using ih

theorem keptLinksLawful : KeptByWrites AnyCommand State.LinksLawful where
  queues _ _ h := h
  work w h := w.linksLawful h
  special _ x h := by
    cases x with
    | branch b f _ w =>
      obtain ⟨hc, hs, hm⟩ := w (_ : Branch)
      exact linksLawful_modBranch b h (by rw [hc]; exact id) (by rw [hs]; exact id) (by rw [hm]; exact id)
    | _ => simpa [State.LinksLawful, State.branch, State.link, State.enableReports, State.disableReports] using h
  ports h := h
  report p h := by simpa [State.LinksLawful, State.branch, State.link, State.beginReport] using h
  supplyLost h := h
  powerOn _ _ b := by simp [State.link, State.branch_built, Branch.powerOn]

/-- Settles O5: the single writes keep the three rules, and so does every step. -/
theorem stepKeepsFaultsClockAndBranchRanges : Obligations.StepKeepsFaultsClockAndBranchRanges := fun _ _ h =>
  ⟨keptFaultsLawful.everyStep id h, keptClockLawful.everyStep (fun ⟨ht, hc, ha⟩ => ⟨ht.next, hc, ha⟩) h,
    keptLinksLawful.everyStep id h⟩

/-! ### The drive cutoff -/

/-- R135: while the drive cutoff is active the door is in no state that drives or holds a slot. -/
def State.StillUnderCutoff (s : State) (j : DoorId) : Prop :=
  s.cutoff.value = true → (s.door j).state.hasStroke = false

/-- R135: a write that begins no stroke under an active cutoff. -/
theorem stillUnderCutoff_modDoor {s : State} (i j : DoorId) {f : Door → Door} (h : s.StillUnderCutoff j)
    (hf : (f (s.door i)).state.hasStroke = true → (s.door i).state.hasStroke = true ∨ s.cutoff.value = false) :
    (s.modDoor i f).StillUnderCutoff j := by
  intro hc
  have active : s.cutoff.value = true := by simpa using hc
  rw [State.door_modDoor]; split
  · next e =>
    subst e
    by_contra hn
    obtain k | k := hf (by simpa using hn)
    · rw [h active] at k; cases k
    · rw [active] at k; cases k
  · exact h active

theorem Work.stillUnderCutoff {s t : State} {j : DoorId} (w : Work s t) (h : s.StillUnderCutoff j) :
    t.StillUnderCutoff j := by
  induction w with
  | start => exact h
  | door i f _ x ih => exact stillUnderCutoff_modDoor i j ih x.stroke
  | cutoffReleased _ _ => intro hc; cases hc
  | _ => rename_i ih; simpa [State.StillUnderCutoff, State.door, State.leaveCycles] using ih

theorem keptStillUnderCutoff (j : DoorId) : KeptByWrites (· ≠ .driveCutoffActive) (State.StillUnderCutoff · j) where
  queues _ _ h := h
  work w h := w.stillUnderCutoff h
  special hc x h := by
    cases x with
    | door i f _ w => exact stillUnderCutoff_modDoor i j h fun k => .inl (w.stroke k)
    | cutoff e => exact absurd e hc
    | _ => simpa [State.StillUnderCutoff, State.door, State.enableReports, State.disableReports] using h
  ports h := h
  report p h := by simpa [State.StillUnderCutoff, State.door, State.beginReport] using h
  supplyLost h := h
  powerOn _ _ _ := by rw [State.door_built]; rfl

/-- R54: a door that has entered a rest state, or WARNING from it, drives nothing. -/
theorem hasStroke_enterRest (s : State) (i : DoorId) {st : DoorState} (hr : st.isRest = true) :
    ((s.enterRest i st).door i).state.hasStroke = false := by
  simp only [State.enterRest, State.door_closureDemand]
  split
  · rfl
  · rw [State.door_applyAtRest_setState _ _ _ _ hr]
    cases st <;> simp_all [Door.rested, DoorState.isRest, DoorState.hasStroke]

/-- R69: a door that has been cut drives nothing. -/
theorem hasStroke_cut (s : State) (i : DoorId) (k : FaultKind) : ((s.cut i k).door i).state.hasStroke = false := by
  simp only [State.cut]; split
  · simp only [State.haltToRest, State.enterIndicated]
    exact hasStroke_enterRest _ i (Indication.restState_isRest _)
  · next h => simpa using h

/-- R135: the doors cut one after another are still, and so are those that were. -/
theorem still_forDoors_cut (l : List DoorId) (k : FaultKind) (j : DoorId) : ∀ s : State, s.cutoff.value = true →
    (j ∉ l → (s.door j).state.hasStroke = false) →
      ((s.forDoors l fun i t => t.cut i k).door j).state.hasStroke = false := by
  induction l with
  | nil => exact fun s _ h => h (by simp)
  | cons i l ih =>
    intro s hc h
    have active : (s.cut i k).cutoff.value = true := by rw [(onlyDoors_cut s i k).rest]; exact hc
    refine ih _ active fun hj => ?_
    by_cases e : j = i
    · subst e; exact hasStroke_cut s j k
    · exact (Work.start.cut i k).stillUnderCutoff (fun _ => h (by simp [e, hj])) active

/-- R135: as the cutoff becomes active every door is stilled. -/
theorem stillUnderCutoff_cutoffActive {s : State} {j : DoorId} (h : s.StillUnderCutoff j) :
    s.cutoffActive.StillUnderCutoff j := by
  simp only [State.cutoffActive]; split
  · exact h
  · intro _
    refine still_forDoors_cut _ _ j _ rfl fun hj => ?_
    simpa using hj

theorem stillUnderCutoff_exec {c : Instr} {s t : State} {j : DoorId} (h : exec c s = .next t)
    (hs : s.StillUnderCutoff j) : t.StillUnderCutoff j := by
  by_cases hc : c = .driveCutoffActive
  · subst hc
    obtain rfl | rfl := live_cases (f := fun s => s.cutoffActive.evalOutputs) h
    · simpa [State.StillUnderCutoff] using stillUnderCutoff_cutoffActive hs
    · exact hs
  · exact (keptStillUnderCutoff j).execKeeps hc h hs

theorem stillUnderCutoff_step {s t : State} {j : DoorId} (h : step s = .next t) (hs : s.StillUnderCutoff j) :
    t.StillUnderCutoff j := by
  obtain ⟨c, rest, _, h⟩ | ⟨hp, -⟩ := step_leads h
  · exact stillUnderCutoff_exec h hs
  · exact (keptStillUnderCutoff j).stepKeeps (by simp) (by simp [hp]) (fun k hc => k hc) h hs

theorem drive_eq_none {st : DoorState} (h : st.hasStroke = false) : st.drive = none := by
  cases st <;> simp_all [DoorState.hasStroke, DoorState.drive]

/-- Settles O8: door by door, a step that begins a stroke under the cutoff does not occur. -/
theorem stepKeepsCutoffLawful : Obligations.StepKeepsCutoffLawful := fun s t hs h => by
  have lawful : t.CutoffLawful := fun hc i => stillUnderCutoff_step h (fun k => hs k i) hc
  exact ⟨lawful, fun hc i => drive_eq_none (lawful hc i)⟩

/-! ### The pairs -/

/-- R6: no two installed doors have one pair. -/
def State.DoorPairsDistinct (s : State) : Prop :=
  ∀ i j, i ≠ j → (s.door i).installed = true → (s.door j).installed = true →
    ((s.door i).branch, (s.door i).drop) ≠ ((s.door j).branch, (s.door j).drop)

/-- R6: a write of a door that leaves its pair, or takes one that no other installed door has. -/
theorem doorPairsDistinct_modDoor {s : State} (i : DoorId) {f : Door → Door} (h : s.DoorPairsDistinct)
    (hf : (f (s.door i)).installed = true →
      (s.door i).installed = true ∧ (f (s.door i)).branch = (s.door i).branch ∧ (f (s.door i)).drop = (s.door i).drop ∨
        s.pairTaken i (f (s.door i)).branch (f (s.door i)).drop = false) : (s.modDoor i f).DoorPairsDistinct := by
  have other : ∀ j, j ≠ i → (f (s.door i)).installed = true → (s.door j).installed = true →
      ((f (s.door i)).branch, (f (s.door i)).drop) ≠ ((s.door j).branch, (s.door j).drop) := by
    intro j hj hi' hj' e
    obtain ⟨hi, hb, hd⟩ | ht := hf hi'
    · rw [hb, hd] at e; exact h i j (Ne.symm hj) hi hj' e
    · simp only [State.pairTaken, List.any_eq_false] at ht
      obtain ⟨eb, ed⟩ := Prod.mk.inj e
      exact ht j (mem_doorIds j) (by simp [hj, hj', eb, ed])
  intro j k hjk hj hk
  simp only [State.door_modDoor] at *
  by_cases ej : j = i <;> by_cases ek : k = i <;> simp only [ej, ek, if_true, if_false] at hj hk ⊢
  · exact absurd (ej.trans ek.symm) hjk
  · exact other k ek hj hk
  · exact (other j ej hk hj).symm
  · exact h j k hjk hj hk

theorem pairsDistinct_settingsImage {s : State} (h : s.DoorPairsDistinct) : s.settingsImage.PairsDistinct := by
  have image : ∀ j : DoorId, s.settingsImage.doors[j] = (s.door j).image := fun j => by
    simp only [State.settingsImage]
    rw [getElem_foldl_set (fun i => (s.door i).image)]
    simp
  intro i j hij
  rw [image, image]
  exact h i j hij

/-- R180: the copy of a save and the image of its completion hold pairs that were distinct. -/
theorem pairsLawful_store {s t : State} (h : s.PairsLawful) (hd : t.doors = s.doors) {x : Store} (ht : t.store = x)
    (hx : StoreWrite s x) : t.PairsLawful := by
  obtain ⟨hp, hi, hv⟩ := h
  refine ⟨by simpa only [State.door, hd] using hp, fun m e => ?_, fun v e => ?_⟩
  · rw [ht] at e
    obtain e | ⟨v, hs, rfl⟩ := hx.image m e
    · exact hi m e
    · exact hv v hs
  · rw [ht] at e
    obtain e | e := hx.saving v e
    · exact hv v e
    · rw [e]; exact pairsDistinct_settingsImage hp

theorem Work.pairsLawful {s t : State} (w : Work s t) (h : s.PairsLawful) : t.PairsLawful := by
  induction w with
  | start => exact h
  | door i f _ x ih =>
    obtain ⟨hp, hi, hv⟩ := ih
    have place := x.place
    refine ⟨doorPairsDistinct_modDoor i hp fun hi' => .inl ⟨?_, ?_, ?_⟩, by simpa using hi, by simpa using hv⟩
    · exact (congrArg DoorImage.installed place).symm.trans hi'
    · exact congrArg DoorImage.branch place
    · exact congrArg DoorImage.drop place
  | store f _ x ih => exact pairsLawful_store ih (by simp) (State.modStore_store _ f) x
  | plainStore y _ x _ ih => exact pairsLawful_store ih rfl rfl x
  | _ => rename_i ih; simpa [State.PairsLawful, State.door, State.leaveCycles] using ih

theorem pairsDistinct_defaults : Image.defaults.PairsDistinct := by
  intro i j _ hi
  simp [Image.defaults, DoorImage.defaults] at hi

theorem keptPairsLawful : KeptByWrites AnyCommand State.PairsLawful where
  queues _ _ h := h
  work w h := w.pairsLawful h
  special _ x h := by
    cases x with
    | door i f _ w =>
      obtain ⟨hp, hi, hv⟩ := h
      exact ⟨doorPairsDistinct_modDoor i hp w.pair, by simpa using hi, by simpa using hv⟩
    | _ => simpa [State.PairsLawful, State.door, State.enableReports, State.disableReports] using h
  ports h := h
  report p h := by simpa [State.PairsLawful, State.door, State.beginReport] using h
  supplyLost := fun ⟨hp, hi, hv⟩ => by
    refine ⟨hp, fun m e => ?_, fun _ e => nomatch e⟩
    simp only [State.supplyLost] at e
    split at e
    · cases e
    · exact hi m e
  powerOn {s k a o l y} _ := fun ⟨_, hi, _⟩ => by
    have lawful : (s.store.image.getD Image.defaults).PairsDistinct := by
      cases e : s.store.image with
      | none => exact pairsDistinct_defaults
      | some m => exact hi m e
    refine ⟨fun i j hij => ?_, hi, fun _ e => nomatch e⟩
    rw [State.door_built, State.door_built]
    exact lawful i j hij

/-- Settles O7: only an installation SET writes a pair, and it takes none that another door has. -/
theorem stepKeepsPairsDistinct : Obligations.StepKeepsPairsDistinct := fun _ _ hs h =>
  keptPairsLawful.everyStep id h hs

/-! ### The lock and what it guards -/

theorem Work.lockClosed {s t : State} (w : Work s t) (h : s.store.lockOpen = false) : t.store.lockOpen = false := by
  induction w with
  | start => exact h
  | store f _ x ih => simpa [ih] using x.lock
  | plainStore y _ x _ ih => simpa [ih] using x.lock
  | _ => rename_i ih; simpa [State.leaveCycles] using ih

/-- R182: the lock is closed. -/
def State.LockClosed (s : State) : Prop := s.store.lockOpen = false

/-- R182: the writes that are left while the lock is closed. -/
inductive Unguarded (c : Instr) (s : State) : State → Prop where
  | enable (p : PortId) : Unguarded c s (s.enableReports p)
  | disable (p : PortId) : Unguarded c s (s.disableReports p)
  | line (m : ZoneSet) :
      Unguarded c s ({ s with holds := { s.holds with line := m } }.touchIf (s.holds != { s.holds with line := m }))
  | cutoff : Unguarded c s { s with cutoff := Input.settledAt true }.touchSummary

theorem Special.unguarded {c : Instr} {s t : State} (x : Special c s t) (h : s.LockClosed) : Unguarded c s t := by
  have shut : s.store.lockOpen ≠ true := by simp [show s.store.lockOpen = false from h]
  cases x with
  | door _ _ hl _ => exact absurd hl shut
  | unit _ _ hl => exact absurd hl shut
  | branch _ _ hl _ => exact absurd hl shut
  | role _ _ hl _ => exact absurd hl shut
  | store _ _ hl => exact absurd hl shut
  | enable p => exact .enable p
  | disable p => exact .disable p
  | line m _ _ => exact .line m
  | cutoff _ => exact .cutoff

theorem keptLockClosed : KeptByWrites (fun c => ∀ a o l y, c ≠ .powerOn true a o l y) State.LockClosed where
  queues _ _ h := h
  work w h := w.lockClosed h
  special _ x h := by
    cases x.unguarded h <;> simpa [State.LockClosed, State.enableReports, State.disableReports] using h
  ports h := h
  report p h := by simpa [State.LockClosed, State.beginReport] using h
  supplyLost h := h
  powerOn {s k a o l y} hc _ := by
    cases k
    · rfl
    · exact absurd rfl (hc a o l y)

/-- R182: what installation SETs write stands as in `s`, and the lock is closed. -/
structure GuardedKept (s t : State) : Prop where
  lock : t.store.lockOpen = false
  startClosed : t.store.startClosed = s.store.startClosed
  alarmMask : t.store.alarmMask = s.store.alarmMask
  doors : ∀ i, (t.door i).image = { (s.door i).image with settings := (t.door i).settings }
  units : ∀ u, (t.unit u).image = (s.unit u).image
  branches : ∀ b, (t.branch b).image = (s.branch b).image
  roles : ∀ p, (t.port p).role = (s.port p).role

theorem GuardedKept.refl {s : State} (h : s.store.lockOpen = false) : GuardedKept s s :=
  ⟨h, rfl, rfl, fun _ => rfl, fun _ => rfl, fun _ => rfl, fun _ => rfl⟩

/-- Ordinary work keeps the role of a port through `modPort`, and so do the marks of R168. -/
theorem role_modPort (s : State) (p : PortId) {f : Port → Port} (hf : (f (s.port p)).role = (s.port p).role)
    (q : PortId) : ((s.modPort p f).port q).role = (s.port q).role := by
  rw [State.port_modPort]; split
  · next e => subst e; exact hf
  · rfl

@[simp] theorem role_touchIf (s : State) (c : Bool) (q : PortId) : ((s.touchIf c).port q).role = (s.port q).role := by
  rw [State.port_touchIf]

@[simp] theorem role_modDoor (s : State) (i : DoorId) (f : Door → Door) (p : PortId) :
    ((s.modDoor i f).port p).role = (s.port p).role := by rw [(onlyDoors_modDoor s i f).ports p]

@[simp] theorem role_modUnit (s : State) (u : UnitId) (f : PowerUnit → PowerUnit) (p : PortId) :
    ((s.modUnit u f).port p).role = (s.port p).role := by rw [(onlyDoors_modUnit s u f).ports p]

@[simp] theorem role_modBranch (s : State) (b : BranchId) (f : Branch → Branch) (p : PortId) :
    ((s.modBranch b f).port p).role = (s.port p).role := by rw [(onlyLinks_modBranch s b f).ports p]

@[simp] theorem role_modStore (s : State) (f : Store → Store) (p : PortId) :
    ((s.modStore f).port p).role = (s.port p).role := by rw [port_modStore]

@[simp] theorem role_evalOutputs (s : State) (p : PortId) : (s.evalOutputs.port p).role = (s.port p).role := by
  simp only [State.evalOutputs, State.port_touchIf]; rfl

theorem Work.roles {s t : State} (w : Work s t) (p : PortId) : (t.port p).role = (s.port p).role := by
  induction w with
  | start => rfl
  | port q f _ x ih => rw [role_modPort _ _ x.role, ih]
  | settingsHold _ _ ih | clock _ _ _ ih | sync _ _ ih | plainStore _ _ _ _ ih | freeCount _ _ ih => exact ih
  | holds _ _ _ ih | closeAll _ _ ih | cutoffReleased _ ih => simp; exact ih
  | _ => rename_i ih; simpa [State.leaveCycles] using ih

theorem Work.places {s t : State} (w : Work s t) (i : DoorId) :
    (t.door i).image = { (s.door i).image with settings := (t.door i).settings } := by
  induction w with
  | start => rfl
  | @door m j f _ x ih =>
    rw [State.door_modDoor]; split
    · next e => subst e; rw [x.place, ih]
    · exact ih
  | _ => rename_i ih; simpa [State.door, State.leaveCycles] using ih

theorem Work.unitImages {s t : State} (w : Work s t) (u : UnitId) : (t.unit u).image = (s.unit u).image := by
  induction w with
  | start => rfl
  | unit v f _ x ih =>
    rw [State.unit_modUnit]; split
    · next e => subst e; rw [x, ih]
    · exact ih
  | _ => rename_i ih; simpa [State.unit, State.leaveCycles] using ih

theorem Work.branchImages {s t : State} (w : Work s t) (b : BranchId) : (t.branch b).image = (s.branch b).image := by
  induction w with
  | start => rfl
  | branch c f _ x ih =>
    rw [State.branch_modBranch]; split
    · next e => subst e; rw [x.image, ih]
    · exact ih
  | _ => rename_i ih; simpa [State.branch, State.leaveCycles] using ih

theorem Work.startClosed {s t : State} (w : Work s t) : t.store.startClosed = s.store.startClosed := by
  induction w with
  | start => rfl
  | store f _ x ih => simpa using x.startClosed.trans ih
  | plainStore y _ x _ ih => exact x.startClosed.trans ih
  | _ => rename_i ih; simpa [State.leaveCycles] using ih

theorem Work.alarmMask {s t : State} (w : Work s t) : t.store.alarmMask = s.store.alarmMask := by
  induction w with
  | start => rfl
  | store f _ x ih => simpa using x.alarmMask.trans ih
  | plainStore y _ x _ ih => exact x.alarmMask.trans ih
  | _ => rename_i ih; simpa [State.leaveCycles] using ih

theorem GuardedKept.work {s t u : State} (h : GuardedKept s t) (w : Work t u) : GuardedKept s u :=
  ⟨w.lockClosed h.lock, w.startClosed.trans h.startClosed, w.alarmMask.trans h.alarmMask,
    fun i => by rw [w.places, h.doors], fun v => (w.unitImages v).trans (h.units v),
    fun b => (w.branchImages b).trans (h.branches b), fun p => (w.roles p).trans (h.roles p)⟩

/-- A write that leaves doors, units and branches, the store but for image and save, and the roles. -/
theorem GuardedKept.plain {s t u : State} (h : GuardedKept s t) (hd : u.doors = t.doors) (hu : u.units = t.units)
    (hb : u.branches = t.branches) (hl : u.store.lockOpen = t.store.lockOpen)
    (hs : u.store.startClosed = t.store.startClosed) (hm : u.store.alarmMask = t.store.alarmMask)
    (hr : ∀ p, (u.port p).role = (t.port p).role) : GuardedKept s u := by
  obtain ⟨lock, startClosed, alarmMask, doors, units, branches, roles⟩ := h
  exact ⟨hl.trans lock, hs.trans startClosed, hm.trans alarmMask, by simpa [State.door, hd] using doors,
    by simpa [State.unit, hu] using units, by simpa [State.branch, hb] using branches,
    fun p => (hr p).trans (roles p)⟩

/-- No power-on. -/
def NoPowerOn (c : Instr) : Prop := ∀ k a o l y, c ≠ .powerOn k a o l y

theorem keptGuarded (s : State) : KeptByWrites NoPowerOn (GuardedKept s) where
  queues _ _ h := h.plain rfl rfl rfl rfl rfl rfl fun _ => rfl
  work w h := h.work w
  special _ x h := by
    cases x.unguarded h.lock with
    | enable p =>
      refine h.plain ?_ ?_ ?_ ?_ ?_ ?_ (role_modPort _ p rfl) <;> simp [State.enableReports]
    | disable p =>
      refine h.plain ?_ ?_ ?_ ?_ ?_ ?_ (role_modPort _ p rfl) <;> simp [State.disableReports]
    | line m => exact h.plain (by simp) (by simp) (by simp) (by simp) (by simp) (by simp) fun q => by simp; rfl
    | cutoff => exact h.plain rfl rfl rfl rfl rfl rfl fun q => by simp; rfl
  ports h := h.plain rfl rfl rfl rfl rfl rfl fun q => by simp [Port.restarted]
  report p h := by refine h.plain ?_ ?_ ?_ ?_ ?_ ?_ (role_modPort _ p rfl) <;> simp [State.beginReport]
  supplyLost h := h.plain rfl rfl rfl rfl rfl rfl fun _ => rfl
  powerOn hc _ := absurd rfl (hc _ _ _ _ _)

theorem GuardedKept.tick {s t : State} (h : GuardedKept s t) : GuardedKept s t.tick := by
  have units : ∀ u, (t.tick.unit u).image = (t.unit u).image := fun u => by
    match u with
    | 0 => rfl
    | 1 => rfl
    | 2 => rfl
    | 3 => rfl
  obtain ⟨lock, startClosed, alarmMask, doors, us, branches, roles⟩ := h
  exact ⟨lock, startClosed, alarmMask, doors, fun u => (units u).trans (us u), branches, roles⟩

/-- Settles O9: every write that a closed lock lets through leaves the lock closed, and what it guards. -/
theorem lockOpensOnlyAtPowerOn : Obligations.LockOpensOnlyAtPowerOn := by
  intro s t h hl
  refine ⟨fun ht => ?_, fun hn => ?_⟩
  · by_contra hc
    have closed := keptLockClosed.stepKeeps (s := s) (by simp)
      (fun c rest e a o l y hce => hc ⟨a, o, l, y, rest, hce ▸ e⟩) id h hl
    simp [show t.store.lockOpen = false from closed] at ht
  · obtain ⟨-, startClosed, alarmMask, doors, units, branches, roles⟩ := (keptGuarded s).stepKeeps
      (by simp [NoPowerOn]) (fun c rest e k a o l y hce => hn k a o l y rest (hce ▸ e)) GuardedKept.tick h (.refl hl)
    exact ⟨startClosed, alarmMask, doors, units, branches, roles⟩

/-! ### The holders -/

theorem Work.line {s t : State} (w : Work s t) : t.holds.line = s.holds.line := by
  induction w with
  | start => rfl
  | holds m _ x ih => simpa using x.line.trans ih
  | _ => rename_i ih; simpa [State.leaveCycles] using ih

theorem keptLine (m : ZoneSet) :
    KeptByWrites (fun c => NoPowerOn c ∧ ∀ a, c ≠ .closeAllChange a) (fun t => t.holds.line = m) where
  queues _ _ h := h
  work w h := w.line.trans h
  special hc x h := by
    cases x with
    | line _ a e => exact absurd e (hc.2 a)
    | _ => simpa [State.enableReports, State.disableReports] using h
  ports h := h
  report p h := by simpa [State.beginReport] using h
  supplyLost h := h
  powerOn hc _ := absurd rfl (hc.1 _ _ _ _ _)

theorem within_trans {a b c : ZoneSet} (h : b &&& ~~~a = 0) (k : c &&& ~~~b = 0) : c &&& ~~~a = 0 := by
  ext n hn
  have h := congrArg (fun x : ZoneSet => x.getLsbD n) h
  have k := congrArg (fun x : ZoneSet => x.getLsbD n) k
  simp at h k ⊢
  grind

theorem Work.startSet {s t : State} (w : Work s t) : t.holds.start &&& ~~~s.holds.start = 0 := by
  induction w with
  | start => simp
  | holds m _ x ih => simpa using within_trans ih x.start
  | _ => rename_i ih; simpa [State.leaveCycles] using ih

theorem keptStartSet (s : State) :
    KeptByWrites NoPowerOn (fun t => t.holds.start &&& ~~~s.holds.start = 0) where
  queues _ _ h := h
  work w h := within_trans h w.startSet
  special _ x h := by cases x <;> simpa [State.enableReports, State.disableReports] using h
  ports h := h
  report p h := by simpa [State.beginReport] using h
  supplyLost h := h
  powerOn hc _ := absurd rfl (hc _ _ _ _ _)

/-- R83: the set of every MONITOR port is empty. -/
def State.MonitorsEmpty (s : State) : Prop := ∀ p : PortId, (s.port p).role = .monitor → s.holds.console[p] = 0

theorem monitorsEmpty_of {s t : State} (h : s.MonitorsEmpty) (hh : t.holds = s.holds)
    (hr : ∀ p, (t.port p).role = (s.port p).role) : t.MonitorsEmpty := fun p hp => by
  rw [hh]; exact h p (by rw [← hr p]; exact hp)

theorem Work.consoleEmpty {s t : State} (w : Work s t) {p : PortId} (hr : (s.port p).role = .monitor)
    (h : s.holds.console[p] = 0) : t.holds.console[p] = 0 := by
  induction w with
  | start => exact h
  | holds m w x ih =>
    simp only [State.touchIf_holds]
    obtain e | e | e := x.console p
    · rw [e]; exact ih
    · exact e
    · rw [w.roles, hr] at e; cases e
  | _ => rename_i ih; simpa [State.leaveCycles] using ih

theorem Work.monitorsEmpty {s t : State} (w : Work s t) (h : s.MonitorsEmpty) : t.MonitorsEmpty := fun p hp => by
  rw [w.roles] at hp
  exact w.consoleEmpty hp (h p hp)

theorem keptMonitorsEmpty : KeptByWrites AnyCommand State.MonitorsEmpty where
  queues _ _ h := h
  work w h := w.monitorsEmpty h
  special _ x h := by
    cases x with
    | role q r _ hq =>
      intro p hp
      rw [State.port_modPort] at hp
      simp only [State.modPort_holds]
      split at hp
      · next e => subst e; exact hq hp
      · exact h p hp
    | line m a _ =>
      intro p hp
      rw [role_touchIf] at hp
      simpa using h p hp
    | enable p => exact monitorsEmpty_of h (by simp [State.enableReports]) (role_modPort _ p rfl)
    | disable p => exact monitorsEmpty_of h (by simp [State.disableReports]) (role_modPort _ p rfl)
    | cutoff _ => exact monitorsEmpty_of h rfl fun p => by simp; rfl
    | store _ _ _ => exact h
    | _ => exact monitorsEmpty_of h (by simp) fun p => by simp
  ports h := monitorsEmpty_of h rfl fun p => by simp [Port.restarted]
  report p h := monitorsEmpty_of h (by simp [State.beginReport]) (role_modPort _ p rfl)
  supplyLost h := h
  powerOn _ _ := fun p _ => by simp [State.built]

/-- R80: a change of CLOSE_ALL_IN makes the LINE set all zones or none. -/
theorem line_closeAllChange {s t : State} {a : Bool} (hp : s.powered = true) (ha : s.closeAll.value ≠ a)
    (h : exec (.closeAllChange a) s = .next t) : t.holds.line = if a then allZones else 0 := by
  obtain rfl : (s.closeAllChanged a).evalOutputs = t := by
    have := Host.Outcome.next.inj (show s.live (fun s => (s.closeAllChanged a).evalOutputs) = .next t from h)
    simpa [hp] using this
  simp only [State.closeAllChanged, if_neg ha, State.evalOutputs, State.touchIf_holds]
  rw [holds_setHolds]

/-- Settles O10. -/
theorem holdersKeepTheirSets : Obligations.HoldersKeepTheirSets := by
  intro s t h hn
  have noPowerOn : ∀ c rest, s.pending = c :: rest → NoPowerOn c :=
    fun c rest e k a o l y hce => hn k a o l y rest (hce ▸ e)
  refine ⟨fun hc => ?_, ?_, fun a rest e hp ha => ?_, fun hm => ?_⟩
  · exact (keptLine _).stepKeeps (by simp [NoPowerOn])
      (fun c rest e => ⟨noPowerOn c rest e, fun a hce => hc a rest (hce ▸ e)⟩) id h rfl
  · exact (keptStartSet s).stepKeeps (by simp [NoPowerOn]) noPowerOn id h (by simp)
  · rw [step, e] at h
    exact line_closeAllChange (s := { s with pending := rest }) hp ha h
  · exact keptMonitorsEmpty.everyStep id h hm

end Sys2Proof.Machine
end

section
/-! SUPPORT. The marks of R168: the chain of single writes that a step is leaves no change unmarked. A door's change is
marked by the write that makes it; that a chain marks what it has changed from its first state to its last rests on
`Door.counts_trans`. -/

namespace Sys2Proof.Machine

/-! ### One write of a door -/

/-- R168: the change of a door from `d` to `e` counts for a port to which position `r` was last reported. -/
def Door.counts (r : Option Nat) (d e : Door) : Bool :=
  (d.installed || e.installed) && (!d.sameReport e || (d.position != e.position && positionJoins r e.position))

theorem positionJoins_iff (r p : Option Nat) :
    positionJoins r p = true ↔ ∀ x, p = some x → ∀ y, r = some y →
      y + 5 ≤ x ∨ x + 5 ≤ y ∨ (x = 0 ∨ x = 1000) ∧ y ≠ 0 ∧ y ≠ 1000 := by
  cases r <;> cases p <;> simp [positionJoins, or_assoc]

theorem mem_insertDoor (i j : DoorId) (l : List DoorId) : j ∈ insertDoor i l ↔ j = i ∨ j ∈ l := by
  induction l with
  | nil => simp [insertDoor]
  | cons k l ih =>
    simp only [insertDoor]
    split
    · simp
    · split
      · next e => simp [e]
      · simp only [List.mem_cons, ih]; tauto

theorem port_noteDoor (s : State) (i : DoorId) (d e : Door) (q : PortId) :
    (s.noteDoor i d e).port q =
      if d.counts (s.port q).lastReported[i] e then { s.port q with changed := insertDoor i (s.port q).changed }
      else s.port q := by
  simp only [State.noteDoor, Door.counts]
  by_cases hi : (d.installed || e.installed) = true
  · by_cases hr : d.sameReport e = true
    · by_cases hp : d.position = e.position
      · simp [hi, hr, hp]
      · simp [hi, hr, hp]
    · simp [hi, hr]
  · simp [hi]

theorem port_modDoor (s : State) (i : DoorId) (f : Door → Door) (q : PortId) :
    (s.modDoor i f).port q =
      if (s.door i).counts (s.port q).lastReported[i] (f (s.door i)) then
        { s.port q with changed := insertDoor i (s.port q).changed }
      else s.port q := port_noteDoor _ i _ _ q

/-- One write of a door adds that door alone, and only for a change that counts. -/
theorem mem_changed_modDoor (s : State) (i j : DoorId) (f : Door → Door) (q : PortId) :
    j ∈ ((s.modDoor i f).port q).changed ↔
      j ∈ (s.port q).changed ∨ j = i ∧ (s.door i).counts (s.port q).lastReported[i] (f (s.door i)) = true := by
  rw [port_modDoor]
  split
  · next h => rw [mem_insertDoor]; tauto
  · next h => tauto

/-! ### Chains of writes -/

theorem Door.counts_self (r : Option Nat) (d : Door) : d.counts r d = false := by
  simp [Door.counts, Door.sameReport]

/-- A change over two writes counts by one of them. -/
theorem Door.counts_trans {r : Option Nat} {d e f : Door} (h : d.counts r f = true) :
    d.counts r e = true ∨ e.counts r f = true := by
  by_contra hn
  simp only [not_or, Bool.not_eq_true] at hn
  simp only [Door.counts, Door.sameReport, Bool.and_eq_true, Bool.or_eq_true, bne_iff_ne,
    Bool.and_eq_false_iff, Bool.or_eq_false_iff, beq_iff_eq, bne_eq_false_iff_eq,
    beq_eq_false_iff_ne, Bool.not_eq_eq_eq_not, Bool.not_true, Bool.not_false] at h hn
  grind

/-- The changes of the doors from `s` to `t` stand in the changed-door set of a port, which has lost no door. -/
structure DoorsMarked (q : PortId) (s t : State) : Prop where
  doors : ∀ i, (s.door i).counts (s.port q).lastReported[i] (t.door i) = true → i ∈ (t.port q).changed
  grows : ∀ i ∈ (s.port q).changed, i ∈ (t.port q).changed
  reported : (t.port q).lastReported = (s.port q).lastReported

theorem DoorsMarked.trans {q : PortId} {s t u : State} (h : DoorsMarked q s t) (k : DoorsMarked q t u) :
    DoorsMarked q s u := by
  refine ⟨fun i hi => ?_, fun i hi => k.grows i (h.grows i hi), k.reported.trans h.reported⟩
  obtain hi | hi := Door.counts_trans (e := t.door i) hi
  · exact k.grows i (h.doors i hi)
  · exact k.doors i (by rwa [h.reported])

theorem DoorsMarked.same {q : PortId} {s t : State} (hd : t.doors = s.doors)
    (hc : (t.port q).changed = (s.port q).changed) (hr : (t.port q).lastReported = (s.port q).lastReported) :
    DoorsMarked q s t := by
  refine ⟨fun i hi => ?_, fun i => by rw [hc]; exact id, hr⟩
  have : t.door i = s.door i := by simp [State.door, hd]
  rw [this, Door.counts_self] at hi; cases hi

theorem doorsMarked_modDoor (s : State) (i : DoorId) (f : Door → Door) (q : PortId) :
    DoorsMarked q s (s.modDoor i f) := by
  refine ⟨fun j hj => ?_, fun j hj => (mem_changed_modDoor s i j f q).mpr (.inl hj), ?_⟩
  · rw [State.door_modDoor] at hj
    split at hj
    · next e => subst e; exact (mem_changed_modDoor s j j f q).mpr (.inr ⟨rfl, hj⟩)
    · rw [Door.counts_self] at hj; cases hj
  · rw [port_modDoor]; split <;> rfl

theorem doorsMarked_modPort (s : State) (p : PortId) {f : Port → Port} (q : PortId)
    (hc : q = p → (f (s.port p)).changed = (s.port p).changed)
    (hr : q = p → (f (s.port p)).lastReported = (s.port p).lastReported) : DoorsMarked q s (s.modPort p f) := by
  refine .same (by simp) ?_ ?_
  · rw [State.port_modPort]; split
    · next e => subst e; exact hc rfl
    · rfl
  · rw [State.port_modPort]; split
    · next e => subst e; exact hr rfl
    · rfl

/-- A write that leaves the doors, and of the ports all but the summary changed flags. -/
theorem doorsMarked_touchIf {s t : State} (q : PortId) (hd : t.doors = s.doors) (hp : t.ports = s.ports) (c : Bool) :
    DoorsMarked q s (t.touchIf c) :=
  have port : ∀ q, t.port q = s.port q := fun q => by simp [State.port, hp]
  .same (by simpa using hd) (by rw [State.port_touchIf]; simp [port]) (by rw [State.port_touchIf]; simp [port])

theorem Work.doorsMarked {s t : State} (w : Work s t) (q : PortId) : DoorsMarked q s t := by
  induction w with
  | start => exact .same rfl rfl rfl
  | door i f _ _ ih => exact ih.trans (doorsMarked_modDoor _ i f q)
  | port p f _ x ih => exact ih.trans (doorsMarked_modPort _ p q (fun _ => x.changed) fun _ => x.lastReported)
  | cycles i _ ih => exact ih.trans (.same rfl (by simp [State.leaveCycles]) (by simp [State.leaveCycles]))
  | unit | branch | holds | store | outputs =>
    rename_i ih; exact ih.trans (doorsMarked_touchIf q (by rfl) (by rfl) _)
  | closeAll | cutoffReleased =>
    rename_i ih; exact ih.trans (doorsMarked_touchIf q (by rfl) (by rfl) true)
  | settingsHold | clock | sync | plainStore | freeCount =>
    rename_i ih; exact ih.trans (.same rfl rfl rfl)

theorem installed_eq_of_work {s t : State} (w : Work s t) (i : DoorId) :
    (t.door i).installed = (s.door i).installed := congrArg DoorImage.installed (w.places i)

/-- Every installed door stands in the changed-door set of the port. -/
def AllMarked (q : PortId) (s : State) : Prop := ∀ i, (s.door i).installed = true → i ∈ (s.port q).changed

theorem Door.counts_installed {r : Option Nat} {d e : Door} (h : d.counts r e = true) :
    d.installed = true ∨ e.installed = true := by
  simp only [Door.counts, Bool.and_eq_true, Bool.or_eq_true] at h
  exact h.1

/-- Where every installed door stands in the set, so does every one that has changed by ordinary work before or after. -/
theorem AllMarked.counted {q : PortId} {s m n t : State} (h : AllMarked q n) (w : Work s m) (hd : n.doors = m.doors)
    (w' : Work n t) (i : DoorId) {r : Option Nat} (hi : (s.door i).counts r (t.door i) = true) :
    i ∈ (t.port q).changed := by
  have middle : (n.door i).installed = (m.door i).installed := by simp [State.door, hd]
  refine (w'.doorsMarked q).grows i (h i ?_)
  obtain k | k := Door.counts_installed hi
  · rw [middle, installed_eq_of_work w, k]
  · rw [← installed_eq_of_work w', k]

theorem mem_installedDoors (s : State) (i : DoorId) : i ∈ s.installedDoors ↔ (s.door i).installed = true := by
  simp [State.installedDoors, State.doorsWhere]

theorem allMarked_enableReports (s : State) (p : PortId) : AllMarked p (s.enableReports p) := fun i hi => by
  have : (s.door i).installed = true := by simpa [State.enableReports] using hi
  simpa [State.enableReports, State.port_modPort, mem_installedDoors] using this

/-- A write that is not ordinary work marks what it changes, but that it may begin the reports of the port. -/
theorem Special.doorsMarked {c : Instr} {s t : State} (x : Special c s t) (q : PortId) :
    DoorsMarked q s t ∨ t.doors = s.doors ∧ AllMarked q t := by
  cases x with
  | door i f _ _ => exact .inl (doorsMarked_modDoor s i f q)
  | unit | branch | line => exact .inl (doorsMarked_touchIf q (by rfl) (by rfl) _)
  | cutoff => exact .inl (doorsMarked_touchIf q (by rfl) (by rfl) true)
  | role p r _ _ => exact .inl (doorsMarked_modPort s p q (fun _ => rfl) fun _ => rfl)
  | disable p => exact .inl (doorsMarked_modPort s p q (fun _ => rfl) fun _ => rfl)
  | store => exact .inl (.same rfl rfl rfl)
  | enable p =>
    by_cases e : q = p
    · subst e; exact .inr ⟨by simp [State.enableReports], allMarked_enableReports s q⟩
    · exact .inl (doorsMarked_modPort s p q (fun k => absurd k e) fun k => absurd k e)

theorem Chain.doorsMarked {c : Instr} {s t : State} (h : Chain c s t) (q : PortId) (i : DoorId)
    (hi : (s.door i).counts (s.port q).lastReported[i] (t.door i) = true) : i ∈ (t.port q).changed := by
  obtain w | ⟨m, n, w, x, w'⟩ := h
  · exact (w.doorsMarked q).doors i hi
  · obtain k | ⟨hd, k⟩ := x.doorsMarked q
    · exact (((w.doorsMarked q).trans k).trans (w'.doorsMarked q)).doors i hi
    · exact k.counted w hd w' i hi

/-! ### The summary -/

/-- R168: what stands behind the summary block. -/
def State.summary (s : State) : Holds × (UnitId → UnitState × Bool × Bool) × Bool × Bool × Outputs × (BranchId → Nat) ×
    (PortId → Bool × Bool) × Bool :=
  (s.holds, fun u => ((s.unit u).state, (s.unit u).attention, (s.unit u).pressLow.value), s.closeAll.value,
    s.cutoff.value, s.outputs, fun b => (s.branch b).roundCounter,
    fun p => ((s.port p).active, (s.port p).attention), s.store.imageFault)

/-- The summary changed flag of a port is set where the summary has changed, and has not been cleared. -/
def SummaryMarked (q : PortId) (s t : State) : Prop :=
  (t.port q).summaryChanged = true ∨ t.summary = s.summary ∧ (t.port q).summaryChanged = (s.port q).summaryChanged

theorem SummaryMarked.refl (q : PortId) (s : State) : SummaryMarked q s s := .inr ⟨rfl, rfl⟩

theorem SummaryMarked.trans {q : PortId} {s t u : State} (h : SummaryMarked q s t) (k : SummaryMarked q t u) :
    SummaryMarked q s u := by
  obtain k | ⟨ks, kf⟩ := k
  · exact .inl k
  · obtain h | ⟨hs, hf⟩ := h
    · exact .inl (kf.trans h)
    · exact .inr ⟨ks.trans hs, kf.trans hf⟩

/-- Marks made on a condition suffice where the summary stays without it. -/
theorem summaryMarked_touchIf {s t : State} (q : PortId) {c : Bool} (hp : t.ports = s.ports)
    (h : c = false → t.summary = s.summary) : SummaryMarked q s (t.touchIf c) := by
  cases c
  · exact .inr ⟨h rfl, by simp [State.touchIf, State.port, hp]⟩
  · exact .inl (by simp)

theorem summary_ext {s t : State} (hh : t.holds = s.holds) (hu : t.units = s.units) (hc : t.closeAll.value = s.closeAll.value)
    (ho : t.cutoff.value = s.cutoff.value) (hout : t.outputs = s.outputs) (hb : t.branches = s.branches)
    (hp : ∀ p, (t.port p).active = (s.port p).active ∧ (t.port p).attention = (s.port p).attention)
    (hs : t.store.imageFault = s.store.imageFault) : t.summary = s.summary := by
  simp [State.summary, State.unit, State.branch, hh, hu, hc, ho, hout, hb, hp, hs]

theorem SummaryMarked.flagged {q : PortId} {s t : State} (h : SummaryMarked q s t)
    (hs : (s.port q).summaryChanged = true) : (t.port q).summaryChanged = true :=
  h.elim id fun ⟨_, e⟩ => e.trans hs

theorem summaryMarked_modDoor (s : State) (i : DoorId) (f : Door → Door) (q : PortId) :
    SummaryMarked q s (s.modDoor i f) := by
  have port : ∀ p, ((s.modDoor i f).port p).active = (s.port p).active ∧
      ((s.modDoor i f).port p).attention = (s.port p).attention ∧
      ((s.modDoor i f).port p).summaryChanged = (s.port p).summaryChanged := fun p => by
    rw [port_modDoor]; split <;> exact ⟨rfl, rfl, rfl⟩
  refine .inr ⟨summary_ext ?_ ?_ ?_ ?_ ?_ ?_ (fun p => ⟨(port p).1, (port p).2.1⟩) ?_, (port q).2.2⟩ <;> simp

theorem summaryMarked_modUnit (s : State) (u : UnitId) (f : PowerUnit → PowerUnit) (q : PortId) :
    SummaryMarked q s (s.modUnit u f) := by
  refine summaryMarked_touchIf q rfl fun hc => ?_
  simp only [Bool.or_eq_false_iff, bne_eq_false_iff_eq] at hc
  have unit : ∀ v, ({ s with units := s.units.set u (f (s.unit u)) } : State).unit v =
      if v = u then f (s.unit u) else s.unit v := fun v => by
    simpa only [State.unit, State.modUnit_units] using s.unit_modUnit u v f
  have reads : ∀ v, (if v = u then f (s.unit u) else s.unit v).state = (s.unit v).state ∧
      (if v = u then f (s.unit u) else s.unit v).attention = (s.unit v).attention ∧
      (if v = u then f (s.unit u) else s.unit v).pressLow.value = (s.unit v).pressLow.value := fun v => by
    split
    · next e => subst e; exact ⟨hc.1.1.symm, hc.1.2.symm, hc.2.symm⟩
    · exact ⟨rfl, rfl, rfl⟩
  simp only [State.summary, unit, reads]
  rfl

theorem summaryMarked_modBranch (s : State) (b : BranchId) (f : Branch → Branch) (q : PortId) :
    SummaryMarked q s (s.modBranch b f) := by
  refine summaryMarked_touchIf q rfl fun hc => ?_
  have branch : ∀ c, ({ s with branches := s.branches.set b (f (s.branch b)) } : State).branch c =
      if c = b then f (s.branch b) else s.branch c := fun c => by
    simpa only [State.branch, State.modBranch_branches] using s.branch_modBranch b c f
  have reads : ∀ c, (if c = b then f (s.branch b) else s.branch c).roundCounter = (s.branch c).roundCounter := fun c => by
    split
    · next e => subst e; exact (bne_eq_false_iff_eq.mp hc).symm
    · rfl
  simp only [State.summary, branch, reads]
  rfl

theorem summaryMarked_modPort (s : State) (p : PortId) {f : Port → Port} (q : PortId)
    (hf : (s.port p).summaryChanged = true → (f (s.port p)).summaryChanged = true) :
    SummaryMarked q s (s.modPort p f) := by
  cases hc : (s.port p).alertChanged (f (s.port p))
  · by_cases hq : q = p ∧ (f (s.port p)).summaryChanged = true
    · obtain ⟨rfl, hq⟩ := hq
      exact .inl (by rw [State.port_modPort]; simp [hq])
    · simp only [Port.alertChanged, Bool.or_eq_false_iff, bne_eq_false_iff_eq] at hc
      refine .inr ⟨summary_ext ?_ ?_ ?_ ?_ ?_ ?_ (fun r => ?_) ?_, ?_⟩ <;> try simp
      · rw [State.port_modPort]; split
        · next e => subst e; exact ⟨hc.1.symm, hc.2.symm⟩
        · exact ⟨rfl, rfl⟩
      · rw [State.port_modPort]; split
        · next e => subst e; simp [Port.alertChanged, hc] at hq ⊢; grind
        · simp [Port.alertChanged, hc]
  · exact .inl (by rw [State.port_modPort, hc]; split <;> rfl)

/-- A write that leaves what stands behind the summary, and the ports. -/
theorem SummaryMarked.plain {s t : State} (q : PortId) (h : t.summary = s.summary) (hp : t.port q = s.port q) :
    SummaryMarked q s t := .inr ⟨h, by rw [hp]⟩

theorem Work.summaryMarked {s t : State} (w : Work s t) (q : PortId) : SummaryMarked q s t := by
  induction w with
  | start => exact .refl q s
  | door i f _ _ ih => exact ih.trans (summaryMarked_modDoor _ i f q)
  | unit u f _ _ ih => exact ih.trans (summaryMarked_modUnit _ u f q)
  | branch b f _ _ ih => exact ih.trans (summaryMarked_modBranch _ b f q)
  | port p f _ x ih => exact ih.trans (summaryMarked_modPort _ p q x.summary)
  | outputs _ ih =>
    refine ih.trans (summaryMarked_touchIf q rfl fun hc => summary_ext rfl rfl rfl rfl ?_ rfl (fun _ => ⟨rfl, rfl⟩) rfl)
    exact (bne_eq_false_iff_eq.mp hc).symm
  | holds h _ _ ih =>
    refine ih.trans (summaryMarked_touchIf q rfl fun hc => summary_ext ?_ rfl rfl rfl rfl rfl (fun _ => ⟨rfl, rfl⟩) rfl)
    exact (bne_eq_false_iff_eq.mp hc).symm
  | store f _ _ ih =>
    refine ih.trans (summaryMarked_touchIf q rfl fun hc => summary_ext rfl rfl rfl rfl rfl rfl (fun _ => ⟨rfl, rfl⟩) ?_)
    exact (bne_eq_false_iff_eq.mp (Bool.or_eq_false_iff.mp hc).1).symm
  | plainStore x _ _ e ih =>
    exact ih.trans (.plain q (summary_ext rfl rfl rfl rfl rfl rfl (fun _ => ⟨rfl, rfl⟩) e) rfl)
  | closeAll | cutoffReleased => exact .inl (by simp)
  | cycles i _ ih =>
    exact ih.trans (.inr ⟨by simp [State.summary, State.leaveCycles, State.unit, State.branch], by simp [State.leaveCycles]⟩)
  | settingsHold | clock | sync | freeCount =>
    rename_i ih; exact ih.trans (.plain q rfl rfl)

theorem Special.summaryMarked {c : Instr} {s t : State} (x : Special c s t) (q : PortId) : SummaryMarked q s t := by
  cases x with
  | door i f _ _ => exact summaryMarked_modDoor s i f q
  | unit u f _ => exact summaryMarked_modUnit s u f q
  | branch b f _ _ => exact summaryMarked_modBranch s b f q
  | role p r _ _ => exact summaryMarked_modPort s p q id
  | enable p => exact summaryMarked_modPort s p q fun _ => rfl
  | disable p => exact summaryMarked_modPort s p q id
  | store => exact .plain q rfl rfl
  | line m a _ =>
    refine summaryMarked_touchIf q rfl fun hc => summary_ext ?_ rfl rfl rfl rfl rfl (fun _ => ⟨rfl, rfl⟩) rfl
    exact (bne_eq_false_iff_eq.mp hc).symm
  | cutoff => exact .inl (by simp)

theorem Chain.summaryMarked {c : Instr} {s t : State} (h : Chain c s t) (q : PortId) : SummaryMarked q s t := by
  obtain w | ⟨m, n, w, x, w'⟩ := h
  · exact w.summaryMarked q
  · exact ((w.summaryMarked q).trans (x.summaryMarked q)).trans (w'.summaryMarked q)

/-! ### A step -/

/-- R168: every change from `s` to `t` is marked at a port. -/
structure ChangesMarked (q : PortId) (s t : State) : Prop where
  doors : ∀ i, (s.door i).counts (s.port q).lastReported[i] (t.door i) = true → i ∈ (t.port q).changed
  summary : t.summary ≠ s.summary → (t.port q).summaryChanged = true

theorem ChangesMarked.same {q : PortId} {s t : State} (hd : t.doors = s.doors) (hs : t.summary = s.summary) :
    ChangesMarked q s t := by
  refine ⟨fun i hi => ?_, fun h => absurd hs h⟩
  have : t.door i = s.door i := by simp [State.door, hd]
  rw [this, Door.counts_self] at hi; cases hi

theorem Chain.changesMarked {c : Instr} {s t : State} (h : Chain c s t) (q : PortId) : ChangesMarked q s t :=
  ⟨h.doorsMarked q, fun hs => (h.summaryMarked q).elim id fun ⟨e, _⟩ => absurd e hs⟩

theorem Work.reportsEnabled {s t : State} (w : Work s t) (q : PortId) :
    (t.port q).reportsEnabled = (s.port q).reportsEnabled := by
  induction w with
  | start => rfl
  | door i f _ _ ih => rw [(onlyDoors_modDoor _ i f).ports q]; exact ih
  | unit u f _ _ ih => rw [(onlyDoors_modUnit _ u f).ports q]; exact ih
  | branch b f _ _ ih => rw [(onlyLinks_modBranch _ b f).ports q]; exact ih
  | port p f _ x ih =>
    rw [State.port_modPort]; split
    · next e => subst e; exact x.reportsEnabled.trans ih
    · exact ih
  | cycles i _ ih => simpa [State.leaveCycles] using ih
  | outputs _ ih => simp only [State.evalOutputs, State.port_touchIf]; exact ih
  | holds _ _ _ ih => rw [State.port_touchIf]; exact ih
  | store f _ _ ih => rw [port_modStore]; exact ih
  | closeAll _ _ ih | cutoffReleased _ ih => rw [State.port_touchSummary]; exact ih
  | settingsHold _ _ ih | clock _ _ _ ih | sync _ _ ih | plainStore _ _ _ _ ih | freeCount _ _ ih => exact ih

/-- R167: a port with reports enabled has every mark behind a warm restart. -/
theorem changesMarked_restart {q : PortId} {s m t : State} (w : Work s m)
    (w' : Work (m.mapPorts fun _ q => q.restarted m.installedDoors m.runCount) t)
    (hq : (t.port q).reportsEnabled = true) : ChangesMarked q s t := by
  have enabled : (m.port q).reportsEnabled = true := by
    simpa [w'.reportsEnabled q, Port.restarted] using hq
  have all : AllMarked q (m.mapPorts fun _ q => q.restarted m.installedDoors m.runCount) := fun i hi => by
    have : (m.door i).installed = true := by simpa using hi
    simpa [Port.restarted, enabled, mem_installedDoors] using this
  refine ⟨fun i hi => all.counted w rfl w' i hi, fun _ => (w'.summaryMarked q).flagged ?_⟩
  simp [Port.restarted, enabled]

theorem changesMarked_exec {c : Instr} {q : PortId} {s t : State} (hc : NoPowerOn c) (h : exec c s = .next t)
    (hq : s.store.restartPending = none ∨ t.store.restartPending ≠ none ∨ (t.port q).reportsEnabled = true) :
    ChangesMarked q s t := by
  cases exec_leads hc h with
  | chain x => exact x.changesMarked q
  | restart m hs w w' ht =>
    exact changesMarked_restart w w' (hq.elim (fun e => absurd e hs) fun k => k.elim (absurd ht) id)
  | report p e =>
    subst e
    refine .same (by simp [State.beginReport]) (summary_ext ?_ ?_ ?_ ?_ ?_ ?_ (fun r => ?_) ?_) <;>
      try simp [State.beginReport]
    rw [State.port_modPort]; split
    · next e => subst e; exact ⟨rfl, rfl⟩
    · exact ⟨rfl, rfl⟩
  | supplyLost e => subst e; exact .same rfl rfl

theorem changesMarked_step {q : PortId} {s t : State} (h : step s = .next t)
    (hp : ∀ k a o l y rest, s.pending ≠ .powerOn k a o l y :: rest)
    (hq : s.store.restartPending = none ∨ t.store.restartPending ≠ none ∨ (t.port q).reportsEnabled = true) :
    ChangesMarked q s t := by
  obtain ⟨c, rest, e, h⟩ | ⟨_, ⟨x, hx, w⟩ | e | e⟩ := step_leads h
  · have marked : ChangesMarked q { s with pending := rest } t :=
      changesMarked_exec (fun k a o l y hc => hp k a o l y rest (hc ▸ e)) h hq
    exact ⟨marked.doors, marked.summary⟩
  · have marked := (w .lossOfSupply).changesMarked q
    rw [hx] at marked
    exact ⟨marked.doors, marked.summary⟩
  · rw [e]; exact .same rfl rfl
  · subst e
    refine .same rfl ?_
    have unit : ∀ u, s.tick.unit u = { s.unit u with pressLow := (s.unit u).pressLow.sample (s.runCount + 1) } := fun u => by
      match u with
      | 0 => rfl
      | 1 => rfl
      | 2 => rfl
      | 3 => rfl
    simp only [State.summary, unit]
    rfl

/-! ### The order of a changed-door set -/

theorem insertDoor_sorted {i : DoorId} {l : List DoorId} (h : l.Pairwise (· < ·)) :
    (insertDoor i l).Pairwise (· < ·) := by
  induction l with
  | nil => simp [insertDoor]
  | cons j l ih =>
    obtain ⟨hj, hl⟩ := List.pairwise_cons.mp h
    simp only [insertDoor]
    split
    · next hi =>
      refine List.pairwise_cons.mpr ⟨fun k hk => ?_, h⟩
      obtain rfl | hk := List.mem_cons.mp hk
      · exact hi
      · exact hi.trans (hj k hk)
    · split
      · exact h
      · next hi hn =>
        refine List.pairwise_cons.mpr ⟨fun k hk => ?_, ih hl⟩
        obtain rfl | hk := (mem_insertDoor i k l).mp hk
        · exact lt_of_le_of_ne (not_lt.mp hi) (Ne.symm hn)
        · exact hj k hk

/-- The changed-door set of the port stands in ascending order, with no door twice. -/
def ChangedSorted (q : PortId) (s : State) : Prop := (s.port q).changed.Pairwise fun i j => i < j

theorem installedDoors_sorted (s : State) : s.installedDoors.Pairwise fun i j => i < j := by
  simpa only [State.installedDoors, State.doorsWhere, doorIds] using (List.pairwise_lt_finRange 48).filter _

theorem changedSorted_modPort {s : State} {q : PortId} (p : PortId) {f : Port → Port} (h : ChangedSorted q s)
    (hf : q = p → ((s.port p).changed.Pairwise fun i j => i < j) → (f (s.port p)).changed.Pairwise fun i j => i < j) :
    ChangedSorted q (s.modPort p f) := by
  simp only [ChangedSorted, State.port_modPort]
  split
  · next e => exact hf e (e ▸ h)
  · exact h

theorem changedSorted_modDoor {s : State} {q : PortId} (i : DoorId) (f : Door → Door) (h : ChangedSorted q s) :
    ChangedSorted q (s.modDoor i f) := by
  simp only [ChangedSorted, port_modDoor]
  split
  · exact insertDoor_sorted h
  · exact h

/-- A write that leaves the ports but for the summary changed flags. -/
theorem changedSorted_touchIf {s t : State} {q : PortId} (hp : t.ports = s.ports) (c : Bool) (h : ChangedSorted q s) :
    ChangedSorted q (t.touchIf c) := by
  have port : t.port q = s.port q := by simp [State.port, hp]
  simp only [ChangedSorted, State.port_touchIf, port]; exact h

theorem Work.changedSorted {s t : State} {q : PortId} (w : Work s t) (h : ChangedSorted q s) : ChangedSorted q t := by
  induction w with
  | start => exact h
  | door i f _ _ ih => exact changedSorted_modDoor i f ih
  | port p f _ x ih => exact changedSorted_modPort p ih fun _ hc => by rwa [x.changed]
  | settingsHold _ _ ih | clock _ _ _ ih | sync _ _ ih | plainStore _ _ _ _ ih | freeCount _ _ ih => exact ih
  | cycles i _ ih => simpa [ChangedSorted, State.leaveCycles] using ih
  | unit | branch | holds | store | outputs => rename_i ih; exact changedSorted_touchIf (by rfl) _ ih
  | closeAll | cutoffReleased =>
    rename_i ih; exact changedSorted_touchIf (by rfl) true ih

theorem keptChangedSorted (q : PortId) : KeptByWrites AnyCommand (ChangedSorted q) where
  queues _ _ h := h
  work w h := w.changedSorted h
  special {c s t} _ x h := by
    cases x with
    | door i f _ _ => exact changedSorted_modDoor i f h
    | role p r _ _ => exact changedSorted_modPort p h fun _ => id
    | enable p => exact changedSorted_modPort p h fun _ _ => installedDoors_sorted s
    | disable p => exact changedSorted_modPort p h fun _ => id
    | store => exact h
    | unit | branch | line => exact changedSorted_touchIf (by rfl) _ h
    | cutoff => exact changedSorted_touchIf (by rfl) true h
  ports {s} _ := by
    simp only [ChangedSorted, State.port_mapPorts, Port.restarted]
    split
    · exact installedDoors_sorted s
    · exact .nil
  report p h := changedSorted_modPort p h fun _ hc => hc.filter _
  supplyLost h := h
  powerOn _ _ := by simp [ChangedSorted, State.port_built, Port.powerOn]

/-- Settles O47: each single write marks what it changes, and the marks last over the chain that a step is. -/
theorem everyChangeIsMarkedForTheReports : Obligations.EveryChangeIsMarkedForTheReports := by
  refine ⟨fun s t h hp q hq => ?_, fun s t h q => (keptChangedSorted q).everyStep id h, fun s q i j f => ?_⟩
  · have marked := changesMarked_step h (fun k a o l y rest => hp k a o l y rest) hq
    refine ⟨fun i hi hc => marked.doors i ?_, fun hc => marked.summary fun e => ?_⟩
    · simp only [Door.counts, Door.sameReport, Bool.and_eq_true, Bool.or_eq_true, bne_iff_ne, Bool.not_eq_true',
        Bool.and_eq_false_iff, beq_eq_false_iff_ne, positionJoins_iff]
      refine ⟨hi, ?_⟩
      grind
    · simp only [State.summary, Prod.mk.injEq, funext_iff] at e
      grind
  · rw [mem_changed_modDoor]
    simp only [Door.counts, Bool.and_eq_true, Bool.or_eq_true, bne_iff_ne, Bool.not_eq_true', positionJoins_iff, ne_comm]

end Sys2Proof.Machine
end

section
/-! SUPPORT. The step itself: the command that it takes, what it does when none waits, and which events are due. -/

namespace Sys2Proof.Machine

variable {s : State}

/-! ### Commands -/

/-- Every command answers a next state: a D48 without supply takes none, and POWER_ON is taken always. -/
theorem exec_next (c : Instr) (s : State) : ∃ t, exec c s = .next t := by
  cases c <;> exact ⟨_, rfl⟩

theorem step_cons {c : Instr} {rest : List Instr} (h : s.pending = c :: rest) :
    step s = exec c { s with pending := rest } := by
  simp only [step, h]

/-- Settles O1: by the step's own equation, and a next state for each command. -/
theorem stepTakesFrontCommand : Obligations.StepTakesFrontCommand := fun s c =>
  ⟨fun _ h => step_cons h, exec_next c s⟩

/-! ### What is due -/

theorem mem_when {b : Bool} {c d : Instr} : c ∈ when b d ↔ c = d ∧ b = true := by
  cases b <;> simp [when]

theorem expired_iff {now : Nat} {x : Option Nat} : expired now x = true ↔ ∃ e, x = some e ∧ e ≤ now := by
  simp [expired, Option.any_eq_true]

theorem Input.changes_iff {x : Input} {now wait : Nat} :
    x.changes now wait = true ↔ ∃ e, x.since = some e ∧ e + wait ≤ now := by
  simp [Input.changes, Option.any_eq_true]

theorem mem_dueEvents (c : Instr) :
    c ∈ s.dueEvents ↔ (∃ p, c ∈ s.portEvents p) ∨ (∃ b, c ∈ s.branchEvents b) ∨ (∃ i, c ∈ s.doorEvents i) ∨
      (∃ u, c ∈ s.unitEvents u) ∨ c ∈ s.deviceEvents := by
  simp [State.dueEvents, portIds, branchIds, doorIds, unitIds]

/-! The conditions of the events, said by the records they are read from. -/

theorem refreshIsDue_iff (p : PortId) :
    s.refreshIsDue p = true ↔ ∃ e, (s.port p).reportsEnabled = true ∧ (s.port p).refreshCycle = none ∧
      (s.port p).refreshStart = some e ∧
      e + (if ∃ i, (s.door i).installed = true ∧ (s.door i).unacked ≠ 0 then (s.port p).refreshPeriod * 1000 / 2
        else (s.port p).refreshPeriod * 1000) ≤ s.runCount := by
  have unacked : s.anyUnacked = true ↔ ∃ i, (s.door i).installed = true ∧ (s.door i).unacked ≠ 0 := by
    simp [State.anyUnacked, doorIds]
  simp only [State.refreshIsDue, State.effectivePeriod, unacked, Bool.and_eq_true, Option.isNone_iff_eq_none,
    Option.any_eq_true, decide_eq_true_eq, and_assoc, exists_and_left]

theorem reportReady_iff (q : Port) (now : Nat) :
    q.reportReady now = true ↔ q.reportsEnabled = true ∧
      (q.changed ≠ [] ∨ q.summaryChanged = true ∨ q.refreshCycle ≠ none) ∧
      ∀ e, q.lastReport = some e → e + q.governingSpacing ≤ now := by
  simp [Port.reportReady, Port.reportDue, Option.isSome_iff_ne_none, Option.all_eq_true, or_assoc, and_assoc]

theorem transmitterFree_iff (q : Port) : q.transmitterFree = true ↔ q.sending = none ∧ q.queue = [] := by
  simp [Port.transmitterFree]

theorem delayOver_iff (x : Option Request) (now : Nat) :
    (x.any fun r => match r.wait with
      | some (.delay e) => e ≤ now
      | _ => false) = true ↔ ∃ r, x = some r ∧ ∃ e, r.wait = some (.delay e) ∧ e ≤ now := by
  rw [Option.any_eq_true]
  refine exists_congr fun r => and_congr_right fun _ => ?_
  rcases r.wait with _ | _ | _ <;> simp

theorem reversalDue_iff (d : Door) (now : Nat) :
    (match d.state with
      | .reversing dir => !d.mustWait dir now
      | _ => false) = true ↔ ∃ dir, d.state = .reversing dir ∧ d.mustWait dir now = false := by
  cases d.state <;> simp

theorem unitTimerDue_iff (u : UnitId) (st : UnitState) :
    s.unitTimerDue u st = true ↔ ∃ e, (s.unit u).timer = some e ∧ e ≤ s.runCount ∧ (s.unit u).state = st := by
  simp only [State.unitTimerDue, Bool.and_eq_true, decide_eq_true_eq, Option.any_eq_true]
  tauto

theorem mem_portEvents (c : Instr) (p : PortId) :
    c ∈ s.portEvents p ↔
      (∃ e, c = .silenceTimeout p ∧ (s.port p).silenceTimer = some e ∧ e ≤ s.runCount) ∨
      (∃ r e, c = .delayExpiry p ∧ (s.port p).request = some r ∧ r.wait = some (.delay e) ∧ e ≤ s.runCount) ∨
      (∃ e, c = .refreshDue p ∧ (s.port p).reportsEnabled = true ∧ (s.port p).refreshCycle = none ∧
        (s.port p).refreshStart = some e ∧
        e + (if ∃ i, (s.door i).installed = true ∧ (s.door i).unacked ≠ 0 then (s.port p).refreshPeriod * 1000 / 2
          else (s.port p).refreshPeriod * 1000) ≤ s.runCount) ∨
      (c = .responseSend p ∧ (s.port p).sending = none ∧ (s.port p).queue ≠ []) ∨
      (c = .reportSend p ∧ (s.port p).sending = none ∧ (s.port p).queue = [] ∧ (s.port p).reportsEnabled = true ∧
        ((s.port p).changed ≠ [] ∨ (s.port p).summaryChanged = true ∨ (s.port p).refreshCycle ≠ none) ∧
        ∀ e, (s.port p).lastReport = some e → e + (s.port p).governingSpacing ≤ s.runCount) := by
  simp only [State.portEvents, List.mem_append, mem_when, or_assoc, exists_and_left]
  refine or_congr (and_congr_right fun _ => expired_iff) (or_congr (and_congr_right fun _ => delayOver_iff _ _)
    (or_congr (and_congr_right fun _ => ?_) (or_congr (and_congr_right fun _ => ?_) (and_congr_right fun _ => ?_))))
  · simpa only [exists_and_left] using refreshIsDue_iff p
  · simp
  · rw [Bool.and_eq_true, reportReady_iff, transmitterFree_iff, and_comm, and_assoc]

theorem mem_branchEvents (c : Instr) (b : BranchId) :
    c ∈ s.branchEvents b ↔
      (∃ e, c = .roundTimerExpiry b ∧ (s.branch b).enable = true ∧ (s.branch b).exchange = none ∧
        (s.branch b).roundTimer = some e ∧ e ≤ s.runCount) ∨
      (∃ x, c = .replyDeadline b ∧ (s.branch b).exchange = some x ∧ x.deadline ≤ s.runCount) := by
  simp only [State.branchEvents, List.mem_append, mem_when, State.roundDue, Bool.and_eq_true, Option.any_eq_true,
    Option.isNone_iff_eq_none, decide_eq_true_eq, exists_and_left, and_assoc]

theorem mem_doorEvents (c : Instr) (i : DoorId) :
    c ∈ s.doorEvents i ↔
      (∃ dir, c = .reversalInstant i ∧ (s.door i).state = .reversing dir ∧
        (s.door i).mustWait dir s.runCount = false) ∨
      (∃ l, c = .leadInExpiry i ∧ (s.door i).state = .warning ∧ (s.door i).leadIn = some l ∧ l.expiry ≤ s.runCount) ∨
      (∃ e, c = .recloseTimerExpiry i ∧ (s.door i).state = .recloseWait ∧ (s.door i).reclose = some e ∧
        e ≤ s.runCount) ∨
      (∃ e, c = .tailExpiry i ∧ (s.door i).tail = some e ∧ e ≤ s.runCount) ∨
      (∃ e, c = .signalTestExpiry i ∧ (s.door i).test = some e ∧ e ≤ s.runCount) := by
  simp only [State.doorEvents, List.mem_append, mem_when, Bool.and_eq_true, decide_eq_true_eq, expired_iff,
    exists_and_left, or_assoc]
  refine or_congr (and_congr_right fun _ => reversalDue_iff _ _) (or_congr (and_congr_right fun _ => ?_) .rfl)
  simp

theorem mem_unitEvents (c : Instr) (u : UnitId) :
    c ∈ s.unitEvents u ↔
      (∃ e, (s.unit u).timer = some e ∧ e ≤ s.runCount ∧
        (c = .ageTimerExpiry u ∧ (s.unit u).state = .gathering ∨ c = .startTimerExpiry u ∧ (s.unit u).state = .starting ∨
          c = .holdoffTimerExpiry u ∧ (s.unit u).state = .idling)) ∨
      (∃ e, c = .pressLowChange u (!(s.unit u).pressLow.value) ∧ (s.unit u).pressLow.since = some e ∧
        e + 50 ≤ s.runCount) := by
  simp only [State.unitEvents, List.mem_append, mem_when, unitTimerDue_iff, Input.changes_iff, Config.debounceMs]
  grind

theorem mem_deviceEvents (c : Instr) :
    c ∈ s.deviceEvents ↔
      (∃ e, s.cutoff.since = some e ∧
        (c = .driveCutoffActive ∧ s.cutoff.value = false ∧ e ≤ s.runCount ∨
          c = .driveCutoffRelease ∧ s.cutoff.value = true ∧ e + 50 ≤ s.runCount)) ∨
      (∃ e, c = .closeAllChange (!s.closeAll.value) ∧ s.closeAll.since = some e ∧ e + 50 ≤ s.runCount) ∨
      (c = .syncInEdge ∧ s.sync.edge = true) ∨
      (∃ e, c = .trimStep ∧ s.clock.trimTimer = some e ∧ e ≤ s.runCount) ∨
      (∃ v, c = .saveCompletion ∧ s.store.saving = some v ∧ v.completion ≤ s.runCount) := by
  simp only [State.deviceEvents, List.mem_append, mem_when, expired_iff, Input.changes_iff, Config.debounceMs,
    Bool.and_eq_true, Bool.not_eq_true', Option.any_eq_true, decide_eq_true_eq, exists_and_left, or_assoc]
  rw [← or_assoc]
  exact or_congr (by grind) .rfl

/-- Settles O3: block by block, each event by its own condition. -/
theorem dueEventsAreThoseOfTimersAndInputs : Obligations.DueEventsAreThoseOfTimersAndInputs := fun s c => by
  simp only [mem_dueEvents, mem_portEvents, mem_branchEvents, mem_doorEvents, mem_unitEvents, mem_deviceEvents,
    exists_or, or_assoc]

/-! ### A step with no command waiting -/

theorem step_idle (h : s.pending = []) : step s = .next s.idle := by
  simp only [step, h]

theorem idle_of_choice (hp : s.powered = true) {c : Choice} (h : s.choice = some c) :
    s.idle = { s with schedule := s.schedule.tail }.take c := by
  simp only [State.idle, hp, h, if_true]

theorem choices_eq_nil_iff : s.choices = [] ↔ (∀ p, (s.port p).ready = false) ∧ s.dueEvents = [] := by
  constructor
  · intro h
    refine ⟨fun p => ?_, List.eq_nil_iff_forall_not_mem.mpr fun c hc => ?_⟩
    · by_contra hr
      have := (item_mem_choices (s := s) p).mpr (by simpa using hr)
      simp [h] at this
    · have := (event_mem_choices c).mpr hc
      simp [h] at this
  · rintro ⟨hr, hd⟩
    refine List.eq_nil_iff_forall_not_mem.mpr fun c hc => ?_
    cases c with
    | item p => simpa [hr p] using (item_mem_choices p).mp hc
    | event c => simpa [hd] using (event_mem_choices c).mp hc

theorem State.unit_tick (s : State) (u : UnitId) :
    s.tick.unit u = { s.unit u with pressLow := (s.unit u).pressLow.sample (s.runCount + 1) } := by
  match u with
  | 0 => rfl
  | 1 => rfl
  | 2 => rfl
  | 3 => rfl

/-- R18: with nothing to take a millisecond passes. -/
theorem step_tick (h : s.pending = []) (hp : s.powered = true) (hr : ∀ p, (s.port p).ready = false)
    (hd : s.dueEvents = []) : step s = .next s.tick := by
  have none : s.choice = none := choice_eq_none.mpr (choices_eq_nil_iff.mpr ⟨hr, hd⟩)
  rw [step_idle h]
  simp only [State.idle, hp, none, if_true]

/-- R165: with something to take, an item or an event that may be taken is. -/
theorem step_takes (h : s.pending = []) (hp : s.powered = true)
    (hc : (∃ p, (s.port p).ready = true) ∨ s.dueEvents ≠ []) :
    (∃ p, (s.port p).ready = true ∧ step s = .next ({ s with schedule := s.schedule.tail }.goOn p)) ∨
      ∃ c ∈ s.dueEvents, step s = .next { s with pending := [c], schedule := s.schedule.tail } := by
  have some : s.choice ≠ none := fun e => by
    obtain ⟨hr, hd⟩ := choices_eq_nil_iff.mp (choice_eq_none.mp e)
    obtain ⟨p, hp⟩ | hd' := hc
    · simp [hr p] at hp
    · exact hd' hd
  obtain ⟨c, e⟩ := Option.ne_none_iff_exists'.mp some
  rw [step_idle h, idle_of_choice hp e]
  cases c with
  | item p => exact .inl ⟨p, (item_mem_choices p).mp (choice_mem e), rfl⟩
  | event c => exact .inr ⟨c, (event_mem_choices c).mp (choice_mem e), rfl⟩

/-- Assumption 2: each choice is made for some number of the schedule. -/
theorem step_takes_each (h : s.pending = []) (hp : s.powered = true) {c : Choice} (hc : c ∈ s.choices) :
    ∃ k, ∀ rest, step { s with schedule := k :: rest } = .next ({ s with schedule := rest }.take c) := by
  obtain ⟨k, hk⟩ := choice_reached hc
  exact ⟨k, fun rest => by rw [step_idle (by exact h), idle_of_choice (by exact hp) (hk rest)]; rfl⟩

/-! ### Samples -/

theorem sampledFrom_line (x : Input) (first n : Nat) :
    (x.sampledFrom first n).line = x.line ∧ (x.sampledFrom first n).value = x.value := by
  induction n with
  | zero => exact ⟨rfl, rfl⟩
  | succ n ih => exact ih

theorem sampledFrom_settled {x : Input} (h : x.line = x.value) (first n : Nat) :
    x.sampledFrom first (n + 1) = { x with since := none } := by
  obtain ⟨hl, hv⟩ := sampledFrom_line x first n
  simp only [Input.sampledFrom, Input.sample, hl, hv, h, if_true]

/-- R174: the first of the samples that differ stands as the instant from which the input has stood at its level. -/
theorem sampledFrom_differing {x : Input} (h : x.line ≠ x.value) (hs : x.since = none) (first n : Nat) :
    x.sampledFrom first (n + 1) = { x with since := some first } := by
  induction n with
  | zero => simp [Input.sampledFrom, Input.sample, h, hs]
  | succ n ih => rw [Input.sampledFrom, ih]; simp [Input.sample, h]

/-- R80, R119, R135: when the change of an input that differs since `first` is due. -/
theorem changes_differing {x y : Input} {first n wait : Nat} (hy : y = { x with since := some first }) :
    y.changes (first + n) wait = true ↔ wait ≤ n := by
  simp [hy, Input.changes]

theorem pressLowChange_mem {u : UnitId} {a : Bool} :
    .pressLowChange u a ∈ s.dueEvents ↔
      a = !(s.unit u).pressLow.value ∧ (s.unit u).pressLow.changes s.runCount 50 = true := by
  rw [mem_dueEvents]
  simp [mem_portEvents, mem_branchEvents, mem_doorEvents, mem_unitEvents, mem_deviceEvents, Input.changes_iff]

theorem closeAllChange_mem {a : Bool} :
    .closeAllChange a ∈ s.dueEvents ↔ a = !s.closeAll.value ∧ s.closeAll.changes s.runCount 50 = true := by
  rw [mem_dueEvents]
  simp [mem_portEvents, mem_branchEvents, mem_doorEvents, mem_unitEvents, mem_deviceEvents, Input.changes_iff]

theorem driveCutoffActive_mem :
    .driveCutoffActive ∈ s.dueEvents ↔ s.cutoff.value = false ∧ s.cutoff.changes s.runCount 0 = true := by
  rw [mem_dueEvents]
  simp [mem_portEvents, mem_branchEvents, mem_doorEvents, mem_unitEvents, mem_deviceEvents, Input.changes_iff]
  tauto

theorem driveCutoffRelease_mem :
    .driveCutoffRelease ∈ s.dueEvents ↔ s.cutoff.value = true ∧ s.cutoff.changes s.runCount 50 = true := by
  rw [mem_dueEvents]
  simp [mem_portEvents, mem_branchEvents, mem_doorEvents, mem_unitEvents, mem_deviceEvents, Input.changes_iff]
  tauto

/-! ### The run count -/

theorem Work.runCount {s t : State} (w : Work s t) : t.runCount = s.runCount := by
  induction w with
  | start => rfl
  | _ => rename_i ih; simpa [State.leaveCycles] using ih

theorem keptRunCount (n : Nat) : KeptByWrites NoPowerOn (·.runCount = n) where
  queues _ _ h := h
  work w h := w.runCount.trans h
  special _ x h := by cases x <;> simpa [State.enableReports, State.disableReports] using h
  ports h := h
  report _ h := by simpa [State.beginReport] using h
  supplyLost h := h
  powerOn hc _ := absurd rfl (hc _ _ _ _ _)

/-- R18, R184: a power-on starts the run count anew. -/
theorem runCount_exec_powerOn {t : State} {k a o : Bool} {l : BitVec 4} {y : Bool}
    (h : exec (.powerOn k a o l y) s = .next t) : t.runCount = 0 := by
  obtain ⟨_, _, _, _, w⟩ := exec_powerOn_work h
  exact w.runCount

/-- Settles O2: the choice that an idle step makes, the samples by induction on their number, and the run count by the
writes of a command. -/
theorem idleStepsTakeWhatMayBeTaken : Obligations.IdleStepsTakeWhatMayBeTaken := fun s => by
  refine ⟨fun h hp => ⟨fun hr hd => ?_, step_takes h hp, fun p hr => ?_, fun c hc => ?_⟩, fun x y u first n hy => ⟨?_, ?_⟩,
    fun c t h => ⟨?_, fun hc => (keptRunCount s.runCount).execKeeps hc h rfl⟩⟩
  · exact ⟨s.tick, step_tick h hp hr hd, rfl, rfl, rfl, s.unit_tick, rfl, rfl, rfl⟩
  · exact step_takes_each h hp ((item_mem_choices p).mpr hr)
  · exact step_takes_each h hp ((event_mem_choices c).mpr hc)
  · exact fun e => hy ▸ sampledFrom_settled e first n
  · intro hne hs _ hn
    have hy' := hy.trans (sampledFrom_differing hne hs first n)
    have opposite : x.line = !x.value := by cases h : x.line <;> cases h' : x.value <;> simp_all
    have due : ∀ wait, y.changes s.runCount wait = true ↔ wait ≤ n := fun wait => hn ▸ changes_differing hy'
    have value : y.value = x.value := by rw [hy']
    refine ⟨hy', ?_, fun e => ?_, fun e => ?_, fun e => ⟨fun hl => ?_, fun hl => ?_⟩⟩
    · simp [hy', Input.sample]
    · rw [pressLowChange_mem, ← e, due, value]; simp [opposite]
    · rw [closeAllChange_mem, ← e, due, value]; simp [opposite]
    · rw [driveCutoffActive_mem, ← e, due, value]; simp_all
    · rw [driveCutoffRelease_mem, ← e, due, value]; simp_all
  · rintro ⟨k, a, o, l, y, rfl⟩
    exact runCount_exec_powerOn h

/-! ### Reset -/

@[simp] theorem State.door_reset (i : DoorId) : State.reset.door i = Door.powerOn DoorImage.defaults := by
  simp [State.door, State.reset]

@[simp] theorem State.unit_reset (u : UnitId) : State.reset.unit u = PowerUnit.powerOn UnitImage.defaults false := by
  simp [State.unit, State.reset]

@[simp] theorem State.branch_reset (b : BranchId) :
    State.reset.branch b = { Branch.powerOn BranchImage.defaults with roundCounter := 1, roundTimer := some 100 } := by
  simp [State.branch, State.reset]

theorem State.port_reset (p : PortId) :
    (State.reset.port p).request = none ∧ (State.reset.port p).attention = false ∧
      State.reset.holds.console[p] = 0 := by
  match p with
  | 0 => exact ⟨rfl, rfl, rfl⟩
  | 1 => exact ⟨rfl, rfl, rfl⟩
  | 2 => exact ⟨rfl, rfl, rfl⟩

theorem reset_held (z : ZoneId) : State.reset.held z = false := by
  have : State.reset.holds.union = 0 := rfl
  simp [State.held, this, zoneIn]

theorem reset_admissionLawful : State.reset.AdmissionLawful := by
  refine ⟨fun i => ?_, fun u => ?_⟩
  · simp [State.entryOf, Door.powerOn, PowerUnit.powerOn, DoorState.hasStroke, DoorState.waitsFor]
  · simp [Door.powerOn, PowerUnit.powerOn, DoorState.hasStroke]

theorem reset_motionLawful : State.reset.MotionLawful := by
  refine ⟨fun i => ?_, fun u => ?_, fun p _ => (State.port_reset p).2.2⟩
  · simp [Door.Lawful, Door.powerOn, Indication.restState]
  · simp [PowerUnit.powerOn]

theorem reset_outputsHold : State.reset.OutputsHold := by
  have fault : State.reset.faultOut = true := by simp [State.faultOut, State.reset]
  have closure : State.reset.closureOut = false := rfl
  have allClosed : State.reset.allClosedOut = false := by simp [State.allClosedOut, closure]
  rw [State.OutputsHold, fault, closure, allClosed]
  rfl

/-- Settles O4: block by block from the values of a power-on. -/
theorem resetIsLawful : Obligations.ResetIsLawful := by
  refine ⟨fun i => ?_, ?_, fun h => ?_, fun b => ?_, reset_admissionLawful, reset_motionLawful, ⟨?_, ?_, ?_⟩,
    ⟨rfl, fun p => ?_⟩, reset_outputsHold⟩
  · simp [Door.powerOn]
  · simp [State.ClockLawful, State.reset, Clock.powerOn, Stamp.Legal, Config.dayCount, Config.dayMs]
  · cases h
  · simp [State.link, Branch.powerOn]
  · intro i j _ hi
    simp [Door.powerOn, DoorImage.defaults] at hi
  · intro m hm; cases hm
  · intro v hv; cases hv
  · simp [Port.ready, (State.port_reset p).1]

end Sys2Proof.Machine
end

section
/-! SUPPORT. Item commands at a free port: the state in which the one item is executed, and what the answer leaves. What
an item does to doors and units is said elsewhere; here stands what every item command has in common. -/

namespace Sys2Proof.Machine

/-! ### The state in which an item is executed -/

section
variable (s : State) (p : PortId) (it : Item)

@[simp] theorem State.taking_powered : (s.taking p it).powered = s.powered := by rw [taking_rest]
@[simp] theorem State.taking_runCount : (s.taking p it).runCount = s.runCount := by rw [taking_rest]
@[simp] theorem State.taking_doors : (s.taking p it).doors = s.doors := by rw [taking_rest]
@[simp] theorem State.taking_settingsHold : (s.taking p it).settingsHold = s.settingsHold := by rw [taking_rest]
@[simp] theorem State.taking_holds : (s.taking p it).holds = s.holds := by rw [taking_rest]
@[simp] theorem State.taking_units : (s.taking p it).units = s.units := by rw [taking_rest]
@[simp] theorem State.taking_branches : (s.taking p it).branches = s.branches := by rw [taking_rest]
@[simp] theorem State.taking_clock : (s.taking p it).clock = s.clock := by rw [taking_rest]
@[simp] theorem State.taking_store : (s.taking p it).store = s.store := store_taking s p it
@[simp] theorem State.taking_closeAll : (s.taking p it).closeAll = s.closeAll := by rw [taking_rest]
@[simp] theorem State.taking_cutoff : (s.taking p it).cutoff = s.cutoff := by rw [taking_rest]
@[simp] theorem State.taking_sync : (s.taking p it).sync = s.sync := by rw [taking_rest]
@[simp] theorem State.taking_keyLine : (s.taking p it).keyLine = s.keyLine := by rw [taking_rest]
@[simp] theorem State.taking_outputs : (s.taking p it).outputs = s.outputs := by rw [taking_rest]
@[simp] theorem State.taking_freeCount : (s.taking p it).freeCount = s.freeCount := by rw [taking_rest]
@[simp] theorem State.taking_schedule : (s.taking p it).schedule = s.schedule := by rw [taking_rest]
@[simp] theorem State.taking_pending : (s.taking p it).pending = s.pending := by rw [taking_rest]
@[simp] theorem State.door_taking (i : DoorId) : (s.taking p it).door i = s.door i := Machine.door_taking s p it i
@[simp] theorem State.unit_taking (u : UnitId) : (s.taking p it).unit u = s.unit u := by rw [State.unit, State.taking_units]; rfl
@[simp] theorem State.branch_taking (b : BranchId) : (s.taking p it).branch b = s.branch b := by
  rw [State.branch, State.taking_branches]; rfl
@[simp] theorem State.link_taking (b : BranchId) (d : DropId) : (s.taking p it).link b d = s.link b d := by
  rw [State.link, State.branch_taking]; rfl
@[simp] theorem State.held_taking (z : ZoneId) : (s.taking p it).held z = s.held z := Machine.held_taking s p it z
@[simp] theorem State.doorHeld_taking (i : DoorId) : (s.taking p it).doorHeld i = s.doorHeld i := by
  simp [State.doorHeld]

end

/-! ### The outputs behind an answer -/

variable {s : State} {p : PortId}

/-- The outputs agree with what they are evaluated from, whatever the ports beside their roles and attentions. -/
theorem OutputsHold.of_ports {s t : State} (h : s.OutputsHold) (ht : t = { s with ports := t.ports })
    (hp : ∀ q, (t.port q).role = (s.port q).role ∧ (t.port q).attention = (s.port q).attention) : t.OutputsHold := by
  have fault : t.faultOut = s.faultOut := by
    simp only [State.faultOut, fun q => (hp q).1, fun q => (hp q).2]
    rw [ht]; rfl
  have closure : t.closureOut = s.closureOut := by rw [ht]; rfl
  have allClosed : t.allClosedOut = s.allClosedOut := by rw [ht]; rfl
  rw [State.OutputsHold, fault, closure, allClosed, ← h, ht]

theorem outputsHold_touchIf {s : State} (h : s.OutputsHold) (c : Bool) : (s.touchIf c).OutputsHold :=
  OutputsHold.of_ports h (by cases c <;> rfl) fun q => by simp

/-- R173: the outputs hold behind their evaluation. -/
theorem outputsHold_evalOutputs (s : State) : s.evalOutputs.OutputsHold := by
  rw [State.evalOutputs]
  exact outputsHold_touchIf rfl _

theorem Port.itemEnded_role (q : Port) (e : List Byte) :
    (q.itemEnded e).role = q.role ∧ (q.itemEnded e).attention = q.attention ∧ (q.itemEnded e).active = q.active := by
  simp only [Port.itemEnded]
  split
  · exact ⟨rfl, rfl, rfl⟩
  · split <;> exact ⟨rfl, rfl, rfl⟩

theorem outputsHold_endItem {s : State} (h : s.OutputsHold) (p : PortId) (e : List Byte) :
    (s.endItem p e).OutputsHold := by
  refine OutputsHold.of_ports h (endItem_rest s p e) fun q => ?_
  rw [State.endItem, State.port_modPort]
  split
  · next h => subst h; exact ⟨((s.port q).itemEnded_role e).1, ((s.port q).itemEnded_role e).2.1⟩
  · exact ⟨rfl, rfl⟩

/-! ### Answers -/

/-- The one item of a command at a free port has led to `u` and is answered with `e`. -/
theorem item_done {c : Instr} {it : Item} {u : State} {e : List Byte} (hf : s.Free p) (hi : c.item = some (p, it))
    (hu : s.itemCommand p it = u.endItem p e) (hp : ∀ q, ((s.taking p it).port q).SameButMarks (u.port q)) :
    ∃ t, exec c s = .next t ∧ t = { u with ports := t.ports } ∧ Answered p e s t ∧ (u.OutputsHold → t.OutputsHold) :=
  ⟨_, exec_item_live hi hf.1, by rw [hu]; exact endItem_rest u p e, hu ▸ answered_endItem_of_ports e hf hp,
    fun h => hu ▸ outputsHold_endItem h p e⟩

/-- An ORDER other than RESTART at a free port leads to what its owner answers. -/
theorem order_done {c : Instr} {o : OrderOp} {g : Target} {a : Answer} (hf : s.Free p)
    (hi : c.item = some (p, .order o g)) (hm : itemMalformed (.order o g) = false)
    (ha : (s.taking p (.order o g)).ordering p g o = a)
    (hp : ∀ q, ((s.taking p (.order o g)).port q).SameButMarks (a.state.port q))
    (ho : o ≠ .restart := by exact fun e => nomatch e) :
    ∃ t, exec c s = .next t ∧ t = { a.state with ports := t.ports } ∧ Answered p (orderEntry a.result a.count) s t ∧
      (a.state.OutputsHold → t.OutputsHold) :=
  item_done hf hi (by rw [itemCommand_order hf ho hm, ha]) hp

/-- An ORDER answered without a change, by an owner that leaves the outputs. -/
theorem order_refused {c : Instr} {o : OrderOp} {g : Target} {r : Result} (hf : s.Free p)
    (hi : c.item = some (p, .order o g)) (hm : itemMalformed (.order o g) = false)
    (ha : (s.taking p (.order o g)).ordering p g o = (s.taking p (.order o g)).answer r)
    (ho : o ≠ .restart := by exact fun e => nomatch e) :
    ∃ t, exec c s = .next t ∧ t = { s with ports := t.ports } ∧ Answered p (orderEntry r 0) s t := by
  obtain ⟨t, ht, hr, hans, -⟩ := order_done hf hi hm ha (fun q => .refl _) ho
  refine ⟨t, ht, ?_, hans⟩
  rw [hr, State.answer, taking_rest]

/-- An ORDER answered without a change where the outputs hold. -/
theorem order_unchanged {c : Instr} {o : OrderOp} {g : Target} {r : Result} (hf : s.Free p) (hout : s.OutputsHold)
    (hi : c.item = some (p, .order o g)) (hm : itemMalformed (.order o g) = false)
    (ha : (s.taking p (.order o g)).ordering p g o = ((s.taking p (.order o g)).answer r).withOutputs)
    (ho : o ≠ .restart := by exact fun e => nomatch e) :
    ∃ t, exec c s = .next t ∧ t = { s with ports := t.ports } ∧ Answered p (orderEntry r 0) s t := by
  refine order_refused hf hi hm (ha.trans ?_) ho
  simp only [Answer.withOutputs, State.answer, evalOutputs_eq_self (outputsHold_taking hout p _)]

/-- The state behind work on doors and units, and the evaluation of the outputs. -/
theorem OnlyDoors.outputs {s u : State} (h : OnlyDoors s u) :
    u.evalOutputs = { s with doors := u.doors, units := u.units, outputs := u.evalOutputs.outputs, ports := u.evalOutputs.ports } := by
  have rest : u.evalOutputs = { u with outputs := u.evalOutputs.outputs, ports := u.evalOutputs.ports } := by
    simp only [State.evalOutputs, State.touchIf]; split <;> rfl
  rw [rest, h.rest]

theorem sameButMarks_evalOutputs (s : State) (q : PortId) : (s.port q).SameButMarks (s.evalOutputs.port q) := by
  simp only [State.evalOutputs, State.port_touchIf, Port.SameButMarks]; rfl

/-- What the command of an item that works on doors and units leaves: doors and units as `u` has them, the outputs by
their own rule, and the answer. -/
structure DoorsAnswered (p : PortId) (e : List Byte) (s u t : State) : Prop where
  doors : t.doors = u.doors
  units : t.units = u.units
  rest : t = { s with ports := t.ports, doors := t.doors, units := t.units, outputs := t.outputs }
  outputs : t.OutputsHold
  answered : Answered p e s t

theorem DoorsAnswered.door {e : List Byte} {u t : State} (h : DoorsAnswered p e s u t) (j : DoorId) :
    t.door j = u.door j := by rw [State.door, h.doors]; rfl

theorem DoorsAnswered.unit {e : List Byte} {u t : State} (h : DoorsAnswered p e s u t) (v : UnitId) :
    t.unit v = u.unit v := by rw [State.unit, h.units]; rfl

/-- Work that leaves the units as well. -/
theorem DoorsAnswered.onlyDoors {e : List Byte} {u t : State} (h : DoorsAnswered p e s u t) (hu : u.units = s.units) :
    t = { s with ports := t.ports, doors := t.doors, outputs := t.outputs } := by
  have rest := h.rest
  rw [h.units, hu] at rest
  exact rest

/-- An ORDER of a free port whose owner works on doors and units. -/
theorem order_doors {c : Instr} {o : OrderOp} {g : Target} {u : State} {r : Result} {n : Nat} (hf : s.Free p)
    (hi : c.item = some (p, .order o g)) (hm : itemMalformed (.order o g) = false)
    (ha : (s.taking p (.order o g)).ordering p g o = { state := u.evalOutputs, result := r, count := n })
    (hd : OnlyDoors (s.taking p (.order o g)) u) (ho : o ≠ .restart := by exact fun e => nomatch e) :
    ∃ t, exec c s = .next t ∧ DoorsAnswered p (orderEntry r n) s u t := by
  obtain ⟨t, ht, hr, hans, hout⟩ := order_done hf hi hm ha
    (fun q => (hd.ports q).trans (sameButMarks_evalOutputs u q)) ho
  have doors : t.doors = u.doors := by rw [hr]; exact u.evalOutputs_doors
  have units : t.units = u.units := by rw [hr]; exact u.evalOutputs_units
  refine ⟨t, ht, doors, units, ?_, hout (outputsHold_evalOutputs u), hans⟩
  have outputs : t.outputs = u.evalOutputs.outputs := by rw [hr]
  rw [doors, units, outputs]
  rw [hr, hd.outputs, taking_rest]

/-- A SET at a free port leads to what its owner answers. -/
theorem set_done {c : Instr} {w : SettingWrite} {g : Target} {a : Answer} (hf : s.Free p)
    (hi : c.item = some (p, .set w g)) (hm : itemMalformed (.set w g) = false)
    (ha : (s.taking p (.set w g)).setting p g w = a)
    (hp : ∀ q, ((s.taking p (.set w g)).port q).SameButMarks (a.state.port q)) :
    ∃ t, exec c s = .next t ∧ t = { a.state with ports := t.ports, outputs := t.outputs } ∧
      Answered p (setEntry a.result) s t ∧ t.OutputsHold := by
  obtain ⟨t, ht, hr, hans, hout⟩ := item_done (u := a.state.evalOutputs) hf hi
    (by rw [itemCommand_set hf hm, ha]; rfl) (fun q => (hp q).trans (sameButMarks_evalOutputs _ q))
  refine ⟨t, ht, ?_, hans, hout (outputsHold_evalOutputs _)⟩
  have rest : a.state.evalOutputs =
      { a.state with outputs := a.state.evalOutputs.outputs, ports := a.state.evalOutputs.ports } := by
    simp only [State.evalOutputs, State.touchIf]; split <;> rfl
  have outputs : t.outputs = a.state.evalOutputs.outputs := by rw [hr]
  rw [outputs]
  rw [hr, rest]

/-- A SET answered without a change where the outputs hold. -/
theorem set_unchanged {c : Instr} {w : SettingWrite} {g : Target} {r : Result} (hf : s.Free p) (hout : s.OutputsHold)
    (hi : c.item = some (p, .set w g)) (hm : itemMalformed (.set w g) = false)
    (ha : (s.taking p (.set w g)).setting p g w = (s.taking p (.set w g)).answer r) :
    ∃ t, exec c s = .next t ∧ t = { s with ports := t.ports } ∧ Answered p (setEntry r) s t := by
  obtain ⟨t, ht, hr, hans, -⟩ := item_done (u := s.taking p (.set w g)) (e := setEntry r) hf hi
    (by rw [itemCommand_set hf hm, ha]
        simp only [Answer.withOutputs, State.answer, evalOutputs_eq_self (outputsHold_taking hout p _)])
    (fun q => .refl _)
  refine ⟨t, ht, ?_, hans⟩
  rw [hr, taking_rest]

/-- A SET of a free port whose owner works on doors and units. -/
theorem set_doors {c : Instr} {w : SettingWrite} {g : Target} {u : State} {r : Result} (hf : s.Free p)
    (hi : c.item = some (p, .set w g)) (hm : itemMalformed (.set w g) = false)
    (ha : (s.taking p (.set w g)).setting p g w = u.answer r) (hd : OnlyDoors (s.taking p (.set w g)) u) :
    ∃ t, exec c s = .next t ∧ DoorsAnswered p (setEntry r) s u t := by
  obtain ⟨t, ht, hr, hans, hout⟩ := set_done hf hi hm ha hd.ports
  dsimp only [State.answer] at hr
  have doors : t.doors = u.doors := by rw [hr]
  have units : t.units = u.units := by rw [hr]
  refine ⟨t, ht, doors, units, ?_, hout, hans⟩
  rw [doors, units]
  rw [hr, hd.rest, taking_rest]

/-! ### Roles and targets -/

@[simp] theorem asCommand_taking (h : (s.port p).role = .command) (it : Item) (k : Answer) :
    (s.taking p it).asCommand p k = k := by
  simp [State.asCommand, commands_taking h]

@[simp] theorem malformed_door (b : Bool) (i : DoorId) : Target.malformed b (.door (number i)) = false := by
  simp [Target.malformed]

/-- R3: an order or SET that names a door. -/
theorem malformed_order_door (o : OrderOp) (i : DoorId) : itemMalformed (.order o (.door (number i))) = false := by
  simp [itemMalformed]

/-- R96: an order that names an installed door. -/
theorem doorOrder_installed {i : DoorId} (h : (s.door i).installed = true) (f : DoorOrder) :
    s.doorOrder (number i) f = (f i s).1.answer (f i s).2 := by
  simp [State.doorOrder, h]

/-- R96: an order that names a door that is not installed. -/
theorem doorOrder_uninstalled {i : DoorId} (h : (s.door i).installed = false) (f : DoorOrder) :
    s.doorOrder (number i) f = s.answer .noDoor := by
  simp [State.doorOrder, h]

theorem doorOrZone_door (i : DoorId) (f : DoorOrder) : s.doorOrZone (.door (number i)) f = s.doorOrder (number i) f := rfl

theorem doorOrZone_zone (z : ZoneId) (f : DoorOrder) : s.doorOrZone (.zone (number z)) f = s.zoneOrder z f := by
  simp [State.doorOrZone]

end Sys2Proof.Machine
end

section
/-! SUPPORT. The orders of the Vessel Clock and of the Settings Store (R176, R181, R182, R185), the completion of a save
and the loss of supply. -/

namespace Sys2Proof.Machine

variable {s : State} {p : PortId}

/-! ### The Vessel Clock -/

/-- An ORDER that writes the clock alone. -/
theorem order_clock {c : Instr} {o : OrderOp} {g : Target} {f : Clock → Clock} (h : s.MayOrder p)
    (hi : c.item = some (p, .order o g)) (hm : itemMalformed (.order o g) = false)
    (ha : (s.taking p (.order o g)).ordering p g o = ((s.taking p (.order o g)).modClock f).answer .ok)
    (ho : o ≠ .restart := by exact fun e => nomatch e) :
    ∃ t, exec c s = .next t ∧ t = { s with ports := t.ports, clock := f s.clock } ∧ Answered p (orderEntry .ok 0) s t := by
  obtain ⟨t, ht, hr, hans, -⟩ := order_done h.1 hi hm ha (fun q => .refl _) ho
  refine ⟨t, ht, ?_, hans⟩
  rw [hr, State.answer, State.modClock, State.taking_clock, taking_rest]

theorem clockLoad_inRange (h : s.MayOrder p) {day ms : Nat} (hl : stampLegal day ms = true) :
    ∃ t, exec (.clockLoad p day ms) s = .next t ∧
      t = { s with ports := t.ports, clock := { s.clock with time := { day := day, ms := ms } } } ∧
      Answered p (orderEntry .ok 0) s t :=
  order_clock (f := fun c => { c with time := { day := day, ms := ms } }) h rfl rfl
    (by simp [State.ordering, State.orderClockLoad, h.2, hl])

theorem clockArm_inRange (h : s.MayOrder p) {day ms : Nat} (hl : stampLegal day ms = true) :
    ∃ t, exec (.clockArm p day ms) s = .next t ∧
      t = { s with ports := t.ports, clock := { s.clock with armed := some { day := day, ms := ms } } } ∧
      Answered p (orderEntry .ok 0) s t :=
  order_clock (f := fun c => { c with armed := some { day := day, ms := ms } }) h rfl rfl
    (by simp [State.ordering, State.orderClockArm, h.2, hl])

theorem clockAdjust_inRange (h : s.MayOrder p) {delta : Int} (hl : -86400000 ≤ delta) (hu : delta ≤ 86400000) :
    ∃ t, exec (.clockAdjust p delta) s = .next t ∧
      t = { s with ports := t.ports, clock := { s.clock with time := s.clock.time.adjust delta } } ∧
      Answered p (orderEntry .ok 0) s t :=
  order_clock (f := fun c => { c with time := c.time.adjust delta }) h rfl rfl
    (by simp [State.ordering, State.orderClockAdjust, h.2, Config.dayMs, hl, hu])

theorem clockDisarm_done (h : s.MayOrder p) :
    ∃ t, exec (.clockDisarm p) s = .next t ∧ t = { s with ports := t.ports, clock := { s.clock with armed := none } } ∧
      Answered p (orderEntry .ok 0) s t :=
  order_clock (f := fun c => { c with armed := none }) h rfl rfl (by simp [State.ordering, State.orderClockDisarm, h.2])

theorem clockLoad_outOfRange (h : s.MayOrder p) {day ms : Nat} (hl : stampLegal day ms = false) :
    ∃ t, exec (.clockLoad p day ms) s = .next t ∧ t = { s with ports := t.ports } ∧ Answered p (orderEntry .range 0) s t :=
  order_refused h.1 rfl rfl (by simp [State.ordering, State.orderClockLoad, h.2, hl])

theorem clockArm_outOfRange (h : s.MayOrder p) {day ms : Nat} (hl : stampLegal day ms = false) :
    ∃ t, exec (.clockArm p day ms) s = .next t ∧ t = { s with ports := t.ports } ∧ Answered p (orderEntry .range 0) s t :=
  order_refused h.1 rfl rfl (by simp [State.ordering, State.orderClockArm, h.2, hl])

theorem clockAdjust_outOfRange (h : s.MayOrder p) {delta : Int} (hd : delta < -86400000 ∨ 86400000 < delta) :
    ∃ t, exec (.clockAdjust p delta) s = .next t ∧ t = { s with ports := t.ports } ∧
      Answered p (orderEntry .range 0) s t := by
  refine order_refused h.1 rfl rfl ?_
  simp only [State.ordering, State.orderClockAdjust, asCommand_taking h.2]
  refine if_neg fun e => ?_
  obtain ⟨hl, hu⟩ := Bool.and_eq_true_iff.mp e
  have lower := of_decide_eq_true hl
  have upper := of_decide_eq_true hu
  simp only [Config.dayMs] at lower upper
  omega

/-! The count of ms that a clock value stands for. -/

theorem Stamp.count_adjust {t : Stamp} (h : t.Legal) {delta : Int} (hl : -86400000 ≤ delta) (hu : delta ≤ 86400000) :
    (((t.adjust delta).day * 86400000 + (t.adjust delta).ms : Nat) : Int) =
      ((t.day * 86400000 + t.ms : Nat) + delta) % (65536 * 86400000) := by
  obtain ⟨hd, hm⟩ := h
  simp only [Stamp.adjust]
  split_ifs <;> simp only [Config.dayMs, Config.dayCount] at * <;> omega

theorem Stamp.count_next {t : Stamp} (h : t.Legal) :
    ((t.next.day * 86400000 + t.next.ms : Nat) : Int) = ((t.day * 86400000 + t.ms : Nat) + 1) % (65536 * 86400000) := by
  obtain ⟨hd, hm⟩ := h
  simp only [Stamp.next]
  split_ifs <;> simp only [Config.dayMs, Config.dayCount] at * <;> omega

theorem Stamp.count_prev {t : Stamp} (h : t.Legal) :
    ((t.prev.day * 86400000 + t.prev.ms : Nat) : Int) = ((t.day * 86400000 + t.ms : Nat) - 1) % (65536 * 86400000) := by
  obtain ⟨hd, hm⟩ := h
  simp only [Stamp.prev]
  split_ifs <;> simp only [Config.dayMs, Config.dayCount] at * <;> omega

/-- Settles O24: each order by its owner's answer, and the counts of ms by arithmetic. -/
theorem clockOrdersSetTheClock : Obligations.ClockOrdersSetTheClock := by
  intro s p day ms delta
  have inRange : day < 65536 → ms < 86400000 → stampLegal day ms = true := fun hd hm =>
    (stampLegal_iff day ms).mpr ⟨hd, hm⟩
  have outOfRange : 86400000 ≤ ms → stampLegal day ms = false := fun hm =>
    Bool.eq_false_iff.mpr fun e => absurd ((stampLegal_iff day ms).mp e).2 (not_lt.mpr hm)
  exact ⟨fun h hd hm => ⟨clockLoad_inRange h (inRange hd hm), clockArm_inRange h (inRange hd hm)⟩,
    fun h hm => ⟨clockLoad_outOfRange h (outOfRange hm), clockArm_outOfRange h (outOfRange hm)⟩,
    fun h => clockAdjust_inRange h, fun h => clockAdjust_outOfRange h, clockDisarm_done,
    fun t h hl hu => ⟨h.adjust hl hu, h.next, h.prev, Stamp.count_adjust h hl hu, Stamp.count_next h, Stamp.count_prev h⟩⟩

/-! ### The Settings Store -/

/-- An ORDER that writes the store alone. -/
theorem order_store {c : Instr} {o : OrderOp} {g : Target} {f : Store → Store} (h : s.MayOrder p)
    (hi : c.item = some (p, .order o g)) (hm : itemMalformed (.order o g) = false)
    (ha : (s.taking p (.order o g)).ordering p g o = ((s.taking p (.order o g)).modStore f).answer .ok)
    (ho : o ≠ .restart := by exact fun e => nomatch e) :
    ∃ t, exec c s = .next t ∧ t = { s with ports := t.ports, store := f s.store } ∧ Answered p (orderEntry .ok 0) s t := by
  obtain ⟨t, ht, hr, hans, -⟩ :=
    order_done h.1 hi hm ha (fun q => by rw [State.answer, port_modStore, Port.SameButMarks]) ho
  refine ⟨t, ht, ?_, hans⟩
  rw [hr, State.answer, modStore_rest, State.taking_store, taking_rest]

theorem role_taking (s : State) (p q : PortId) (it : Item) : ((s.taking p it).port q).role = (s.port q).role := by
  rw [State.taking, State.beginRequest]; exact role_modPort s p rfl q

theorem settingsImage_taking (s : State) (p : PortId) (it : Item) : (s.taking p it).settingsImage = s.settingsImage := by
  simp only [State.settingsImage, State.door_taking, State.unit_taking, State.branch_taking, State.taking_store,
    role_taking]

theorem save_done (h : s.MayOrder p) (hs : s.store.saving = none) (hr : s.store.restartPending = none) :
    ∃ t, exec (.save p) s = .next t ∧
      t = { s with ports := t.ports
                   store := { s.store with
                     saving := some { copy := s.settingsImage, completion := s.runCount + 400 } } } ∧
      Answered p (orderEntry .ok 0) s t :=
  order_store (f := fun x => { x with saving := some { copy := s.settingsImage, completion := s.runCount + 400 } }) h rfl rfl
    (by simp [State.ordering, State.orderSave, h.2, hs, hr, settingsImage_taking, Config.saveMs])

theorem save_busy (h : s.MayOrder p) (hs : s.store.saving ≠ none) :
    ∃ t, exec (.save p) s = .next t ∧ t = { s with ports := t.ports } ∧ Answered p (orderEntry .busy 0) s t :=
  order_refused h.1 rfl rfl
    (by simp [State.ordering, State.orderSave, h.2, Option.isSome_iff_ne_none.mpr hs])

theorem save_refusedState (h : s.MayOrder p) (hs : s.store.saving = none) (hr : s.store.restartPending ≠ none) :
    ∃ t, exec (.save p) s = .next t ∧ t = { s with ports := t.ports } ∧ Answered p (orderEntry .refusedState 0) s t :=
  order_refused h.1 rfl rfl
    (by simp [State.ordering, State.orderSave, h.2, hs, Option.isSome_iff_ne_none.mpr hr])

/-! RESTART ends its request, and its response carries the restart where the order has made it pending. -/

theorem itemCommand_restart (hf : s.Free p) :
    s.itemCommand p (.order .restart .none) = (s.taking p (.order .restart .none)).executeRestart p := by
  rw [itemCommand_executes hf rfl (by simp [State.entrySize, itemMalformed, OrderOp.takesTarget])]
  rfl

/-- The end of a request of one item, as for an item answered in the ordinary way. -/
theorem finishWith_one {u : State} {p : PortId} {it : Item} (hu : (u.port p).request = some (Request.one it))
    (e : List Byte) : u.finishWith p e false = u.endItem p e := by
  have same : ∀ q : Port, q.request = some (Request.one it) →
      (q.request.map fun r => q.concluded (r.withEntry e) false).getD q = q.itemEnded e := fun q hq => by
    simp [Port.itemEnded, hq, Request.one, Request.withEntry]
  simp only [State.finishWith, State.endItem, State.modPort, same _ hu]

theorem restart_refusedState (h : s.MayOrder p) (hs : s.store.saving ≠ none) :
    ∃ t, exec (.restart p) s = .next t ∧ t = { s with ports := t.ports } ∧
      Answered p (orderEntry .refusedState 0) s t := by
  have executed : s.itemCommand p (.order .restart .none) =
      (s.taking p (.order .restart .none)).endItem p (orderEntry .refusedState 0) := by
    rw [itemCommand_restart h.1]
    simp [State.executeRestart, State.orderRestart, h.2, Option.isSome_iff_ne_none.mpr hs, State.answer, orderEntry]
  obtain ⟨t, ht, hr, hans, -⟩ := item_done (c := .restart p) h.1 rfl executed fun q => .refl _
  exact ⟨t, ht, by rw [hr, taking_rest], hans⟩

theorem restart_again (h : s.MayOrder p) (hs : s.store.saving = none) (hr : s.store.restartPending ≠ none) :
    ∃ t, exec (.restart p) s = .next t ∧ t = { s with ports := t.ports } ∧ Answered p (orderEntry .ok 0) s t := by
  have pending : s.store.restartPending.isNone = false :=
    Option.isNone_eq_false_iff.mpr (Option.isSome_iff_ne_none.mpr hr)
  have executed : s.itemCommand p (.order .restart .none) =
      (s.taking p (.order .restart .none)).endItem p (orderEntry .ok 0) := by
    rw [itemCommand_restart h.1, ← finishWith_one (request_taking s p _)]
    simp [State.executeRestart, State.orderRestart, h.2, hs, Option.isSome_iff_ne_none.mpr hr, State.answer, orderEntry,
      pending]
  obtain ⟨t, ht, hr, hans, -⟩ := item_done (c := .restart p) h.1 rfl executed fun q => .refl _
  exact ⟨t, ht, by rw [hr, taking_rest], hans⟩

theorem restart_done (h : s.MayOrder p) (hs : s.store.saving = none) (hr : s.store.restartPending = none) :
    ∃ t, exec (.restart p) s = .next t ∧
      t = { s with ports := t.ports, store := { s.store with restartPending := some p } } ∧ OtherPorts p s t ∧
      (t.port p).request = none ∧ (t.port p).queue = (s.port p).queue ++
        [{ token := 0, busy := false, entries := [orderEntry .ok 0], carriesRestart := true }] := by
  have executed : s.itemCommand p (.order .restart .none) =
      ((s.taking p (.order .restart .none)).modStore fun x => { x with restartPending := some p }).finishWith p
        (orderEntry .ok 0) true := by
    rw [itemCommand_restart h.1]
    simp [State.executeRestart, State.orderRestart, h.2, hs, hr, State.answer, orderEntry]
  refine ⟨_, exec_item_live rfl h.1.1, ?_, fun q hq => ?_, ?_, ?_⟩ <;> rw [executed]
  · rw [State.finishWith, modPort_rest, modStore_rest, State.taking_store, taking_rest]
  · refine (taking_other s p q (.order .restart .none) hq).trans ?_
    rw [State.finishWith, State.port_modPort, if_neg hq, port_modStore, Port.SameButMarks]
  · rw [State.finishWith, State.port_modPort, if_pos rfl, port_modStore]
    simp [request_taking, Port.concluded]
  · rw [State.finishWith, State.port_modPort, if_pos rfl, port_modStore]
    simp [request_taking, Port.concluded, Request.one, Request.withEntry, Request.response]
    simp [State.taking, State.beginRequest, State.port_modPort]

/-! ### The completion of a save -/

theorem evalOutputs_rest (s : State) :
    s.evalOutputs = { s with ports := s.evalOutputs.ports, outputs := s.evalOutputs.outputs } := by
  simp only [State.evalOutputs, State.touchIf]; split <;> rfl

/-- R181: the copy becomes the image, and the image fault clears. -/
theorem saveCompletion_done {v : Saving} (hp : s.powered = true) (hs : s.store.saving = some v)
    (hv : v.completion ≤ s.runCount) :
    ∃ t, exec .saveCompletion s = .next t ∧ t = { s with store := t.store, ports := t.ports, outputs := t.outputs } ∧
      t.store = { s.store with image := some v.copy, imageFault := false, saving := none } ∧ t.OutputsHold ∧
      ∀ p, (s.port p).SameButMarks (t.port p) := by
  have executed : exec .saveCompletion s = .next (s.modStore fun x =>
      { x with image := some v.copy, imageFault := false, saving := none }).evalOutputs := by
    change execSaveCompletion s = _
    simp [execSaveCompletion, State.live, hp, State.saveCompleted, hs, hv]
  refine ⟨_, executed, ?_, ?_, outputsHold_evalOutputs _, fun p => ?_⟩
  · rw [evalOutputs_rest, modStore_rest]
  · simp
  · refine Port.SameButMarks.trans ?_ (sameButMarks_evalOutputs _ p)
    rw [port_modStore, Port.SameButMarks]

/-- Assumption 4: a completion before its instant. -/
theorem saveCompletion_early {v : Saving} (hp : s.powered = true) (hs : s.store.saving = some v)
    (hv : s.runCount < v.completion) (ho : s.OutputsHold) : exec .saveCompletion s = .next s := by
  change execSaveCompletion s = _
  simp [execSaveCompletion, State.live, hp, State.saveCompleted, hs, Nat.not_le.mpr hv, evalOutputs_eq_self ho]

/-! ### Supply lost and power-on -/

theorem onlyLinks_startRounds (s : State) : OnlyLinks s s.startRounds := by
  have each : ∀ (l : List BranchId) (t : State),
      OnlyLinks t (l.foldl (fun t b => if (t.branch b).enable then t.startRound b else t) t) := fun l => by
    induction l with
    | nil => exact .refl
    | cons b l ih =>
      intro t
      refine OnlyLinks.trans ?_ (ih _)
      beta_reduce
      split
      · exact onlyLinks_startRound t b
      · exact .refl t
  exact each branchIds s

theorem onlyDoors_raiseBranchFaults (s : State) : OnlyDoors s s.raiseBranchFaults := by
  refine onlyDoors_forDoors s _ _ fun i t => ?_
  simp only [State.raiseBranchOff]; split
  · exact onlyDoors_raiseCondition t i _
  · exact .refl t

/-- R184: the outputs behind a power-on are those evaluated before the rounds start, and the store is as built. -/
theorem powerOn_store (s : State) (l : Lines) :
    (s.powerOn l).store = (s.built (s.store.image.getD Image.defaults) l).store ∧
      (s.powerOn l).outputs = (s.built (s.store.image.getD Image.defaults) l).raiseBranchFaults.evalOutputs.outputs := by
  have rounds := (onlyLinks_startRounds (s.built (s.store.image.getD Image.defaults) l).raiseBranchFaults.evalOutputs).rest
  have raised := (onlyDoors_raiseBranchFaults (s.built (s.store.image.getD Image.defaults) l)).rest
  constructor
  · rw [State.powerOn, rounds, evalOutputs_rest, raised]
  · rw [State.powerOn, rounds]

/-- R173, R184: a bad image asserts FAULT_OUT. -/
theorem powerOn_fault (s : State) (l : Lines) (h : s.store.image = none) : (s.powerOn l).outputs.fault = true := by
  have raised := (onlyDoors_raiseBranchFaults (s.built (s.store.image.getD Image.defaults) l)).rest
  have bad : (s.built (s.store.image.getD Image.defaults) l).raiseBranchFaults.store.imageFault = true := by
    rw [raised]; simp [State.built, h]
  have eval : ∀ t : State, t.evalOutputs.outputs.fault = t.faultOut := fun t => by simp [State.evalOutputs]
  rw [(powerOn_store s l).2, eval, State.faultOut, bad, Bool.or_true]

/-- What a power-on reads at a D48 without supply. -/
theorem powerOn_image (h : s.powered = false) (k a o : Bool) (l : BitVec 4) (y : Bool) :
    ∃ w, exec (.powerOn k a o l y) s = .next w ∧ w.store.image = s.store.image ∧
      w.store.imageFault = s.store.image.isNone ∧ (s.store.image = none → w.outputs.fault = true) := by
  refine ⟨s.powerOn { key := k, closeAll := a, cutoff := o, pressLow := l, sync := y }, ?_, ?_, ?_, powerOn_fault s _⟩
  · change execPowerOn k a o l y s = _
    simp [execPowerOn, h]
  · rw [(powerOn_store s _).1]; rfl
  · rw [(powerOn_store s _).1]; rfl

theorem lossOfSupply_done (hp : s.powered = true) : exec .lossOfSupply s = .next s.supplyLost := by
  change execLossOfSupply s = _
  simp [execLossOfSupply, State.live, hp]

/-- Settles O25: the orders by their owner's answers, and the image behind a loss of supply by what a power-on reads. -/
theorem storeOrdersAndSaves : Obligations.StoreOrdersAndSaves := by
  refine fun s p => ⟨fun h hs hr => ⟨save_done h hs hr, restart_done h hs hr⟩,
    fun h hs => ⟨save_busy h hs, restart_refusedState h hs⟩,
    fun h hs hr => ⟨save_refusedState h hs hr, restart_again h hs hr⟩, fun h => ?_,
    fun v hp hs => ⟨saveCompletion_done hp hs, saveCompletion_early hp hs, _, lossOfSupply_done hp, ?_, ?_⟩,
    fun hp hs => ⟨?_, fun k a o l y => ?_⟩⟩
  · obtain ⟨t, ht, hr, hans, -⟩ := lock_command h
    exact ⟨t, ht, hr, hans⟩
  · simp [State.supplyLost, hs]
  · intro k a o l y
    obtain ⟨w, hw, image, fault, out⟩ := powerOn_image (s := s.supplyLost) rfl k a o l y
    have none : s.supplyLost.store.image = none := by simp [State.supplyLost, hs]
    exact ⟨w, hw, image.trans none, by rw [fault, none]; rfl, out none⟩
  · rw [lossOfSupply_done hp]
    have store : { s.store with saving := none } = s.store := by rw [← hs]
    simp [State.supplyLost, hs, store]
  · obtain ⟨w, hw, image, fault, -⟩ := powerOn_image (s := { s with powered := false }) rfl k a o l y
    exact ⟨w, hw, image, fault⟩

end Sys2Proof.Machine
end

section
/-! SUPPORT. SETs of the settings of units, branches, ports and the device (R116, R138, R161, R175, R183). -/

namespace Sys2Proof.Machine

variable {s : State} {p : PortId}

/-! ### Units and branches -/

theorem sameButMarks_modBranch (s : State) (b : BranchId) (f : Branch → Branch) (q : PortId) :
    (s.port q).SameButMarks ((s.modBranch b f).port q) := by
  rw [State.modBranch, State.port_touchIf, Port.SameButMarks]; rfl

/-- A SET that writes a power unit alone. -/
theorem set_unit {c : Instr} {w : SettingWrite} {g : Target} {u : UnitId} {f : PowerUnit → PowerUnit} (h : s.MayOrder p)
    (hi : c.item = some (p, .set w g)) (hm : itemMalformed (.set w g) = false)
    (ha : (s.taking p (.set w g)).setting p g w = ((s.taking p (.set w g)).modUnit u f).answer .ok) :
    ∃ t, exec c s = .next t ∧ t = { s with ports := t.ports, units := s.units.set u (f (s.unit u)), outputs := t.outputs } ∧
      t.OutputsHold ∧ Answered p (setEntry .ok) s t := by
  obtain ⟨t, ht, hd⟩ := set_doors h.1 hi hm ha (onlyDoors_modUnit _ u f)
  have units : t.units = s.units.set u (f (s.unit u)) := by rw [hd.units]; simp
  have doors : t.doors = s.doors := by rw [hd.doors]; simp
  refine ⟨t, ht, ?_, hd.outputs, hd.answered⟩
  have rest := hd.rest
  rw [units, doors] at rest
  exact rest

/-- A SET that writes a branch alone. -/
theorem set_branch {c : Instr} {w : SettingWrite} {g : Target} {b : BranchId} {f : Branch → Branch} (h : s.MayOrder p)
    (hi : c.item = some (p, .set w g)) (hm : itemMalformed (.set w g) = false)
    (ha : (s.taking p (.set w g)).setting p g w = ((s.taking p (.set w g)).modBranch b f).answer .ok) :
    ∃ t, exec c s = .next t ∧
      t = { s with ports := t.ports, branches := s.branches.set b (f (s.branch b)), outputs := t.outputs } ∧
      t.OutputsHold ∧ Answered p (setEntry .ok) s t := by
  obtain ⟨t, ht, hr, hans, hout⟩ := set_done h.1 hi hm ha (sameButMarks_modBranch _ b f)
  refine ⟨t, ht, ?_, hout, hans⟩
  have branches : t.branches = s.branches.set b (f (s.branch b)) := by rw [hr]; simp [State.answer]
  have frame := (onlyLinks_modBranch (s.taking p (.set w g)) b f).rest
  have doors : ((s.taking p (.set w g)).modBranch b f).doors = s.doors := by simp
  have units : ((s.taking p (.set w g)).modBranch b f).units = s.units := by simp
  rw [← branches]
  rw [hr, State.answer, frame, doors, units, taking_rest]

/-- R116: a legal SET of a unit setting. -/
theorem setUnitSetting_legal (h : s.MayInstall p) (it : Item) (u : UnitId) {legal stopped : Bool}
    {f : PowerUnit → PowerUnit} (hl : legal = true) (hs : stopped = true → (s.unit u).state = .stopped) :
    (s.taking p it).setUnitSetting p (.unit (number u)) legal stopped f = ((s.taking p it).modUnit u f).answer .ok := by
  simp only [State.setUnitSetting, asCommand_taking h.1.2, State.asUnlocked, State.taking_store, h.2, if_true,
    numbered_number, hl, Bool.not_true, Bool.false_eq_true, if_false, State.unit_taking]
  refine if_neg fun e => ?_
  obtain ⟨only, moving⟩ := Bool.and_eq_true_iff.mp e
  exact of_decide_eq_true moving (hs only)

/-- R138: a legal SET of a branch setting. -/
theorem setBranchSetting_legal (h : s.MayInstall p) (it : Item) (b : BranchId) {legal : Bool} {f : BranchId → State}
    (hl : legal = true) :
    (s.taking p it).setBranchSetting p (.branch (number b)) legal f = (f b).answer .ok := by
  simp [State.setBranchSetting, asCommand_taking h.1.2, State.asUnlocked, h.2, hl]

theorem setUnitSetting_illegal (h : s.MayInstall p) (it : Item) (u : UnitId) {legal stopped : Bool}
    {f : PowerUnit → PowerUnit} (hl : legal = false) :
    (s.taking p it).setUnitSetting p (.unit (number u)) legal stopped f = (s.taking p it).answer .range := by
  simp [State.setUnitSetting, asCommand_taking h.1.2, State.asUnlocked, h.2, hl]

theorem setBranchSetting_illegal (h : s.MayInstall p) (it : Item) (b : BranchId) {legal : Bool} {f : BranchId → State}
    (hl : legal = false) :
    (s.taking p it).setBranchSetting p (.branch (number b)) legal f = (s.taking p it).answer .range := by
  simp [State.setBranchSetting, asCommand_taking h.1.2, State.asUnlocked, h.2, hl]

theorem inRange_eq_false {a b v : Nat} (h : v < a ∨ b < v) : (decide (a ≤ v) && decide (v ≤ b)) = false := by
  rw [← Bool.decide_and, decide_eq_false_iff_not]; omega

theorem inRange_eq_true {a b v : Nat} (h : a ≤ v) (k : v ≤ b) : (decide (a ≤ v) && decide (v ≤ b)) = true := by
  simp [h, k]

/-- R116: a slot limit in range for a unit that is not STOPPED. -/
theorem setSlotLimit_refused (h : s.MayInstall p) (it : Item) (u : UnitId) {v : Nat} (hl : 1 ≤ v) (hu : v ≤ 8)
    (hs : (s.unit u).state ≠ .stopped) :
    (s.taking p it).setSlotLimit p (.unit (number u)) v = (s.taking p it).answer .refusedState := by
  simp [State.setSlotLimit, State.setUnitSetting, asCommand_taking h.1.2, State.asUnlocked, h.2, hl, hu, hs]

/-- Settles O41: each SET by its own range, with one rule for units and one for branches. -/
theorem unitAndBranchSetsWriteOneField : Obligations.UnitAndBranchSetsWriteOneField := by
  intro s p c u b v h
  refine ⟨fun x hx => ?_, fun x hx => ?_, fun ho hc hl hu hs => ?_, fun ho hx => ?_⟩
  · obtain ⟨rfl, hl, hu, hs, rfl⟩ | ⟨rfl, hl, hu, rfl⟩ | ⟨rfl, hl, hu, rfl⟩ | ⟨rfl, hu, rfl⟩ | ⟨rfl, hl, hu, rfl⟩ := hx
    · exact set_unit (f := fun x => { x with slotLimit := v }) h.1 rfl rfl
        (setUnitSetting_legal h _ u (inRange_eq_true hl hu) fun _ => hs)
    · exact set_unit (f := fun x => { x with startTime := v }) h.1 rfl rfl
        (setUnitSetting_legal h _ u (inRange_eq_true hl hu) nofun)
    · exact set_unit (f := fun x => { x with holdoff := v }) h.1 rfl rfl
        (setUnitSetting_legal h _ u (inRange_eq_true hl hu) nofun)
    · exact set_unit (f := fun x => { x with ageTime := v }) h.1 rfl rfl
        (setUnitSetting_legal h _ u (decide_eq_true hu) nofun)
    · exact set_unit (f := fun x => { x with urgentCount := v }) h.1 rfl rfl
        (setUnitSetting_legal h _ u (inRange_eq_true hl hu) nofun)
  · obtain ⟨rfl, hl, hu, rfl⟩ | ⟨rfl, hl, hu, rfl⟩ | ⟨rfl, hl, hu, rfl⟩ := hx
    · exact set_branch (f := fun x => { x with roundPeriod := v }) h.1 rfl rfl
        (setBranchSetting_legal h _ b (inRange_eq_true hl hu))
    · exact set_branch (f := fun x => { x with replyTimeout := v }) h.1 rfl rfl
        (setBranchSetting_legal h _ b (inRange_eq_true hl hu))
    · exact set_branch (f := fun x => { x with lostThreshold := v }) h.1 rfl rfl
        (setBranchSetting_legal h _ b (inRange_eq_true hl hu))
  · subst hc
    exact set_unchanged h.1.1 ho rfl rfl (setSlotLimit_refused h _ u hl hu hs)
  · obtain ⟨rfl, hv⟩ | ⟨rfl, hv⟩ | ⟨rfl, hv⟩ | ⟨rfl, hv⟩ | ⟨rfl, hv⟩ | ⟨rfl, hv⟩ | ⟨rfl, hv⟩ | ⟨rfl, hv⟩ | ⟨rfl, hv⟩ := hx
    · exact set_unchanged h.1.1 ho rfl rfl (setUnitSetting_illegal h _ u (inRange_eq_false (by omega)))
    · exact set_unchanged h.1.1 ho rfl rfl (setUnitSetting_illegal h _ u (inRange_eq_false hv))
    · exact set_unchanged h.1.1 ho rfl rfl (setUnitSetting_illegal h _ u (inRange_eq_false hv))
    · exact set_unchanged h.1.1 ho rfl rfl (setUnitSetting_illegal h _ u (decide_eq_false (by omega)))
    · exact set_unchanged h.1.1 ho rfl rfl (setUnitSetting_illegal h _ u (inRange_eq_false (by omega)))
    · exact set_unchanged h.1.1 ho rfl rfl (setBranchSetting_illegal h _ b (inRange_eq_false hv))
    · exact set_unchanged h.1.1 ho rfl rfl (setBranchSetting_illegal h _ b (inRange_eq_false hv))
    · exact set_unchanged h.1.1 ho rfl rfl (setBranchSetting_illegal h _ b (inRange_eq_false hv))
    · exact set_unchanged h.1.1 ho rfl rfl (setBranchSetting_illegal h _ b (decide_eq_false (by omega)))

/-! ### Ports -/

/-- R156: the issuing port as its item is taken; that it becomes ACTIVE is a change of the summary (R168). -/
theorem port_taking_self (s : State) (p : PortId) (it : Item) :
    (s.taking p it).port p = { s.port p with
      active := true, silenceTimer := none, request := some (Request.one it)
      summaryChanged := !(s.port p).active || (s.port p).summaryChanged } := by
  simp [State.taking, State.beginRequest, State.port_modPort, Port.alertChanged, Request.one]

theorem port_taking_other {q : PortId} (h : q ≠ p) (it : Item) :
    (s.taking p it).port q =
      { s.port q with summaryChanged := !(s.port p).active || (s.port q).summaryChanged } := by
  simp [State.taking, State.beginRequest, State.port_modPort, Port.alertChanged, h]

/-- The port as it is answered for, `x` being what a SET has made of it: the port of the item is taking that item. -/
def Port.written (x : Port) (own : Bool) (it : Item) : Port :=
  if own then { x with active := true, silenceTimer := none, request := some (Request.one it) } else x

theorem Port.SameButMarks.marks {q r : Port} (h : q.SameButMarks r) (k l : List DoorId) (a b : Bool) :
    { q with changed := k, summaryChanged := a }.SameButMarks { r with changed := l, summaryChanged := b } := by
  simp only [Port.SameButMarks] at *
  rw [h]

theorem changed_endItem (s : State) (p q : PortId) (e : List Byte) :
    ((s.endItem p e).port q).changed = (s.port q).changed := by
  have itemEnded : ∀ x : Port, (x.itemEnded e).changed = x.changed := fun x => by
    simp only [Port.itemEnded]
    split
    · rfl
    · split <;> rfl
  rw [State.endItem, State.port_modPort]; split
  · next h => subst h; exact itemEnded _
  · rfl

theorem changed_modPort_self (s : State) (q : PortId) (f : Port → Port) :
    ((s.modPort q f).port q).changed = (f (s.port q)).changed := by
  rw [State.port_modPort, if_pos rfl]

theorem summaryChanged_modPort_self (s : State) (q : PortId) {f : Port → Port}
    (h : (f (s.port q)).summaryChanged = true) : ((s.modPort q f).port q).summaryChanged = true := by
  rw [State.port_modPort, if_pos rfl]; simp [h]

/-- A SET that writes one port, and makes `x` of it beside the marks. -/
theorem set_port {c : Instr} {w : SettingWrite} {g : Target} {q : PortId} {f : Port → Port} {r : Result} {x : Port}
    (hf : s.Free p) (hi : c.item = some (p, .set w g)) (hm : itemMalformed (.set w g) = false)
    (ha : (s.taking p (.set w g)).setting p g w = ((s.taking p (.set w g)).modPort q f).answer r)
    (hx : (x.written (q = p) (.set w g)).SameButMarks (f ((s.taking p (.set w g)).port q)))
    (hr : x.request = (s.port q).request) :
    ∃ t, exec c s = .next t ∧ t = { s with ports := t.ports, outputs := t.outputs } ∧ t.OutputsHold ∧
      (t.port q).changed = (f ((s.taking p (.set w g)).port q)).changed ∧
      ((f ((s.taking p (.set w g)).port q)).summaryChanged = true → (t.port q).summaryChanged = true) ∧
      Answered p (setEntry r) { s with ports := s.ports.set q x } t := by
  have port : ∀ v, ({ s with ports := s.ports.set q x } : State).port v = if v = q then x else s.port v := fun v => by
    by_cases e : v = q
    · subst e; simp [State.port]
    · have : q.val ≠ v.val := fun k => e (Fin.ext k.symm)
      simp [State.port, e, this]
  have free : ({ s with ports := s.ports.set q x } : State).Free p := by
    refine ⟨hf.1, ?_⟩
    rw [port]; split
    · next e => subst e; rw [hr]; exact hf.2
    · exact hf.2
  have executed : s.itemCommand p (.set w g) =
      ((s.taking p (.set w g)).modPort q f).evalOutputs.endItem p (setEntry r) := by
    rw [itemCommand_set hf hm, ha]; rfl
  refine ⟨_, exec_item_live hi hf.1, ?_, ?_, ?_, fun h => ?_, ?_⟩ <;> rw [executed]
  · rw [endItem_rest, evalOutputs_rest, modPort_rest, taking_rest]
  · exact outputsHold_endItem (outputsHold_evalOutputs _) p _
  · rw [changed_endItem, State.evalOutputs, State.port_touchIf]
    exact changed_modPort_self _ q f
  · refine summaryChanged_endItem ?_ p _
    rw [State.evalOutputs, State.port_touchIf]
    exact Bool.or_eq_true_iff.mpr (.inr (summaryChanged_modPort_self _ q h))
  · refine answered_endItem_of_ports (it := .set w g) _ free fun v => Port.SameButMarks.trans ?_ (sameButMarks_evalOutputs _ v)
    by_cases hv : v = p
    · subst hv
      rw [port_taking_self, port, State.port_modPort]
      split
      · next e =>
        subst e
        simp only [Port.written, decide_true, if_true] at hx
        exact hx.marks _ _ _ _
      · rw [port_taking_self]; simp [Port.SameButMarks]
    · rw [port_taking_other hv, port, State.port_modPort]
      split
      · next e =>
        subst e
        simp only [Port.written, hv, decide_false, Bool.false_eq_true, if_false] at hx
        exact hx.marks _ _ _ _
      · rw [port_taking_other hv]; simp [Port.SameButMarks]

/-! R161: the issuing port's own settings. -/

theorem setOwn_own (h : s.MayOrder p) (it : Item) (low high v : Nat) (f : Nat → Port → Port) :
    (s.taking p it).setOwn p (.port p.val) low high v f =
      ((s.taking p it).modPort p (f (clamp low high v))).answer (if clamp low high v = v then .ok else .clamped) := by
  simp [State.setOwn, asCommand_taking h.2]

theorem setOwn_other (h : s.MayOrder p) (it : Item) {q : PortId} (hq : q ≠ p) (low high v : Nat) (f : Nat → Port → Port) :
    (s.taking p it).setOwn p (.port q.val) low high v f = (s.taking p it).answer .range := by
  have : q.val ≠ p.val := fun e => hq (Fin.ext e)
  simp [State.setOwn, asCommand_taking h.2, this]

theorem setSilenceTime_own (h : s.MayOrder p) {v w : Nat} (hw : w = clamp 2 60 v) :
    ∃ t, exec (.setSilenceTime p (.port p.val) v) s = .next t ∧
      t = { s with ports := t.ports, outputs := t.outputs } ∧ t.OutputsHold ∧
      Answered p (setEntry (if w = v then .ok else .clamped))
        { s with ports := s.ports.set p { s.port p with silenceTime := w } } t := by
  subst hw
  obtain ⟨t, ht, hr, hout, -, -, hans⟩ := set_port (c := .setSilenceTime p (.port p.val) v)
    (x := { s.port p with silenceTime := clamp 2 60 v }) h.1 rfl rfl
    (setOwn_own h _ 2 60 v fun v q => { q with silenceTime := v })
    (by rw [port_taking_self]; simp [Port.written, Port.SameButMarks]) rfl
  exact ⟨t, ht, hr, hout, hans⟩

theorem setRefreshPeriod_own (h : s.MayOrder p) {v w : Nat} (hw : w = clamp 1 60 v) :
    ∃ t, exec (.setRefreshPeriod p (.port p.val) v) s = .next t ∧
      t = { s with ports := t.ports, outputs := t.outputs } ∧ t.OutputsHold ∧
      Answered p (setEntry (if w = v then .ok else .clamped))
        { s with ports := s.ports.set p { s.port p with refreshPeriod := w } } t := by
  subst hw
  obtain ⟨t, ht, hr, hout, -, -, hans⟩ := set_port (c := .setRefreshPeriod p (.port p.val) v)
    (x := { s.port p with refreshPeriod := clamp 1 60 v }) h.1 rfl rfl
    (setOwn_own h _ 1 60 v fun v q => { q with refreshPeriod := v })
    (by rw [port_taking_self]; simp [Port.written, Port.SameButMarks]) rfl
  exact ⟨t, ht, hr, hout, hans⟩

/-- R169: the report that is due keeps its spacing; a port that was SILENT has become ACTIVE, which is a change of the
summary. -/
theorem setReportSpacing_own (h : s.MayOrder p) {v w : Nat} (hw : w = clamp 100 2000 v) :
    ∃ t, exec (.setReportSpacing p (.port p.val) v) s = .next t ∧
      t = { s with ports := t.ports, outputs := t.outputs } ∧ t.OutputsHold ∧
      Answered p (setEntry (if w = v then .ok else .clamped))
        { s with ports := s.ports.set p { s.port p with
          reportSpacing := w
          dueSpacing := if (s.port p).reportsEnabled ∧ ((s.port p).changed ≠ [] ∨ (s.port p).summaryChanged = true ∨
              (s.port p).refreshCycle ≠ none ∨ (s.port p).active = false) then
            some ((s.port p).dueSpacing.getD (s.port p).reportSpacing) else none } } t := by
  subst hw
  have due : ((s.taking p (.set (.reportSpacing v) (.port p.val))).port p).reportDue = true ↔
      (s.port p).reportsEnabled = true ∧ ((s.port p).changed ≠ [] ∨ (s.port p).summaryChanged = true ∨
        (s.port p).refreshCycle ≠ none ∨ (s.port p).active = false) := by
    rw [port_taking_self]
    simp [Port.reportDue, Option.isSome_iff_ne_none]
    tauto
  obtain ⟨t, ht, hr, hout, -, -, hans⟩ := set_port (c := .setReportSpacing p (.port p.val) v)
    (x := { s.port p with
      reportSpacing := clamp 100 2000 v
      dueSpacing := if (s.port p).reportsEnabled ∧ ((s.port p).changed ≠ [] ∨ (s.port p).summaryChanged = true ∨
          (s.port p).refreshCycle ≠ none ∨ (s.port p).active = false) then
        some ((s.port p).dueSpacing.getD (s.port p).reportSpacing) else none }) h.1 rfl rfl
    (setOwn_own h _ 100 2000 v Port.withSpacing) (by
      simp only [Port.withSpacing, due]
      rw [port_taking_self]; simp [Port.written, Port.SameButMarks, Port.governingSpacing]) rfl
  exact ⟨t, ht, hr, hout, hans⟩

theorem setReportsEnabled_other (it : Item) {q : PortId} (hq : q ≠ p) (v : Nat) :
    (s.taking p it).setReportsEnabled p (.port q.val) v = (s.taking p it).answer .range := by
  have : q.val ≠ p.val := fun e => hq (Fin.ext e)
  simp [State.setReportsEnabled, this]

/-! R83: the role of a port. -/

@[simp] theorem indexed_val {n : Nat} (i : Fin n) : indexed n i.val = some i := by simp [indexed]

theorem setRole_legal (h : s.MayInstall p) (it : Item) {q : PortId} {v : Nat} {r : Role} (hv : readRole v = some r)
    (hr : r = .command ∨ s.holds.console[q] = 0) :
    (s.taking p it).setRole p (.port q.val) v = ((s.taking p it).modPort q fun x => { x with role := r }).answer .ok := by
  simp only [State.setRole, asCommand_taking h.1.2, State.asUnlocked, State.taking_store, h.2, if_true, indexed_val, hv,
    State.taking_holds]
  refine if_neg fun e => ?_
  obtain ⟨monitor, holding⟩ := Bool.and_eq_true_iff.mp e
  obtain rfl | hz := hr
  · cases of_decide_eq_true monitor
  · simp [hz] at holding

theorem setRole_holding (h : s.MayInstall p) (it : Item) {q : PortId} (hz : s.holds.console[q] ≠ 0) :
    (s.taking p it).setRole p (.port q.val) 1 = (s.taking p it).answer .refusedState := by
  simp only [State.setRole, asCommand_taking h.1.2, State.asUnlocked, State.taking_store, h.2, if_true, indexed_val,
    readRole, State.taking_holds]
  exact if_pos (by simpa using hz)

theorem setRole_outOfRange (h : s.MayInstall p) (it : Item) (q : PortId) {v : Nat} (hv : 2 ≤ v) :
    (s.taking p it).setRole p (.port q.val) v = (s.taking p it).answer .range := by
  have none : readRole v = none := by
    match v, hv with
    | n + 2, _ => rfl
  simp [State.setRole, asCommand_taking h.1.2, State.asUnlocked, h.2, none]

theorem setPortRole_done (h : s.MayInstall p) {q : PortId} {v : Nat} {r : Role} (hv : readRole v = some r)
    (hr : r = .command ∨ s.holds.console[q] = 0) :
    ∃ t, exec (.setPortRole p (.port q.val) v) s = .next t ∧
      t = { s with ports := t.ports, outputs := t.outputs } ∧ t.OutputsHold ∧
      Answered p (setEntry .ok) { s with ports := s.ports.set q { s.port q with role := r } } t := by
  obtain ⟨t, ht, hr, hout, -, -, hans⟩ := set_port (c := .setPortRole p (.port q.val) v)
    (x := { s.port q with role := r }) h.1.1 rfl rfl (setRole_legal h _ hv hr) (by
      by_cases e : q = p
      · subst e; rw [port_taking_self]; simp [Port.written, Port.SameButMarks]
      · rw [port_taking_other e]; simp [Port.written, Port.SameButMarks, e]) rfl
  exact ⟨t, ht, hr, hout, hans⟩

/-! R169: reports enabled. -/

theorem reportsEnabled_taking (s : State) (p : PortId) (it : Item) :
    ((s.taking p it).port p).reportsEnabled = (s.port p).reportsEnabled := by rw [port_taking_self]

theorem installedDoors_taking (s : State) (p : PortId) (it : Item) : (s.taking p it).installedDoors = s.installedDoors := by
  simp [State.installedDoors, State.doorsWhere]

theorem setReportsEnabled_yes (hf : s.Free p) (he : (s.port p).reportsEnabled = false) :
    ∃ t, exec (.setReportsEnabled p (.port p.val) 1) s = .next t ∧
      t = { s with ports := t.ports, outputs := t.outputs } ∧ t.OutputsHold ∧
      (t.port p).changed = s.installedDoors ∧ (t.port p).summaryChanged = true ∧
      Answered p (setEntry .ok) { s with ports := s.ports.set p { s.port p with
        reportsEnabled := true, lastReported := Vector.replicate 48 none, refreshStart := some s.runCount } } t := by
  obtain ⟨t, ht, hr, hout, changed, flagged, hans⟩ := set_port (c := .setReportsEnabled p (.port p.val) 1) (q := p)
    (r := .ok) (f := fun q => { q with
      reportsEnabled := true, changed := s.installedDoors, lastReported := Vector.replicate 48 none
      summaryChanged := true, refreshStart := some s.runCount }) (x := { s.port p with
      reportsEnabled := true, lastReported := Vector.replicate 48 none, refreshStart := some s.runCount }) hf rfl rfl
    (by simp only [State.setting, State.setReportsEnabled, if_true, reportsEnabled_taking, he, State.enableReports,
          installedDoors_taking, State.taking_runCount])
    (by rw [port_taking_self]; simp [Port.written, Port.SameButMarks]) rfl
  exact ⟨t, ht, hr, hout, changed, flagged rfl, hans⟩

theorem setReportsEnabled_no (hf : s.Free p) (he : (s.port p).reportsEnabled = true) :
    ∃ t, exec (.setReportsEnabled p (.port p.val) 0) s = .next t ∧
      t = { s with ports := t.ports, outputs := t.outputs } ∧ t.OutputsHold ∧
      Answered p (setEntry .ok) { s with ports := s.ports.set p { s.port p with
        reportsEnabled := false, dueSpacing := none, refreshCycle := none, refreshStart := none } } t := by
  obtain ⟨t, ht, hr, hout, -, -, hans⟩ := set_port (c := .setReportsEnabled p (.port p.val) 0) (q := p)
    (r := .ok) (f := fun q => { q with
      reportsEnabled := false, dueSpacing := none, refreshCycle := none, refreshStart := none }) (x := { s.port p with
      reportsEnabled := false, dueSpacing := none, refreshCycle := none, refreshStart := none }) hf rfl rfl
    (by simp only [State.setting, State.setReportsEnabled, if_true, reportsEnabled_taking, he, State.disableReports])
    (by rw [port_taking_self]; simp [Port.written, Port.SameButMarks]) rfl
  exact ⟨t, ht, hr, hout, hans⟩

theorem setReportsEnabled_same (it : Item) {v : Nat} (hv : v = if (s.port p).reportsEnabled then 1 else 0) :
    (s.taking p it).setReportsEnabled p (.port p.val) v = (s.taking p it).answer .ok := by
  subst hv
  cases he : (s.port p).reportsEnabled <;>
    simp only [State.setReportsEnabled, if_true, reportsEnabled_taking, he, Bool.false_eq_true, if_false]

/-! ### The device -/

/-- A SET that leaves the ports as they are. -/
theorem set_portless {c : Instr} {w : SettingWrite} {g : Target} {u : State} (hf : s.Free p)
    (hi : c.item = some (p, .set w g)) (hm : itemMalformed (.set w g) = false)
    (ha : (s.taking p (.set w g)).setting p g w = u.answer .ok) (hu : u.ports = (s.taking p (.set w g)).ports) :
    ∃ t, exec c s = .next t ∧ t = { u with ports := t.ports, outputs := t.outputs } ∧
      t.OutputsHold ∧ Answered p (setEntry .ok) s t := by
  obtain ⟨t, ht, hr, hans, hout⟩ := set_done hf hi hm ha fun q => by
    simp [State.answer, State.port, hu, Port.SameButMarks]
  exact ⟨t, ht, hr, hout, hans⟩

theorem setStartClosed_done (h : s.MayInstall p) {v : Nat} (hv : v ≤ 1) :
    ∃ t, exec (.setStartClosed p .device v) s = .next t ∧
      t = { s with ports := t.ports, store := { s.store with startClosed := decide (v = 1) }, outputs := t.outputs } ∧
      t.OutputsHold ∧ Answered p (setEntry .ok) s t := by
  obtain ⟨t, ht, hr, hout, hans⟩ := set_portless (c := .setStartClosed p .device v) (w := .startClosed v) (g := .device)
    (u := { s.taking p (.set (.startClosed v) .device) with store := { s.store with startClosed := v = 1 } }) h.1.1 rfl rfl
    (by simp [State.setting, State.setStartClosed, asCommand_taking h.1.2, State.asUnlocked, h.2, hv]) rfl
  exact ⟨t, ht, by rw [hr, taking_rest], hout, hans⟩

theorem setStartClosed_outOfRange (h : s.MayInstall p) (it : Item) {v : Nat} (hv : 2 ≤ v) :
    (s.taking p it).setStartClosed p .device v = (s.taking p it).answer .range := by
  have : ¬v ≤ 1 := by omega
  simp [State.setStartClosed, asCommand_taking h.1.2, State.asUnlocked, h.2, this]

/-- R183: bits 12 to 15 of a mask are clear exactly if it stands for less than 4096. -/
theorem mask_legal_iff (m : BitVec 16) : m &&& 0xF000#16 = 0 ↔ m.toNat < 4096 := by
  have high : ∀ i < 16, (0xF000#16).getLsbD i = decide (12 ≤ i) := by decide
  constructor
  · intro h
    refine Nat.lt_pow_two_of_testBit (n := 12) m.toNat fun i hi => ?_
    by_cases hw : i < 16
    · have bit := congrArg (fun x : BitVec 16 => x.getLsbD i) h
      rw [BitVec.testBit_toNat]
      simpa [high i hw, hi] using bit
    · exact BitVec.getLsbD_of_ge m i (by omega)
  · intro h
    refine BitVec.eq_of_getLsbD_eq fun i hi => ?_
    rw [BitVec.getLsbD_and, high i hi]
    by_cases hl : 12 ≤ i
    · have : m.getLsbD i = false :=
        Nat.testBit_lt_two_pow (h.trans_le (Nat.pow_le_pow_right (by omega) hl : 2 ^ 12 ≤ 2 ^ i))
      simp [this]
    · simp [hl]

theorem setFaultAlarmMask_done (h : s.MayInstall p) {m : BitVec 16} (hm : m.toNat < 4096) :
    ∃ t, exec (.setFaultAlarmMask p .device m) s = .next t ∧
      t = { s with ports := t.ports, store := { s.store with alarmMask := m.setWidth 12 }, outputs := t.outputs } ∧
      t.OutputsHold ∧ Answered p (setEntry .ok) s t := by
  obtain ⟨t, ht, hr, hout, hans⟩ := set_portless (c := .setFaultAlarmMask p .device m) (w := .faultAlarmMask m)
    (g := .device) (u := { s.taking p (.set (.faultAlarmMask m) .device) with
      store := { s.store with alarmMask := m.setWidth 12 } }) h.1.1 rfl rfl
    (by simp only [State.setting, State.setAlarmMask, asCommand_taking h.1.2, State.asUnlocked, State.taking_store, h.2,
          if_true, (mask_legal_iff m).mpr hm]) rfl
  exact ⟨t, ht, by rw [hr, taking_rest], hout, hans⟩

theorem setAlarmMask_outOfRange (h : s.MayInstall p) (it : Item) {m : BitVec 16} (hm : 4096 ≤ m.toNat) :
    (s.taking p it).setAlarmMask p .device m = (s.taking p it).answer .range := by
  simp only [State.setAlarmMask, asCommand_taking h.1.2, State.asUnlocked, State.taking_store, h.2, if_true]
  exact if_neg fun e => absurd ((mask_legal_iff m).mp e) (not_lt.mpr hm)

theorem setVesselIdentity_done (h : s.MayOrder p) {text : List Byte} (hi : s.store.identity = []) (hl : 1 ≤ text.length)
    (hu : text.length ≤ 16) (hp : ∀ b ∈ text, 0x20 ≤ b.toNat ∧ b.toNat ≤ 0x7E) :
    ∃ t, exec (.setVesselIdentity p .device text) s = .next t ∧
      t = { s with ports := t.ports, store := { s.store with identity := text }, outputs := t.outputs } ∧
      t.OutputsHold ∧ Answered p (setEntry .ok) s t := by
  have printed : text.all printable = true := by simpa [printable] using hp
  obtain ⟨t, ht, hr, hout, hans⟩ := set_portless (c := .setVesselIdentity p .device text) (w := .vesselIdentity text)
    (g := .device) (u := { s.taking p (.set (.vesselIdentity text) .device) with
      store := { s.store with identity := text } }) h.1 rfl rfl
    (by simp [State.setting, State.setIdentity, asCommand_taking h.2, hi, hl, hu, printed]) rfl
  exact ⟨t, ht, by rw [hr, taking_rest], hout, hans⟩

theorem setIdentity_outOfRange (h : s.MayOrder p) (it : Item) {text : List Byte} (hi : s.store.identity = [])
    (ht : text = [] ∨ 16 < text.length ∨ ∃ b ∈ text, b.toNat < 0x20 ∨ 0x7E < b.toNat) :
    (s.taking p it).setIdentity p .device text = (s.taking p it).answer .range := by
  simp only [State.setIdentity, asCommand_taking h.2, State.taking_store, hi, ne_eq, not_true, if_false]
  refine if_neg fun e => ?_
  simp only [Bool.and_eq_true, decide_eq_true_eq, List.all_eq_true, printable] at e
  obtain ⟨⟨lower, upper⟩, printed⟩ := e
  obtain rfl | long | ⟨b, hb, hn⟩ := ht
  · simp at lower
  · omega
  · have := printed b hb
    omega

theorem setIdentity_written (h : s.MayOrder p) (it : Item) (text : List Byte) (hi : s.store.identity ≠ []) :
    (s.taking p it).setIdentity p .device text = (s.taking p it).answer .locked := by
  simp [State.setIdentity, asCommand_taking h.2, hi]

theorem setClockTrim_done (h : s.MayOrder p) {v : Nat} {d : Byte} (hv : v ≤ 3600) (hd : d = 0x01 ∨ d = 0xFF) :
    ∃ t, exec (.setClockTrim p .device v d) s = .next t ∧
      t = { s with ports := t.ports, outputs := t.outputs
                   clock := { s.clock with
                     trimInterval := v, trimForward := decide (d = 0x01)
                     trimTimer := if v = 0 then none else some (s.runCount + v * 1000) } } ∧
      t.OutputsHold ∧ Answered p (setEntry .ok) s t := by
  have direction : readDirection d = some (decide (d = 0x01)) := by
    obtain rfl | rfl := hd
    · rfl
    · rfl
  obtain ⟨t, ht, hr, hout, hans⟩ := set_portless (c := .setClockTrim p .device v d) (w := .clockTrim v d)
    (g := .device) (u := { s.taking p (.set (.clockTrim v d) .device) with
      clock := { s.clock with
        trimInterval := v, trimForward := decide (d = 0x01)
        trimTimer := if v = 0 then none else some (s.runCount + v * 1000) } }) h.1 rfl rfl
    (by simp [State.setting, State.setTrim, asCommand_taking h.2, direction, hv]) rfl
  exact ⟨t, ht, by rw [hr, taking_rest], hout, hans⟩

theorem setTrim_outOfRange (h : s.MayOrder p) (it : Item) {v : Nat} {d : Byte} (hd : 3600 < v ∨ d ≠ 0x01 ∧ d ≠ 0xFF) :
    (s.taking p it).setTrim p .device v d = (s.taking p it).answer .range := by
  simp only [State.setTrim, asCommand_taking h.2]
  obtain hv | ⟨h1, h2⟩ := hd
  · have : ¬v ≤ 3600 := by omega
    simp only [this, if_false]
    split <;> rfl
  · have none : readDirection d = none := by
      unfold readDirection
      rw [if_neg h1, if_neg h2]
    simp [none]

/-- Settles O43: the ports by one rule for a SET that writes a port, the device by one for a SET that leaves the ports. -/
theorem portAndDeviceSetsWriteTheirFields : Obligations.PortAndDeviceSetsWriteTheirFields := by
  refine ⟨fun s p q v w r => ⟨fun h => ⟨setSilenceTime_own h, setReportSpacing_own h, setRefreshPeriod_own h, ?_⟩,
    fun h => ⟨setPortRole_done h, fun hz ho => set_unchanged h.1.1 ho rfl rfl (setRole_holding h _ hz),
      fun hv ho => set_unchanged h.1.1 ho rfl rfl (setRole_outOfRange h _ q hv)⟩,
    fun hf => ⟨setReportsEnabled_yes hf, setReportsEnabled_no hf,
      fun hv ho => set_unchanged hf ho rfl rfl (setReportsEnabled_same _ hv)⟩⟩,
    fun s p v m text d => ⟨fun h => ⟨setStartClosed_done h,
        fun hv ho => set_unchanged h.1.1 ho rfl rfl (setStartClosed_outOfRange h _ hv), setFaultAlarmMask_done h,
        fun hm ho => set_unchanged h.1.1 ho rfl rfl (setAlarmMask_outOfRange h _ hm)⟩,
      fun h => ⟨setVesselIdentity_done h,
        fun hi ht ho => set_unchanged h.1 ho rfl rfl (setIdentity_outOfRange h _ hi ht),
        fun hi ho => set_unchanged h.1 ho rfl rfl (setIdentity_written h _ text hi), setClockTrim_done h,
        fun hd ho => set_unchanged h.1 ho rfl rfl (setTrim_outOfRange h _ hd)⟩⟩⟩
  intro hq ho c hc
  simp only [List.mem_cons, List.not_mem_nil, or_false] at hc
  obtain rfl | rfl | rfl | rfl := hc
  · exact set_unchanged h.1 ho rfl rfl (setOwn_other h _ hq 2 60 v fun v q => { q with silenceTime := v })
  · exact set_unchanged h.1 ho rfl rfl (setOwn_other h _ hq 100 2000 v Port.withSpacing)
  · exact set_unchanged h.1 ho rfl rfl (setOwn_other h _ hq 1 60 v fun v q => { q with refreshPeriod := v })
  · exact set_unchanged h.1 ho rfl rfl (setReportsEnabled_other _ hq v)

end Sys2Proof.Machine
end

section
/-! SUPPORT. Events at a D48 with supply: what every event has in common, the receivers and the transmitters of the
console ports, and the silence timer. -/

namespace Sys2Proof.Machine

variable {s : State}

/-! ### Events -/

/-- Assumption 5: an event at a D48 with supply. -/
theorem live_powered (hp : s.powered = true) (f : State → State) : s.live f = .next (f s) := by
  simp [State.live, hp]

/-- What an event that works on doors and units leaves: doors and units as `u` has them, and the outputs by their own
rule. -/
structure DoorsWorked (s u t : State) : Prop where
  doors : t.doors = u.doors
  units : t.units = u.units
  rest : t = { s with ports := t.ports, doors := t.doors, units := t.units, outputs := t.outputs }
  outputs : t.OutputsHold
  ports : ∀ q, (s.port q).SameButMarks (t.port q)

theorem DoorsWorked.door {u t : State} (h : DoorsWorked s u t) (j : DoorId) : t.door j = u.door j := by
  rw [State.door, h.doors]; rfl

theorem DoorsWorked.unit {u t : State} (h : DoorsWorked s u t) (v : UnitId) : t.unit v = u.unit v := by
  rw [State.unit, h.units]; rfl

theorem DoorsWorked.onlyDoors {u t : State} (h : DoorsWorked s u t) (hu : u.units = s.units) :
    t = { s with ports := t.ports, doors := t.doors, outputs := t.outputs } := by
  have rest := h.rest
  rw [h.units, hu] at rest
  exact rest

/-- Work on doors and units, followed by the evaluation of the outputs. -/
theorem OnlyDoors.worked {u : State} (h : OnlyDoors s u) : DoorsWorked s u u.evalOutputs :=
  ⟨by simp, by simp, by simpa using h.outputs, outputsHold_evalOutputs u,
    fun q => (h.ports q).trans (sameButMarks_evalOutputs u q)⟩

/-! ### Receivers -/

/-- A write of a port that leaves its activity and attention, as a write of the ports. -/
theorem modPort_plain {p : PortId} {f : Port → Port} (ha : (f (s.port p)).active = (s.port p).active)
    (ht : (f (s.port p)).attention = (s.port p).attention) :
    s.modPort p f = { s with ports := s.ports.set p (f (s.port p)) } := by
  simp [State.modPort, ha, ht, State.touchIf]

theorem modBranch_plain {b : BranchId} {f : Branch → Branch} (h : (f (s.branch b)).roundCounter = (s.branch b).roundCounter) :
    s.modBranch b f = { s with branches := s.branches.set b (f (s.branch b)) } := by
  simp [State.modBranch, h, State.touchIf]

theorem receiving_eq (p : PortId) (c : Bool) :
    s.receiving p c = { s with ports := s.ports.set p { s.port p with collecting := c } } := modPort_plain rfl rfl

theorem listening_eq (b : BranchId) (c : Bool) :
    s.listening b c = { s with branches := s.branches.set b { s.branch b with collecting := c } } := modBranch_plain rfl

/-! ### Transmitters -/

theorem modPort_self {p : PortId} {f : Port → Port} (h : f (s.port p) = s.port p) : s.modPort p f = s := by
  rw [modPort_plain (by rw [h]) (by rw [h]), h]
  simp [State.port]

theorem responseSend_waiting {p : PortId} {r : Response} {rest : List Response} (hs : (s.port p).sending = none)
    (hq : (s.port p).queue = r :: rest) :
    s.responseSend p = { s with ports := s.ports.set p { s.port p with sending := some (.response r), queue := rest } } := by
  rw [State.responseSend, modPort_plain] <;> simp only [hs, hq]

theorem responseSend_idle {p : PortId} (h : (s.port p).sending ≠ none ∨ (s.port p).queue = []) : s.responseSend p = s := by
  refine modPort_self ?_
  split
  · next hs hq => simp [hs, hq] at h
  · rfl

/-- R156: the end of a response that carries no restart. -/
theorem responseSentNow_plain {p : PortId} {r : Response} (hs : (s.port p).sending = some (.response r))
    (hc : r.carriesRestart = false) :
    s.responseSentNow p = { s with ports := s.ports.set p { s.port p with
        sending := none
        silenceTimer := if r.busy = false ∧ (s.port p).request = none then
            some (s.runCount + (s.port p).silenceTime * 1000)
          else (s.port p).silenceTimer } } := by
  have sent : s.responseSentNow p = s.modPort p fun q => q.responseSent r s.runCount := by
    simp [State.responseSentNow, hs, hc]
  rw [sent, modPort_plain rfl rfl]
  simp [Port.responseSent]

/-! ### The silence timer -/

/-- R156: a port that has fallen silent. -/
def Port.silenced (q : Port) : Port := { q with active := false, silenceTimer := none, attention := true }

theorem silenceExpired_due {p : PortId} {e : Nat} (h : (s.port p).silenceTimer = some e) (he : e ≤ s.runCount) :
    s.silenceExpired p = s.modPort p Port.silenced := by
  simp only [State.silenceExpired, h, Option.any_some, he, decide_true, if_true]; rfl

/-- The outputs change of a port its summary changed flag alone, and set it at most. -/
theorem port_evalOutputs (s : State) (q : PortId) :
    s.evalOutputs.port q = { s.port q with summaryChanged := (s.evalOutputs.port q).summaryChanged } ∧
      ((s.port q).summaryChanged = true → (s.evalOutputs.port q).summaryChanged = true) := by
  simp only [State.evalOutputs, State.port_touchIf, Bool.or_eq_true]
  exact ⟨rfl, .inr⟩

theorem silenceTimeout_due {p : PortId} {e : Nat} (hp : s.powered = true) (h : (s.port p).silenceTimer = some e)
    (he : e ≤ s.runCount) :
    ∃ t, exec (.silenceTimeout p) s = .next t ∧ t = { s with ports := t.ports, outputs := t.outputs } ∧ t.OutputsHold ∧
      OtherPorts p s t ∧
      t.port p = { s.port p with
        active := false, silenceTimer := none, attention := true, summaryChanged := (t.port p).summaryChanged } ∧
      (((s.port p).active = true ∨ (s.port p).attention = false) → ∀ q, (t.port q).summaryChanged = true) := by
  have executed : exec (.silenceTimeout p) s = .next (s.modPort p Port.silenced).evalOutputs := by
    rw [← silenceExpired_due h he]
    exact live_powered hp fun s => (s.silenceExpired p).evalOutputs
  refine ⟨_, executed, ?_, outputsHold_evalOutputs _, fun q hq => ?_, ?_, fun ha q => ?_⟩
  · rw [evalOutputs_rest, modPort_rest]
  · refine Port.SameButMarks.trans ?_ (sameButMarks_evalOutputs _ q)
    rw [State.port_modPort, if_neg hq, Port.SameButMarks]
  · refine (port_evalOutputs _ p).1.trans ?_
    rw [State.port_modPort, if_pos rfl]; rfl
  · refine (port_evalOutputs _ q).2 ?_
    have changed : (s.port p).alertChanged (s.port p).silenced = true := by
      obtain ha | ha := ha <;> simp [Port.alertChanged, Port.silenced, ha]
    rw [State.port_modPort]
    split <;> simp [changed]

/-- Settles O44: each event by its own equation. -/
theorem receiversAndResponses : Obligations.ReceiversAndResponses := by
  intro s p b hp
  refine ⟨?_, ?_, ?_, ?_, ?_, ?_, fun r rest hs hq => ?_, fun h => ?_, fun r hs hc => ?_,
    fun e h => ⟨silenceTimeout_due hp h, fun he ho => ?_⟩⟩
  · rw [← receiving_eq]; exact live_powered hp fun s => s.receiving p true
  · rw [← receiving_eq]; exact live_powered hp fun s => s.receiving p false
  · rw [← receiving_eq]; exact live_powered hp fun s => s.receiving p false
  · rw [← listening_eq]; exact live_powered hp fun s => s.listening b true
  · rw [← listening_eq]; exact live_powered hp fun s => s.listening b false
  · rw [← listening_eq]; exact live_powered hp fun s => s.listening b false
  · rw [← responseSend_waiting hs hq]; exact live_powered hp fun s => s.responseSend p
  · exact (live_powered hp fun s => s.responseSend p).trans (by rw [responseSend_idle h])
  · rw [← responseSentNow_plain hs hc]; exact live_powered hp fun s => s.responseSentNow p
  · have early : s.silenceExpired p = s := by simp [State.silenceExpired, h, he]
    exact (live_powered hp fun s => (s.silenceExpired p).evalOutputs).trans (by rw [early, evalOutputs_eq_self ho])

end Sys2Proof.Machine
end


section
/-! SUPPORT. Statements about admission runs that fail where a door waits for a slot that it holds already: the run
admits it without growing the slot holders, and so takes one entry more than the slots that were free. No hypothesis
of these statements keeps a unit's entries apart from its slot holders. -/

namespace Sys2Proof.Machine

/-- An entry of door `i + 1` for a closing stroke. -/
def waitingEntry (i : DoorId) : Entry := { door := i, direction := .close, cls := 1, cause := .localControl, arrival := 0 }

/-- A unit of two slots in whose list a slot holder, door 2, waits before door 3. -/
def doublyListed (st : UnitState) (holders : List DoorId) : PowerUnit :=
  { PowerUnit.powerOn UnitImage.defaults false with
    state := st, timer := some 0, holders := holders, list := [waitingEntry 1, waitingEntry 2] }

/-- An installed door with a stroke in a direction whose drive was issued at instant 0. -/
def strokingDoor (st : DoorState) (dir : Dir) : Door :=
  { Door.powerOn { DoorImage.defaults with installed := true } with
    state := st
    stroke := some { direction := dir, cause := .closure, cls := 1, driveIssued := some 0, startPosition := none
                     mark := none, estimate := none, lateForecast := false } }

/-- The D48 one ms after reset, with door 1 and power unit 1 as given. -/
def withDoubled (d : Door) (x : PowerUnit) : State :=
  { State.reset with runCount := 1, doors := State.reset.doors.set 0 d, units := State.reset.units.set 0 x }

/-- The list of power unit 1 after a command. -/
def listAfter (c : Instr) (s : State) : Option (List Entry) :=
  match exec c s with
  | .next t => some (t.unit 0).list
  | _ => none

theorem list_of_listAfter {c : Instr} {s t : State} {l : List Entry} (h : listAfter c s = some l)
    (ht : exec c s = .next t) : (t.unit 0).list = l := by
  simpa [listAfter, ht] using h

theorem doublyListed_takesOne :
    (((doublyListed .running [0, 1]).without 0).ran false).list = [waitingEntry 2] := by decide

/-- Door 1 leaves the slot holders, and the model's run admits both entries where `PowerUnit.ran` takes one. -/
theorem not_freesSlot_of_list_nil {s t : State} {rest : DoorId → Door → Door} (hdoor : (s.door 0).unit = 0)
    (hunit : s.unit 0 = doublyListed .running [0, 1]) (hcutoff : s.cutoff.value = false)
    (hlist : (t.unit 0).list = []) : ¬ FreesSlot s 0 rest t := by
  intro h
  obtain ⟨-, -, hrun⟩ := h
  rw [hdoor, hunit, hcutoff] at hrun
  obtain ⟨hafter, -⟩ := hrun (by decide)
  have hidled : ((((doublyListed .running [0, 1]).without 0).ran false).idled s.runCount).list = [waitingEntry 2] := by
    simp [PowerUnit.idled, doublyListed_takesOne]
  rw [← hafter, hlist] at hidled
  cases hidled

/-- Refutes O29: STOP of a closing door frees one slot, and both doors of the list are admitted. -/
theorem not_stopHaltsAndCancels : ¬ Obligations.StopHaltsAndCancels := by
  intro h
  obtain ⟨-, -, -, -, hstroke⟩ := h (withDoubled (strokingDoor .closing .close) (doublyListed .running [0, 1])) 0 0
    (by decide +kernel) (by decide +kernel)
  obtain ⟨t, ht, -, hfrees, -⟩ := hstroke (by decide +kernel) (by decide +kernel) (by decide +kernel)
  exact not_freesSlot_of_list_nil (by decide +kernel) (by decide +kernel) (by decide +kernel)
    (list_of_listAfter (l := []) (by decide +kernel) ht) hfrees

/-- Refutes O55: a started unit with one slot held and one free admits both its entries. -/
theorem not_unitTimersMoveTheUnit : ¬ Obligations.UnitTimersMoveTheUnit := by
  intro h
  obtain ⟨-, hdue⟩ := h (withDoubled (strokingDoor .closing .close) (doublyListed .starting [1])) 0 0
    (by decide +kernel) (by decide +kernel)
  obtain ⟨-, -, hstart⟩ := hdue (by decide)
  obtain ⟨t, ht, hunit, -⟩ := hstart (by decide +kernel) (by decide +kernel) (by decide +kernel) _ rfl
  have hlist := list_of_listAfter (l := []) (by decide +kernel) ht
  rw [hunit] at hlist
  exact absurd hlist (by decide +kernel)

/-- Refutes O57: the release of the cutoff lets a unit with one slot free take both its entries. -/
theorem not_cutoffCutsEverySlotHolder : ¬ Obligations.CutoffCutsEverySlotHolder := by
  intro h
  obtain ⟨-, -, -, hrelease⟩ := h
    { withDoubled (strokingDoor .closing .close) (doublyListed .running [1]) with cutoff := Input.settledAt true }
    (by decide +kernel)
  obtain ⟨-, hruns⟩ := hrelease (by decide)
  obtain ⟨t, ht, hunit, -⟩ := hruns (by decide +kernel)
  have hlist := list_of_listAfter (l := []) (by decide +kernel) ht
  rw [hunit 0] at hlist
  exact absurd hlist (by decide +kernel)

/-! ### Exchanges with the drop of the moving door -/

/-- Drop 1 of branch 1, whose exchange of a kind is in flight and past its deadline, is one miss from being LOST. -/
def lateBranch (k : ExchangeKind) : Branch :=
  { Branch.powerOn BranchImage.defaults with
    exchange := some { drop := 0, kind := k, sequence := 0, deadline := 0 }
    drops := Vector.replicate 12 { missCount := 7, lost := false } }

/-- The exchange in flight on branch 1 is of door 1, whose stroke leaves its slot to a list of two. -/
def exchanging (d : Door) (k : ExchangeKind) : State :=
  { withDoubled d (doublyListed .running [0, 1]) with branches := State.reset.branches.set 0 (lateBranch k) }

/-- Refutes O48: a lost drop ends its door's stroke, and both doors of the list are admitted. -/
theorem not_roundsPollInDropOrder : ¬ Obligations.RoundsPollInDropOrder := by
  intro h
  obtain ⟨-, hlate⟩ := h (exchanging (strokingDoor .closing .close) .regular) 0 (by decide +kernel)
  obtain ⟨-, hpassed⟩ := hlate { drop := 0, kind := .regular, sequence := 0, deadline := 0 } (by decide +kernel)
    (by decide)
  have hnone : (exchanging (strokingDoor .closing .close) .regular).nextPoll 0 = none := by decide +kernel
  obtain ⟨t, ht, -, -, -, -, -, hlost, -⟩ := hpassed (by decide) (by simp [hnone])
  obtain ⟨⟨-, -, hends⟩, -⟩ := hlost 0 (by decide +kernel) (by decide +kernel)
  exact not_freesSlot_of_list_nil (by decide +kernel) (by decide +kernel) (by decide +kernel)
    (list_of_listAfter (l := []) (by decide +kernel) ht) (hends (by decide +kernel) (by decide +kernel))

/-- Branch 1 of `exchanging` with a pending direct exchange of drop 1, for which a request of CP2 waits. -/
def directLate : State :=
  { exchanging (strokingDoor .closing .close) .ident with
    branches := State.reset.branches.set 0
      { lateBranch .ident with pendingDirect := some { drop := 0, kind := .ident, port := 1 } }
    ports := State.reset.ports.set 1 { Port.powerOn .command with
      request := some { token := 0, items := [.direct 1 1 1], index := 0, entries := [], wait := some (.direct 0) } } }

/-- Refutes O22: a direct exchange that is missed loses its drop, and both doors of the list are admitted. -/
theorem not_waitingDirectsAreAnsweredByTheRound : ¬ Obligations.WaitingDirectsAreAnsweredByTheRound := by
  intro h
  obtain ⟨-, -, hflight⟩ := h directLate 0 { drop := 0, kind := .ident, port := 1 }
    { token := 0, items := [.direct 1 1 1], index := 0, entries := [], wait := some (.direct 0) }
    (fun r data => [6, byteOf r.code, byteOf 1, byteOf 1, byteOf ExchangeKind.ident.code] ++
      (data ++ List.replicate 8 0).take 8)
    (by decide +kernel) (by decide +kernel) (by decide +kernel) (by decide) (fun _ _ => rfl)
  obtain ⟨-, hmiss⟩ := hflight { drop := 0, kind := .ident, sequence := 0, deadline := 0 } (by decide +kernel)
    (by decide) (by decide) (by decide)
  obtain ⟨t, ht, -, -, -, -, -, hlost, -⟩ := hmiss (.replyDeadline 0) false
    (.inl ⟨rfl, by decide +kernel, by decide +kernel⟩)
  obtain ⟨⟨-, -, hends⟩, -⟩ := hlost 0 (by decide +kernel) (by decide +kernel)
  exact not_freesSlot_of_list_nil (by decide +kernel) (by decide +kernel) (by decide +kernel)
    (list_of_listAfter (l := []) (by decide +kernel) ht) (hends (by decide +kernel) (by decide +kernel))

/-- A reply of drop 1 to a regular poll of sequence 0: no switch made, no control pressed, at half the travel. -/
def plainReply : List Byte := 0x3C :: ([1, 0, 0, 0x08, 0x00, 0] ++ crcBytes [1, 0, 0, 0x08, 0x00, 0])

/-- What `plainReply` reads as. -/
def plainFrame : StationFrame :=
  { drop := 1, kind := 0, sequence := 0, status := 0, count := 2048, data := [], crcGood := true }

theorem readStationFrame_plainReply : readStationFrame plainReply = some plainFrame := by decide +kernel

/-- The indication of door 1 after a command. -/
def indicationAfter (c : Instr) (s : State) : Option Indication :=
  match exec c s with
  | .next t => some (t.door 0).indication
  | _ => none

theorem indication_of_indicationAfter {c : Instr} {s t : State} {d : Indication} (h : indicationAfter c s = some d)
    (ht : exec c s = .next t) : (t.door 0).indication = d := by
  simpa [indicationAfter, ht] using h

/-- Refutes O50: the reply finds a closing door in AWAITING, whose indication is UNKNOWN, and its stroke ends. -/
theorem not_goodRepliesAreTaken : ¬ Obligations.GoodRepliesAreTaken := by
  intro h
  have hnone : (exchanging (strokingDoor .closing .close) .regular).nextPoll 0 = none := by decide +kernel
  obtain ⟨t, ht, -, -, -, -, -, -, -, -, -, -, -, -, -, -, -, hunknown⟩ :=
    h (exchanging (strokingDoor .closing .close) .regular) 0 plainReply plainFrame
      { drop := 0, kind := .regular, sequence := 0, deadline := 0 } 0 _ (by decide +kernel) (by decide +kernel)
      (by decide) (by simp [hnone]) readStationFrame_plainReply (by decide +kernel) (by decide +kernel) rfl
  obtain ⟨⟨-, -, hends⟩, -⟩ := hunknown (by decide +kernel)
    (indication_of_indicationAfter (by decide +kernel) ht)
  exact not_freesSlot_of_list_nil (by decide +kernel) (by decide +kernel) (by decide +kernel)
    (list_of_listAfter (l := []) (by decide +kernel) ht) (hends (by decide +kernel) (by decide +kernel))

/-- Refutes O51: the same reply ends a driven stroke whose door's indication is UNKNOWN. -/
theorem not_drivenStrokesAreSupervised : ¬ Obligations.DrivenStrokesAreSupervised := by
  intro h
  have hnone : (exchanging (strokingDoor .closing .close) .regular).nextPoll 0 = none := by decide +kernel
  obtain ⟨t, ht, -, hunknown, -⟩ :=
    h (exchanging (strokingDoor .closing .close) .regular) 0 plainReply plainFrame
      { drop := 0, kind := .regular, sequence := 0, deadline := 0 } 0
      { direction := .close, cause := .closure, cls := 1, driveIssued := some 0, startPosition := none
        mark := none, estimate := none, lateForecast := false } 0 (by decide +kernel) (by decide +kernel)
      (by decide) (by simp [hnone]) readStationFrame_plainReply (by decide +kernel) (by decide +kernel)
      (by decide +kernel) (by decide +kernel) (by decide +kernel) (by decide) (by decide +kernel) (by decide +kernel)
      (by decide +kernel)
  obtain ⟨-, -, -, hfrees⟩ := hunknown (indication_of_indicationAfter (by decide +kernel) ht)
  exact not_freesSlot_of_list_nil (by decide +kernel) (by decide +kernel) (by decide +kernel)
    (list_of_listAfter (l := []) (by decide +kernel) ht) hfrees

/-- Every zone is held, and the settled door 1 opens with its local open held. -/
def heldOpening : State :=
  { exchanging { strokingDoor .opening .opening with
      phase := .settled, indication := .partly, localOpen := true, localOpenCount := 1, driveOff := none
      stroke := (strokingDoor .opening .opening).stroke.map fun r => { r with driveIssued := none } } .regular with
    holds := { State.reset.holds with line := allZones } }

/-- Refutes O53: letting go of local open ends the opening, and both doors of the list are admitted. -/
theorem not_lettingGoWaitsToReclose : ¬ Obligations.LettingGoWaitsToReclose := by
  intro h
  have hnone : heldOpening.nextPoll 0 = none := by decide +kernel
  obtain ⟨t, ht, -, -, hwait, -⟩ := h heldOpening 0 plainReply plainFrame
    { drop := 0, kind := .regular, sequence := 0, deadline := 0 } 0 _ (by decide +kernel) (by decide +kernel)
    (by decide) (by simp [hnone]) readStationFrame_plainReply (by decide +kernel) (by decide +kernel)
    (by decide +kernel) (by decide +kernel) (by decide +kernel) rfl (by decide +kernel) (by decide +kernel)
    (by decide +kernel)
  obtain ⟨-, -, hmoving⟩ := hwait (by decide +kernel) (by decide +kernel) (by decide +kernel) _ rfl
  obtain ⟨-, hfrees, -⟩ := hmoving (by decide +kernel) (by decide +kernel)
  exact not_freesSlot_of_list_nil (by decide +kernel) (by decide +kernel) (by decide +kernel)
    (list_of_listAfter (l := []) (by decide +kernel) ht) hfrees

end Sys2Proof.Machine
end


section
/-! SUPPORT. The invariant of the motion of doors is not kept from a state that has an entry of a class past 2: no
clause of it bounds the class, and a hold leaves the entry's cause CONSOLE as it is. -/

namespace Sys2Proof.Machine

/-- Door 1 QUEUED(close) in a GATHERING unit for a request of class 3 and cause CONSOLE, and a HOLD_ZONES of its zone
at the front of the queue. -/
def queuedPastClass2 : State :=
  { State.reset with
    doors := State.reset.doors.set 0
      { Door.powerOn { DoorImage.defaults with installed := true } with
        state := .queued .close, indication := .opened, phase := .settled }
    units := State.reset.units.set 0
      { PowerUnit.powerOn UnitImage.defaults false with
        state := .gathering, timer := some 5000
        list := [{ door := 0, direction := .close, cls := 3, cause := .console 0, arrival := 0 }] }
    pending := [.holdZones 0 (.zoneSet 1)] }

theorem queuedPastClass2_admissionLawful : queuedPastClass2.AdmissionLawful := by
  constructor <;> decide +kernel

theorem queuedPastClass2_motionLawful : queuedPastClass2.MotionLawful := by
  refine ⟨?_, ?_, ?_⟩ <;> decide +kernel

/-- Some unit has, after a step, an entry of cause CONSOLE for a door of a held zone. -/
def consoleEntryHeldAfter (s : State) : Bool :=
  match step s with
  | .next t => (t.unit 0).list.any fun e => t.doorHeld e.door && decide e.cause.OfConsole
  | _ => false

/-- Refutes O6: the hold of the door's zone moves only entries of class 1, and the entry keeps its cause CONSOLE. -/
theorem not_stepKeepsStrokesSlotsAndEntries : ¬ Obligations.StepKeepsStrokesSlotsAndEntries := by
  intro h
  obtain ⟨t, ht⟩ := exec_next (.holdZones 0 (.zoneSet 1)) { queuedPastClass2 with pending := [] }
  rw [← step_cons (s := queuedPastClass2) rfl] at ht
  obtain ⟨-, hmotion⟩ := h queuedPastClass2 t queuedPastClass2_admissionLawful ht
  obtain ⟨-, hentries, -⟩ := hmotion queuedPastClass2_motionLawful
  have hafter : consoleEntryHeldAfter queuedPastClass2 = true := by decide +kernel
  simp only [consoleEntryHeldAfter, ht, List.any_eq_true, Bool.and_eq_true, decide_eq_true_eq] at hafter
  obtain ⟨e, he, hheld, hconsole⟩ := hafter
  obtain ⟨-, hcause⟩ := hentries 0 e he
  exact hcause (.inr hheld) hconsole

end Sys2Proof.Machine
end


section
/-! SUPPORT. The effects of the shared operations on doors and units: which of them write one door alone, what they
make of that door in the terms of Safety.lean, and which doors an operation on another door spares. -/

namespace Sys2Proof.Machine

variable {s t u : State} {i j : DoorId}

/-! ### What work on doors and units reads -/

theorem OnlyDoors.runCount (h : OnlyDoors s t) : t.runCount = s.runCount := by rw [h.rest]
theorem OnlyDoors.settingsHold (h : OnlyDoors s t) : t.settingsHold = s.settingsHold := by rw [h.rest]
theorem OnlyDoors.clock (h : OnlyDoors s t) : t.clock = s.clock := by rw [h.rest]
theorem OnlyDoors.holds (h : OnlyDoors s t) : t.holds = s.holds := by rw [h.rest]
theorem OnlyDoors.cutoff (h : OnlyDoors s t) : t.cutoff = s.cutoff := by rw [h.rest]
theorem OnlyDoors.branches (h : OnlyDoors s t) : t.branches = s.branches := by rw [h.rest]
theorem OnlyDoors.branch (h : OnlyDoors s t) (b : BranchId) : t.branch b = s.branch b := by
  rw [State.branch, h.branches]; rfl
theorem OnlyDoors.held (h : OnlyDoors s t) (z : ZoneId) : t.held z = s.held z := by
  rw [State.held, h.holds]; rfl

theorem OnlyDoors.of_rest (h : t = { s with doors := t.doors, units := t.units })
    : OnlyDoors s t := ⟨by rw [h], fun p => by rw [h]; exact .refl _⟩

/-! ### Operations that write one door -/

/-- Of doors and units at most door `i` differs. -/
structure DoorOnly (i : DoorId) (s t : State) : Prop where
  units : t.units = s.units
  others : OtherDoors i s t

theorem DoorOnly.refl (i : DoorId) (s : State) : DoorOnly i s s := ⟨rfl, fun _ _ => rfl⟩

theorem DoorOnly.trans (h : DoorOnly i s t) (k : DoorOnly i t u) : DoorOnly i s u :=
  ⟨k.units.trans h.units, fun j hj => (k.others j hj).trans (h.others j hj)⟩

theorem DoorOnly.unit (h : DoorOnly i s t) (v : UnitId) : t.unit v = s.unit v := by
  rw [State.unit, h.units]; rfl

theorem doorOnly_modDoor (s : State) (i : DoorId) (f : Door → Door) : DoorOnly i s (s.modDoor i f) :=
  ⟨by simp, fun j hj => by rw [State.door_modDoor, if_neg hj]⟩

theorem doorOnly_setState (s : State) (i : DoorId) (st : DoorState) : DoorOnly i s (s.setState i st) :=
  doorOnly_modDoor s i _

theorem doorOnly_setSource (s : State) (i : DoorId) (src : Source) : DoorOnly i s (s.setSource i src) :=
  doorOnly_modDoor s i _

theorem doorOnly_raiseFault (s : State) (i : DoorId) (k : FaultKind) : DoorOnly i s (s.raiseFault i k) :=
  doorOnly_modDoor s i _

theorem doorOnly_clearFault (s : State) (i : DoorId) (k : FaultKind) : DoorOnly i s (s.clearFault i k) :=
  doorOnly_modDoor s i _

theorem doorOnly_raiseCondition (s : State) (i : DoorId) (k : FaultKind) : DoorOnly i s (s.raiseCondition i k) := by
  rw [State.raiseCondition]
  split
  · exact .refl i s
  · exact doorOnly_raiseFault s i k

theorem doorOnly_followCondition (s : State) (i : DoorId) (k : FaultKind) (c : Bool) :
    DoorOnly i s (s.followCondition i k c) := by
  cases c
  · exact doorOnly_clearFault s i k
  · exact doorOnly_raiseCondition s i k

theorem doorOnly_updateNotControlled (s : State) (i : DoorId) : DoorOnly i s (s.updateNotControlled i) :=
  doorOnly_followCondition s i _ _

theorem doorOnly_driveOffNow (s : State) (i : DoorId) : DoorOnly i s (s.driveOffNow i) := by
  rw [State.driveOffNow]
  split
  · exact doorOnly_modDoor s i _
  · exact .refl i s

theorem doorOnly_enterWarning (s : State) (i : DoorId) (c : Cause) : DoorOnly i s (s.enterWarning i c) :=
  (doorOnly_setState s i _).trans (doorOnly_modDoor _ i _)

theorem doorOnly_closureDemand (s : State) (i : DoorId) : DoorOnly i s (s.closureDemand i) := by
  rw [State.closureDemand]
  split
  · exact (doorOnly_enterWarning s i _).trans (doorOnly_setSource _ i _)
  · exact .refl i s

theorem doorOnly_applyPending (s : State) (i : DoorId) : DoorOnly i s (s.applyPending i) := doorOnly_modDoor s i _

theorem doorOnly_applyAtRest (s : State) (i : DoorId) : DoorOnly i s (s.applyAtRest i) := by
  rw [State.applyAtRest]
  split
  · exact .refl i s
  · exact doorOnly_applyPending s i

theorem doorOnly_enterRest (s : State) (i : DoorId) (st : DoorState) : DoorOnly i s (s.enterRest i st) :=
  ((doorOnly_setState s i st).trans (doorOnly_applyAtRest _ i)).trans (doorOnly_closureDemand _ i)

theorem doorOnly_enterIndicated (s : State) (i : DoorId) : DoorOnly i s (s.enterIndicated i) :=
  doorOnly_enterRest s i _

theorem doorOnly_followIndication (s : State) (i : DoorId) : DoorOnly i s (s.followIndication i) := by
  rw [State.followIndication]
  split
  · exact .refl i s
  · exact doorOnly_enterIndicated s i

theorem doorOnly_refusePower (s : State) (i : DoorId) : DoorOnly i s (s.refusePower i) :=
  (doorOnly_raiseFault s i _).trans (doorOnly_enterIndicated _ i)

theorem doorOnly_changeDirection (s : State) (i : DoorId) (dir : Dir) (c : Cause) (cls : Nat) :
    DoorOnly i s (s.changeDirection i dir c cls) :=
  ((doorOnly_driveOffNow s i).trans (doorOnly_modDoor _ i _)).trans (doorOnly_setState _ i _)

theorem doorOnly_enterRecloseWait (s : State) (i : DoorId) : DoorOnly i s (s.enterRecloseWait i) :=
  (doorOnly_setState s i _).trans (doorOnly_modDoor _ i _)

theorem doorOnly_localSource (s : State) (i : DoorId) (old : DoorState) : DoorOnly i s (s.localSource i old) := by
  rw [State.localSource]
  split
  · exact .refl i s
  · exact doorOnly_setSource s i _

theorem doorOnly_issueDrive (s : State) (i : DoorId) : DoorOnly i s (s.issueDrive i) := by
  simp only [State.issueDrive]
  split
  · split
    · exact .refl i s
    · exact doorOnly_modDoor s i _
  · exact .refl i s

/-! ### What they make of the door -/

/-- R87: a door that a closure demand has found, its zone being held or not. -/
def Door.demandTaken (d : Door) (held : Bool) (now : Nat) : Door :=
  if d.installed && d.inService && held && (d.state = .opened || d.state = .halted) && !d.eventFaulted && !d.localOpen then
    { d.warned .closure now with lastSource := some .closure }
  else d

theorem Door.demandTaken_free (d : Door) (now : Nat) : d.demandTaken false now = d := by simp [Door.demandTaken]

theorem Door.demandTaken_faulted {d : Door} (h : d.eventFaulted = true) (held : Bool) (now : Nat) :
    d.demandTaken held now = d := by simp [Door.demandTaken, h]

theorem Door.demandTaken_state {d : Door} (h : d.state ≠ .opened ∧ d.state ≠ .halted) (held : Bool) (now : Nat) :
    d.demandTaken held now = d := by simp [Door.demandTaken, h]

theorem door_closureDemand_self (s : State) (i : DoorId) :
    (s.closureDemand i).door i = (s.door i).demandTaken (s.doorHeld i) s.runCount := by
  rw [State.door_closureDemand, Door.demandTaken]
  simp only [true_and]
  rfl

/-- R54: a rest-state entry, with the closure demand behind it. -/
theorem door_enterRest_self (s : State) (i : DoorId) {st : DoorState} (hr : st.isRest = true) :
    (s.enterRest i st).door i = ((s.door i).rested st s.settingsHold).demandTaken (s.doorHeld i) s.runCount := by
  have written : ((s.setState i st).applyAtRest i).door i = (s.door i).rested st s.settingsHold := by
    rw [State.door_applyAtRest_setState _ _ _ _ hr, if_pos rfl]
  have only := (onlyDoors_setState s i st).trans (onlyDoors_applyAtRest (s.setState i st) i)
  have held : ((s.setState i st).applyAtRest i).doorHeld i = s.doorHeld i := by
    rw [State.doorHeld, written, only.held]; rfl
  rw [State.enterRest, door_closureDemand_self, written, held, only.runCount]

theorem door_enterIndicated_self (s : State) (i : DoorId) :
    (s.enterIndicated i).door i =
      ((s.door i).rested (s.door i).indication.restState s.settingsHold).demandTaken (s.doorHeld i) s.runCount :=
  door_enterRest_self s i (Indication.restState_isRest _)

/-- R23: the drive going OFF. -/
theorem door_driveOffNow_self (s : State) (i : DoorId) : (s.driveOffNow i).door i = (s.door i).undriven s.runCount := by
  rw [State.driveOffNow, Door.undriven]
  split <;> simp_all

theorem door_updateNotControlled_self (s : State) (i : DoorId) :
    (s.updateNotControlled i).door i =
      if (s.door i).installed && !(s.door i).inService && s.doorHeld i then
        (if hasFault (s.door i).faults .notControlled then s.door i
          else (s.door i).faulted .notControlled s.clock.time)
      else (s.door i).cleared .notControlled := by
  rw [State.updateNotControlled, State.followCondition]
  split
  · rw [State.door_raiseCondition]
    cases hasFault (s.door i).faults .notControlled <;> simp
  · rw [State.door_clearFault, if_pos rfl]

/-! ### Doors in no list are spared -/

/-- A door that waits in no list is as it was and waits in none, and becomes no slot holder. -/
def Spares (i : DoorId) (s t : State) : Prop :=
  s.Unlisted i → t.door i = s.door i ∧ t.Unlisted i ∧ ∀ v, i ∈ (t.unit v).holders → i ∈ (s.unit v).holders

theorem Spares.refl (i : DoorId) (s : State) : Spares i s s := fun h => ⟨rfl, h, fun _ => id⟩

theorem Spares.trans (h : Spares i s t) (k : Spares i t u) : Spares i s u := fun hu => by
  obtain ⟨door, unlisted, holders⟩ := h hu
  obtain ⟨door', unlisted', holders'⟩ := k unlisted
  exact ⟨door'.trans door, unlisted', fun v hv => holders v (holders' v hv)⟩

theorem DoorOnly.spares (h : DoorOnly j s t) (hj : j ≠ i) : Spares i s t := fun hu =>
  ⟨h.others i hj.symm, fun v => by rw [h.unit]; exact hu v, fun v => by rw [h.unit]; exact id⟩

theorem spares_modUnit (s : State) (v : UnitId) (f : PowerUnit → PowerUnit)
    (hl : (∀ e ∈ (s.unit v).list, e.door ≠ i) → ∀ e ∈ (f (s.unit v)).list, e.door ≠ i)
    (hh : i ∈ (f (s.unit v)).holders → i ∈ (s.unit v).holders) : Spares i s (s.modUnit v f) := by
  refine fun hu => ⟨by simp, fun w => ?_, fun w => ?_⟩
  · rw [State.unit_modUnit]
    split
    next hw => exact hw ▸ hl (hu v)
    next => exact hu w
  · rw [State.unit_modUnit]
    split
    next hw => exact hw ▸ hh
    next => exact id

theorem mem_of_mem_insertDoor {i j : DoorId} (hj : j ≠ i) {l : List DoorId} (h : i ∈ insertDoor j l) : i ∈ l :=
  ((mem_insertDoor _ _ _).mp h).resolve_left hj.symm

theorem spares_admitHead (s : State) (v : UnitId) {e : Entry} (he : e.door ≠ i) : Spares i s (s.admitHead v e) := by
  have listed := spares_modUnit (i := i) s v
    (fun x => { x with list := x.list.tail, holders := insertDoor e.door x.holders })
    (fun h e he => h e (List.mem_of_mem_tail he)) fun h => mem_of_mem_insertDoor he h
  exact listed.trans (((doorOnly_modDoor _ _ _).trans (doorOnly_setState _ _ _)).spares he)

theorem spares_admitUpTo (i : DoorId) (v : UnitId) (n : Nat) : ∀ s : State, Spares i s (s.admitUpTo v n) := by
  induction n with
  | zero => exact fun s => .refl i s
  | succ n ih =>
    intro s hu
    simp only [State.admitUpTo]
    split
    · exact Spares.refl i s hu
    next e rest hlist =>
      split
      · exact (spares_admitHead s v (hu v e (by simp [hlist]))).trans (ih _) hu
      · exact Spares.refl i s hu

theorem spares_admissionRun (i : DoorId) (s : State) (v : UnitId) : Spares i s (s.admissionRun v) := by
  rw [State.admissionRun]
  split
  · exact spares_admitUpTo i v _ s
  · exact .refl i s

theorem spares_idleIfDone (i : DoorId) (s : State) (v : UnitId) : Spares i s (s.idleIfDone v) := by
  simp only [State.idleIfDone]
  split
  · exact spares_modUnit s v _ (fun h => h) id
  · exact .refl i s

/-- R128: a slot that is freed goes to a door of the list. -/
theorem spares_freeSlot (i : DoorId) (s : State) (j : DoorId) : Spares i s (s.freeSlot j) :=
  ((spares_modUnit s _ _ (fun h => h) fun h => List.mem_of_mem_filter h).trans (spares_admissionRun i _ _)).trans
    (spares_idleIfDone i _ _)

theorem spares_leaveList (i : DoorId) (s : State) (j : DoorId) : Spares i s (s.leaveList j) := by
  have left := spares_modUnit (i := i) s (s.door j).unit (fun x => { x with list := removeEntry j x.list })
    (fun h e he => h e (List.mem_of_mem_filter he)) id
  simp only [State.leaveList]
  split
  · exact left.trans (spares_modUnit _ _ _ (fun h => h) id)
  · exact left.trans (spares_idleIfDone i _ _)

theorem spares_startUnit (i : DoorId) (s : State) (v : UnitId) : Spares i s (s.startUnit v) :=
  spares_modUnit s v _ (fun h => h) id

theorem spares_unitJoined (i : DoorId) (s : State) (v : UnitId) (cls : Nat) : Spares i s (s.unitJoined v cls) := by
  have run := spares_modUnit (i := i) s v (fun x => { x with state := .running, timer := none }) (fun h => h) id
  have gather := spares_modUnit (i := i) s v
    (fun x => { x with state := .gathering, timer := some (s.runCount + x.ageTime) }) (fun h => h) id
  simp only [State.unitJoined]
  split
  · split
    · exact spares_startUnit i s v
    · exact gather
  · split
    · exact spares_startUnit i s v
    · exact .refl i s
  · exact .refl i s
  · exact spares_admissionRun i s v
  · exact run.trans (spares_admissionRun i _ v)
  · exact .refl i s

theorem spares_endStroke (s : State) (hj : j ≠ i) : Spares i s (s.endStroke j) :=
  (((doorOnly_driveOffNow s j).spares hj).trans (spares_freeSlot i _ j)).trans ((doorOnly_modDoor _ j _).spares hj)

theorem spares_endWork (s : State) (hj : j ≠ i) : Spares i s (s.endWork j) := by
  simp only [State.endWork]
  split
  · exact spares_leaveList i s j
  · exact spares_endStroke s hj
  · exact spares_endStroke s hj
  · exact spares_endStroke s hj
  · exact .refl i s

theorem spares_stopToRest (s : State) (hj : j ≠ i) : Spares i s (s.stopToRest j) :=
  (spares_endWork s hj).trans ((doorOnly_enterIndicated _ j).spares hj)

theorem spares_passToWarning (s : State) (hj : j ≠ i) (c : Cause) : Spares i s (s.passToWarning j c) :=
  (spares_endWork s hj).trans ((doorOnly_enterWarning _ j c).spares hj)

theorem spares_haltToRest (s : State) (hj : j ≠ i) : Spares i s (s.haltToRest j) :=
  (spares_endStroke s hj).trans ((doorOnly_enterIndicated _ j).spares hj)

theorem spares_cut (s : State) (hj : j ≠ i) (k : FaultKind) : Spares i s (s.cut j k) := by
  rw [State.cut]
  split
  · exact ((doorOnly_raiseFault s j k).spares hj).trans (spares_haltToRest _ hj)
  · exact .refl i s

theorem spares_dropEntry (s : State) (hj : j ≠ i) : Spares i s (s.dropEntry j) :=
  (((doorOnly_raiseFault s j _).spares hj).trans (spares_leaveList i _ j)).trans
    ((doorOnly_enterIndicated _ j).spares hj)

theorem spares_takeIndication (s : State) (hj : j ≠ i) : Spares i s (s.takeIndication j) := by
  rw [State.takeIndication]
  split
  · exact (doorOnly_followIndication s j).spares hj
  · split
    · exact spares_stopToRest s hj
    · exact .refl i s

theorem spares_unsettle (s : State) (hj : j ≠ i) : Spares i s (s.unsettle j) :=
  ((doorOnly_modDoor s j _).spares hj).trans (spares_takeIndication _ hj)

/-- An entry that joins a list, or moves in it, is of its own door. -/
theorem mem_insertEntry {e f : Entry} {l : List Entry} : f ∈ insertEntry e l ↔ f = e ∨ f ∈ l := by
  rw [insertEntry, List.mem_append, List.mem_cons]
  have split := List.takeWhile_append_dropWhile (p := fun x : Entry => decide (x.cls ≤ e.cls)) (l := l)
  constructor
  · rintro (h | h | h)
    · exact .inr (List.takeWhile_subset _ h)
    · exact .inl h
    · exact .inr (List.dropWhile_subset _ h)
  · rintro (h | h)
    · exact .inr (.inl h)
    · rw [← split, List.mem_append] at h
      exact h.imp id .inr

theorem entryOf_door {e : Entry} (h : s.entryOf i = some e) : e.door = i := by
  simpa using List.find?_some h

theorem spares_moveToClass0 (s : State) (hj : j ≠ i) : Spares i s (s.moveToClass0 j) := by
  simp only [State.moveToClass0]
  split
  next e he =>
    have door : e.door = j := entryOf_door he
    split
    · refine (spares_modUnit s _ _ (fun h f hf => ?_) id).trans (spares_unitJoined i _ _ _)
      obtain rfl | hf := mem_insertEntry.mp hf
      · exact door ▸ hj
      · exact h f (List.mem_of_mem_filter hf)
    · exact .refl i s
  · exact .refl i s

theorem spares_makeHoldToRun (s : State) (hj : j ≠ i) : Spares i s (s.makeHoldToRun j) := by
  refine (spares_modUnit s _ _ (fun h f hf => ?_) id).trans ((doorOnly_modDoor _ j _).spares hj)
  obtain ⟨e, he, rfl⟩ := List.mem_map.mp hf
  have := h e he
  split <;> exact this

theorem spares_doorBecomesHeld (s : State) (hj : j ≠ i) : Spares i s (s.doorBecomesHeld j) := by
  have opening : Spares i s (if (s.door j).localOpen then s.makeHoldToRun j
      else if (s.door j).eventFaulted then s.stopToRest j
      else (s.passToWarning j .closure).setSource j .closure) := by
    split
    · exact spares_makeHoldToRun s hj
    · split
      · exact spares_stopToRest s hj
      · exact (spares_passToWarning s hj _).trans ((doorOnly_setSource _ j _).spares hj)
  have demand := (doorOnly_closureDemand s j).spares hj
  simp only [State.doorBecomesHeld]
  split
  · exact demand
  · exact demand
  · exact (doorOnly_modDoor s j _).spares hj
  · exact spares_moveToClass0 s hj
  · exact opening
  · exact opening
  · exact opening
  all_goals exact .refl i s

theorem spares_doorReleased (s : State) (hj : j ≠ i) : Spares i s (s.doorReleased j) := by
  simp only [State.doorReleased]
  split
  · exact (doorOnly_enterIndicated s j).spares hj
  · exact .refl i s

theorem spares_takeUnionChange (old : ZoneSet) (s : State) (hj : j ≠ i) :
    Spares i s (State.takeUnionChange old j s) := by
  simp only [State.takeUnionChange]
  split
  · exact .refl i s
  · refine Spares.trans ?_ ((doorOnly_updateNotControlled _ j).spares hj)
    split
    · exact spares_doorBecomesHeld s hj
    · exact spares_doorReleased s hj

theorem spares_foldl {l : List DoorId} (hl : i ∉ l) {f : DoorId → State → State}
    (hf : ∀ j s, j ≠ i → Spares i s (f j s)) : ∀ s : State, Spares i s (s.forDoors l f) := by
  induction l with
  | nil => exact fun s => .refl i s
  | cons j l ih =>
    rw [List.mem_cons, not_or] at hl
    exact fun s => (hf j s (Ne.symm hl.1)).trans (ih hl.2 _)

/-! ### One door among the doors of a pass -/

/-- A pass over doors takes a door that waits in no list where it stands, and what the others take before and after
spares it. -/
theorem forDoors_at {l : List DoorId} (hl : l.Nodup) (hi : i ∈ l) {f : DoorId → State → State}
    (hf : ∀ j s, j ≠ i → Spares i s (f j s)) (only : ∀ j s, OnlyDoors s (f j s)) (hu : s.Unlisted i) :
    ∃ t, OnlyDoors s t ∧ t.Unlisted i ∧ t.door i = s.door i ∧
      (∀ v, i ∈ (t.unit v).holders → i ∈ (s.unit v).holders) ∧ Spares i (f i t) (s.forDoors l f) := by
  obtain ⟨a, b, rfl⟩ := List.append_of_mem hi
  have nodup := List.nodup_append.mp hl
  have before : i ∉ a := fun h => nodup.2.2 i h i List.mem_cons_self rfl
  have behind : i ∉ b := (List.nodup_cons.mp nodup.2.1).1
  obtain ⟨door, unlisted, holders⟩ := spares_foldl before hf s hu
  refine ⟨s.forDoors a f, onlyDoors_forDoors s a f only, unlisted, door, holders, ?_⟩
  have := spares_foldl behind hf (f i (s.forDoors a f))
  simpa [State.forDoors, List.foldl_append] using this

end Sys2Proof.Machine
end


section
/-! SUPPORT. What a change of the holds map makes of a door that waits in no list, and the orders and the line that
change it. -/

namespace Sys2Proof.Machine

variable {s t : State} {i : DoorId}

/-! ### A door whose work ends -/

theorem not_mem_holders_freeSlot (hu : s.Unlisted i) : i ∉ ((s.freeSlot i).unit (s.door i).unit).holders := by
  let t := s.modUnit (s.door i).unit fun x => { x with holders := x.holders.filter fun j => j ≠ i }
  have unlisted : t.Unlisted i := (spares_modUnit s _ _ (fun h => h) fun h => List.mem_of_mem_filter h) hu |>.2.1
  have behind : Spares i t (s.freeSlot i) := (spares_admissionRun i t _).trans (spares_idleIfDone i _ _)
  intro h
  have := (behind unlisted).2.2 _ h
  simp [t] at this

/-- R68: a stroke of a door in no list has ended. -/
theorem door_endStroke_self (hu : s.Unlisted i) :
    (s.endStroke i).door i = { (s.door i).undriven s.runCount with stroke := none } ∧
      i ∉ ((s.endStroke i).unit (s.door i).unit).holders ∧ (s.endStroke i).Unlisted i := by
  have off := doorOnly_driveOffNow s i
  have unlisted : (s.driveOffNow i).Unlisted i := fun v => by rw [off.unit]; exact hu v
  obtain ⟨door, unlisted', -⟩ := spares_freeSlot i (s.driveOffNow i) i unlisted
  have unit : ((s.driveOffNow i).door i).unit = (s.door i).unit := by rw [door_driveOffNow_self]; rfl
  have freed := not_mem_holders_freeSlot unlisted
  rw [unit] at freed
  refine ⟨?_, ?_, fun v => ?_⟩
  · rw [State.endStroke, State.door_modDoor_self, door, door_driveOffNow_self]
  · rwa [State.endStroke, State.unit_modDoor]
  · rw [State.endStroke, State.unit_modDoor]; exact unlisted' v

theorem endWork_stroke (h : (s.door i).state.hasStroke = true) : s.endWork i = s.endStroke i := by
  rw [State.endWork]
  split
  next hq => simp [hq, DoorState.hasStroke] at h
  · rfl
  · rfl
  · rfl
  next hr hc ho =>
    cases hs : (s.door i).state with
    | reversing d => exact absurd hs (hr d)
    | closing => exact absurd hs hc
    | opening => exact absurd hs ho
    | _ => simp [hs, DoorState.hasStroke] at h

/-- R68: the stroke of a door in no list is halted into the rest state of its indication. -/
theorem door_stopToRest_stroke (hu : s.Unlisted i) (h : (s.door i).state.hasStroke = true) :
    (s.stopToRest i).door i =
        ((s.door i).haltedAt (s.door i).indication.restState s.settingsHold s.runCount).demandTaken
          (s.doorHeld i) s.runCount ∧
      i ∉ ((s.stopToRest i).unit (s.door i).unit).holders := by
  obtain ⟨door, holders, -⟩ := door_endStroke_self hu
  have only := onlyDoors_endStroke s i
  refine ⟨?_, ?_⟩
  · rw [State.stopToRest, endWork_stroke h, door_enterIndicated_self, State.doorHeld, door, only.held, only.runCount,
      only.settingsHold]
    rfl
  · rw [State.stopToRest, endWork_stroke h, (doorOnly_enterIndicated _ i).unit]
    exact holders

/-- R54: the stroke of a door in no list passes into WARNING. -/
theorem door_passToWarning_stroke (hu : s.Unlisted i) (h : (s.door i).state.hasStroke = true) (c : Cause) :
    (s.passToWarning i c).door i =
        { ((s.door i).undriven s.runCount).warned c s.runCount with stroke := none } ∧
      i ∉ ((s.passToWarning i c).unit (s.door i).unit).holders := by
  obtain ⟨door, holders, -⟩ := door_endStroke_self hu
  refine ⟨?_, ?_⟩
  · rw [State.passToWarning, endWork_stroke h, State.door_enterWarning, if_pos rfl, door,
      (onlyDoors_endStroke s i).runCount]
    rfl
  · rw [State.passToWarning, endWork_stroke h, (doorOnly_enterWarning _ i c).unit]
    exact holders

/-! ### A door in no list stays in none -/

theorem DoorOnly.unlisted {j : DoorId} (h : DoorOnly j s t) (hu : s.Unlisted i) : t.Unlisted i := fun v => by
  rw [h.unit]; exact hu v

theorem unlisted_endWork (hu : s.Unlisted i) : (s.endWork i).Unlisted i := by
  simp only [State.endWork]
  split
  · exact (spares_leaveList i s i hu).2.1
  · exact (door_endStroke_self hu).2.2
  · exact (door_endStroke_self hu).2.2
  · exact (door_endStroke_self hu).2.2
  · exact hu

theorem entryOf_eq_none (hu : s.Unlisted i) : s.entryOf i = none := by
  simpa [State.entryOf] using hu (s.door i).unit

theorem unlisted_doorBecomesHeld (hu : s.Unlisted i) : (s.doorBecomesHeld i).Unlisted i := by
  have opening : (if (s.door i).localOpen then s.makeHoldToRun i
      else if (s.door i).eventFaulted then s.stopToRest i
      else (s.passToWarning i .closure).setSource i .closure).Unlisted i := by
    split
    · refine (doorOnly_modDoor _ i _).unlisted (spares_modUnit s _ _ (fun h f hf => ?_) id hu).2.1
      obtain ⟨e, he, rfl⟩ := List.mem_map.mp hf
      have := h e he
      split <;> exact this
    · split
      · exact (doorOnly_enterIndicated _ i).unlisted (unlisted_endWork hu)
      · exact ((doorOnly_enterWarning _ i _).trans (doorOnly_setSource _ i _)).unlisted (unlisted_endWork hu)
  have demand := (doorOnly_closureDemand s i).unlisted hu
  simp only [State.doorBecomesHeld]
  split
  · exact demand
  · exact demand
  · exact (doorOnly_modDoor s i _).unlisted hu
  · rw [State.moveToClass0, entryOf_eq_none hu]; exact hu
  · exact opening
  · exact opening
  · exact opening
  all_goals exact hu

/-! ### One door in a change of the holds map -/

theorem doorIds_nodup : doorIds.Nodup := List.nodup_finRange 48

theorem onlyDoors_touched (s : State) (h : Holds) :
    OnlyDoors { s with holds := h } ({ s with holds := h }.touchIf (s.holds != h)) := onlyDoors_touchIf _ _

/-- R82: a door in no list is taken, with the zones of the new map held, as it stands before the change. -/
theorem setHolds_takes (h : Holds) (hu : s.Unlisted i) (hi : (s.door i).installed = true) :
    ∃ t, OnlyDoors { s with holds := h } t ∧ t.Unlisted i ∧ t.door i = s.door i ∧
      Spares i (State.takeUnionChange s.holds.union i t) (s.setHolds h) := by
  have mem : i ∈ ({ s with holds := h }.touchIf (s.holds != h)).doorsWhere fun _ => true := by
    simp only [State.doorsWhere, List.mem_filter, State.door_touchIf, Bool.and_true]
    exact ⟨mem_doorIds i, hi⟩
  obtain ⟨t, only, unlisted, door, -, spared⟩ := forDoors_at (doorIds_nodup.filter _) mem
    (fun j t hj => spares_takeUnionChange _ t hj) (onlyDoors_takeUnionChange _)
    (s := { s with holds := h }.touchIf (s.holds != h)) fun v => by rw [State.unit_touchIf]; exact hu v
  refine ⟨t, (onlyDoors_touched s h).trans only, unlisted, ?_, spared⟩
  rw [door, State.door_touchIf]; rfl

/-- R82: a door in no list whose zone is held as before is left alone. -/
theorem door_setHolds_unchanged {h : Holds} (hu : s.Unlisted i)
    (hz : zoneIn s.holds.union (s.door i).zone = zoneIn h.union (s.door i).zone) :
    (s.setHolds h).door i = s.door i := by
  cases hi : (s.door i).installed
  · have absent : i ∉ ({ s with holds := h }.touchIf (s.holds != h)).doorsWhere fun _ => true := by
      simp only [State.doorsWhere, List.mem_filter, State.door_touchIf, Bool.and_true, not_and]
      intro _
      show ¬ (s.door i).installed = true
      simp [hi]
    have spared := spares_foldl absent (fun j t hj => spares_takeUnionChange s.holds.union t hj)
      ({ s with holds := h }.touchIf (s.holds != h)) fun v => by rw [State.unit_touchIf]; exact hu v
    exact spared.1.trans (State.door_touchIf _ _ i)
  · obtain ⟨t, only, unlisted, door, spared⟩ := setHolds_takes h hu hi
    have same : State.takeUnionChange s.holds.union i t = t := by
      simp only [State.takeUnionChange, door, only.held]
      exact if_pos hz
    rw [same] at spared
    rw [(spared unlisted).1, door]

/-- R89: a door in no list whose zone becomes held, before NOT_CONTROLLED is brought up to date. -/
theorem door_setHolds_held {h : Holds} (hu : s.Unlisted i) (hi : (s.door i).installed = true)
    (hold : zoneIn s.holds.union (s.door i).zone = false) (hnew : zoneIn h.union (s.door i).zone = true) :
    ∃ t, OnlyDoors { s with holds := h } t ∧ t.Unlisted i ∧ t.door i = s.door i ∧ t.doorHeld i = true ∧
      ((s.setHolds h).door i = ((t.doorBecomesHeld i).updateNotControlled i).door i) ∧
      ∀ v, i ∈ ((s.setHolds h).unit v).holders → i ∈ ((t.doorBecomesHeld i).unit v).holders := by
  obtain ⟨t, only, unlisted, door, spared⟩ := setHolds_takes h hu hi
  have held : t.doorHeld i = true := by rw [State.doorHeld, door, only.held]; exact hnew
  have take : State.takeUnionChange s.holds.union i t = (t.doorBecomesHeld i).updateNotControlled i := by
    have now : t.held (t.door i).zone = true := held
    rw [State.takeUnionChange, now, if_neg (by rw [door, hold]; decide), if_pos rfl]
  rw [take] at spared
  have stays : ((t.doorBecomesHeld i).updateNotControlled i).Unlisted i := by
    exact (doorOnly_updateNotControlled _ i).unlisted (unlisted_doorBecomesHeld unlisted)
  obtain ⟨same, -, holders⟩ := spared stays
  exact ⟨t, only, unlisted, door, held, same, fun v hv => by
    have := holders v hv
    rwa [(doorOnly_updateNotControlled _ i).unit] at this⟩

/-- R90: a door in no list whose zone stops being held, before NOT_CONTROLLED is brought up to date. -/
theorem door_setHolds_released {h : Holds} (hu : s.Unlisted i) (hi : (s.door i).installed = true)
    (hold : zoneIn s.holds.union (s.door i).zone = true) (hnew : zoneIn h.union (s.door i).zone = false) :
    ∃ t, OnlyDoors { s with holds := h } t ∧ t.door i = s.door i ∧ t.doorHeld i = false ∧
      (s.setHolds h).door i = ((t.doorReleased i).updateNotControlled i).door i := by
  obtain ⟨t, only, unlisted, door, spared⟩ := setHolds_takes h hu hi
  have held : t.doorHeld i = false := by rw [State.doorHeld, door, only.held]; exact hnew
  have take : State.takeUnionChange s.holds.union i t = (t.doorReleased i).updateNotControlled i := by
    have now : t.held (t.door i).zone = false := held
    rw [State.takeUnionChange, now, if_neg (by rw [door, hold]; decide), if_neg (by decide)]
  rw [take] at spared
  have released : DoorOnly i t (t.doorReleased i) := by
    simp only [State.doorReleased]
    split
    · exact doorOnly_enterIndicated t i
    · exact .refl i t
  exact ⟨t, only, door, held, (spared ((released.trans (doorOnly_updateNotControlled _ i)).unlisted unlisted)).1⟩

/-- R91: NOT_CONTROLLED leaves a door in service. -/
theorem door_updateNotControlled_inService {d : Door} (h : s.door i = d) (hs : d.inService = true) :
    (s.updateNotControlled i).door i = d.cleared .notControlled := by
  rw [door_updateNotControlled_self, h, if_neg (by simp [hs])]

/-! ### Orders that write the holds map -/

/-- What an order that writes the holds map leaves: the doors and units of `u`, which has the new map. -/
structure HoldsAnswered (p : PortId) (s u : State) (h : Holds) (t : State) : Prop where
  holds : t.holds = h
  doors : t.doors = u.doors
  units : t.units = u.units
  rest : t = { s with ports := t.ports, doors := t.doors, units := t.units, outputs := t.outputs, holds := t.holds }
  outputs : t.OutputsHold
  answered : Answered p (orderEntry .ok 0) s t

theorem HoldsAnswered.door {p : PortId} {u : State} {h : Holds} (a : HoldsAnswered p s u h t) (j : DoorId) :
    t.door j = u.door j := by rw [State.door, a.doors]; rfl

theorem HoldsAnswered.unit {p : PortId} {u : State} {h : Holds} (a : HoldsAnswered p s u h t) (v : UnitId) :
    t.unit v = u.unit v := by rw [State.unit, a.units]; rfl

theorem HoldsAnswered.closure {p : PortId} {u : State} {h : Holds} (a : HoldsAnswered p s u h t) :
    t.outputs.closure = (t.holds.union != 0) := by rw [a.outputs]; rfl

/-- R84 to R86: an order of a free port whose owner writes the holds map. -/
theorem order_holds {p : PortId} {c : Instr} {o : OrderOp} {g : Target} {h : Holds} (hf : s.Free p)
    (hi : c.item = some (p, .order o g)) (hm : itemMalformed (.order o g) = false)
    (ha : (s.taking p (.order o g)).ordering p g o = (((s.taking p (.order o g)).setHolds h).answer .ok).withOutputs)
    (ho : o ≠ .restart := by exact fun e => nomatch e) :
    ∃ t, exec c s = .next t ∧ HoldsAnswered p s ((s.taking p (.order o g)).setHolds h) h t := by
  let u := (s.taking p (.order o g)).setHolds h
  have only : OnlyDoors { s.taking p (.order o g) with holds := h } u := onlyDoors_setHolds _ h
  obtain ⟨t, ht, hr, hans, hout⟩ := order_done hf hi hm ha
    (fun q => (only.ports q).trans (sameButMarks_evalOutputs u q)) ho
  have state : (((s.taking p (.order o g)).setHolds h).answer .ok).withOutputs.state = u.evalOutputs := rfl
  rw [state] at hr
  have holds : t.holds = h := by
    rw [hr]
    exact (show u.evalOutputs.holds = u.holds by simp).trans (holds_setHolds _ h)
  have doors : t.doors = u.doors := by rw [hr]; exact u.evalOutputs_doors
  have units : t.units = u.units := by rw [hr]; exact u.evalOutputs_units
  refine ⟨t, ht, holds, doors, units, ?_, hout (outputsHold_evalOutputs u), hans⟩
  have outputs : t.outputs = u.evalOutputs.outputs := by rw [hr]
  rw [holds, doors, units, outputs]
  rw [hr, only.outputs, taking_rest]

/-! ### What the outputs mean -/

theorem ne_zero_iff_getLsbD {w : Nat} (x : BitVec w) : x ≠ 0 ↔ ∃ k, k < w ∧ x.getLsbD k = true := by
  constructor
  · intro h
    by_contra hn
    push Not at hn
    refine h (BitVec.eq_of_getLsbD_eq fun k hk => ?_)
    simpa using hn k hk
  · rintro ⟨k, -, hk⟩ rfl
    simp at hk

theorem FaultKind.exists_bit : ∀ n < 12, ∃ k : FaultKind, k.bit = n
  | 0, _ => ⟨.linkLost, rfl⟩
  | 1, _ => ⟨.branchOff, rfl⟩
  | 2, _ => ⟨.switchConflict, rfl⟩
  | 3, _ => ⟨.sensorDisagree, rfl⟩
  | 4, _ => ⟨.positionRange, rfl⟩
  | 5, _ => ⟨.signalFault, rfl⟩
  | 6, _ => ⟨.stationSupply, rfl⟩
  | 7, _ => ⟨.notControlled, rfl⟩
  | 8, _ => ⟨.strokeTimeout, rfl⟩
  | 9, _ => ⟨.stall, rfl⟩
  | 10, _ => ⟨.noPower, rfl⟩
  | 11, _ => ⟨.cutOff, rfl⟩

/-- Two fault sets meet exactly if they have a kind in common. -/
theorem and_ne_zero_iff_hasFault (x y : FaultSet) : x &&& y ≠ 0 ↔ ∃ k, hasFault x k = true ∧ hasFault y k = true := by
  rw [ne_zero_iff_getLsbD]
  simp only [hasFault, BitVec.getLsbD_and, Bool.and_eq_true]
  constructor
  · rintro ⟨n, hn, hx, hy⟩
    obtain ⟨k, rfl⟩ := FaultKind.exists_bit n hn
    exact ⟨k, hx, hy⟩
  · rintro ⟨k, hx, hy⟩
    exact ⟨k.bit, by cases k <;> decide, hx, hy⟩

theorem faultOut_iff (s : State) : s.faultOut = true ↔
    (∃ i, (s.door i).installed = true ∧
      ∃ k, hasFault (s.door i).unacked k = true ∧ hasFault s.store.alarmMask k = true) ∨
    (∃ u, (s.unit u).attention = true) ∨ (∃ q, (s.port q).attention = true ∧ (s.port q).role = .command) ∨
    s.store.imageFault = true := by
  simp only [State.faultOut, Bool.or_eq_true, List.any_eq_true, Bool.and_eq_true, bne_iff_ne, decide_eq_true_eq,
    and_ne_zero_iff_hasFault, doorIds, unitIds, portIds, List.mem_finRange, true_and, or_assoc]

theorem closureOut_iff (s : State) : s.closureOut = true ↔ ∃ z, s.held z = true := by
  rw [State.closureOut, bne_iff_ne, ne_zero_iff_getLsbD]
  exact ⟨fun ⟨k, hk, h⟩ => ⟨⟨k, hk⟩, h⟩, fun ⟨z, h⟩ => ⟨z.val, z.isLt, h⟩⟩

theorem allClosedOut_iff (s : State) : s.allClosedOut = true ↔ (∃ z, s.held z = true) ∧
    ∀ i, (s.door i).installed = true → s.doorHeld i = true → (s.door i).indication = .closed := by
  simp only [State.allClosedOut, Bool.and_eq_true, closureOut_iff, List.all_eq_true, Bool.or_eq_true, Bool.not_eq_true',
    decide_eq_true_eq, doorIds, List.mem_finRange, true_implies]
  refine and_congr_right fun _ => forall_congr' fun i => ?_
  cases (s.door i).installed <;> cases s.doorHeld i <;> simp

/-! ### The hold and release orders -/

/-- R86: RELEASE_FOREIGN of a port that is ACTIVE or the issuing port. -/
theorem orderReleaseForeign_refused {p q : PortId} (hc : s.commands p = true)
    (hq : q = p ∨ (s.port q).active = true) :
    s.orderReleaseForeign p (.holder q.val) = s.answer .refusedState := by
  have guard : (decide (q = p) || (s.port q).active) = true := by simpa using hq
  match q with
  | 0 | 1 | 2 => simp only [State.orderReleaseForeign, State.asCommand, hc, if_true]; exact if_pos guard

/-- R86: RELEASE_FOREIGN of another port that is SILENT. -/
theorem orderReleaseForeign_silent {p q : PortId} (hc : s.commands p = true) (hq : q ≠ p)
    (ha : (s.port q).active = false) :
    s.orderReleaseForeign p (.holder q.val) = (s.setHolds (s.holds.setConsole q 0)).answer .ok := by
  have guard : ¬ (decide (q = p) || (s.port q).active) = true := by simp [hq, ha]
  match q with
  | 0 | 1 | 2 => simp only [State.orderReleaseForeign, State.asCommand, hc, if_true]; exact if_neg guard

theorem active_taking {p q : PortId} (h : q ≠ p) (it : Item) : ((s.taking p it).port q).active = (s.port q).active := by
  rw [State.taking, State.beginRequest, State.port_modPort, if_neg h]

theorem active_taking_self (s : State) (p : PortId) (it : Item) : ((s.taking p it).port p).active = true := by
  rw [State.taking, State.beginRequest, State.port_modPort, if_pos rfl]

/-- Settles O32: the outputs by their own equations, and each order by its owner's answer. -/
theorem holdAndReleaseWriteOwnSet : Obligations.HoldAndReleaseWriteOwnSet := by
  refine ⟨fun s hs => ?_, fun s p q m h => ?_⟩
  · rw [hs]
    exact ⟨faultOut_iff s, closureOut_iff s, allClosedOut_iff s⟩
  have commands := fun it => commands_taking h.2 it
  refine ⟨?_, ?_, ?_, fun hq ha => ?_, fun hs hq => ?_, fun hs => ?_⟩
  · obtain ⟨t, ht, a⟩ := order_holds (c := .holdZones p (.zoneSet m)) h.1 rfl rfl (ordering_holdZones (commands _) m)
    exact ⟨t, ht, by simpa using a.holds, a.rest, a.outputs, a.closure, a.answered⟩
  · obtain ⟨t, ht, a⟩ := order_holds (c := .releaseZones p (.zoneSet m)) h.1 rfl rfl
      (h := (s.taking p (.order .releaseZones (.zoneSet m))).holds.setConsole p
        ((s.taking p (.order .releaseZones (.zoneSet m))).holds.console[p] &&& ~~~m))
      (by simp only [State.ordering, State.orderReleaseZones, asCommand_taking h.2])
    exact ⟨t, ht, by simpa using a.holds, a.rest, a.outputs, a.closure, a.answered⟩
  · obtain ⟨t, ht, a⟩ := order_holds (c := .releaseForeign p (.holder 4)) h.1 rfl rfl
      (h := { (s.taking p (.order .releaseForeign (.holder 4))).holds with start := 0 })
      (by simp only [State.ordering, State.orderReleaseForeign, asCommand_taking h.2])
    exact ⟨t, ht, by simpa using a.holds, a.rest, a.outputs, a.answered⟩
  · have silent : ((s.taking p (.order .releaseForeign (.holder q.val))).port q).active = false :=
      (active_taking hq _).trans ha
    obtain ⟨t, ht, a⟩ := order_holds (c := .releaseForeign p (.holder q.val)) h.1 rfl
      (by fin_cases q <;> rfl)
      (by rw [State.ordering, orderReleaseForeign_silent (commands _) hq silent])
    exact ⟨t, ht, by simpa using a.holds, a.rest, a.outputs, a.answered⟩
  · have active : q = p ∨ ((s.taking p (.order .releaseForeign (.holder q.val))).port q).active = true :=
      (eq_or_ne q p).imp_right fun hne => (active_taking hne _).trans (hq.resolve_left hne)
    exact order_unchanged (c := .releaseForeign p (.holder q.val)) h.1 hs rfl (by fin_cases q <;> rfl)
      (by rw [State.ordering, orderReleaseForeign_refused (commands _) active])
  · exact order_unchanged (c := .releaseForeign p (.holder 3)) h.1 hs rfl rfl
      (by simp only [State.ordering, State.orderReleaseForeign, asCommand_taking h.2])

end Sys2Proof.Machine
end


section
/-! SUPPORT. What the operations on a unit's list make of the unit and of the doors: an entry that leaves, an entry
that joins and waits, and a request that is admitted at once. -/

namespace Sys2Proof.Machine

variable {s t : State} {i : DoorId}

/-! ### Operations that write one unit -/

/-- Of doors and units at most unit `v` differs. -/
structure UnitOnly (v : UnitId) (s t : State) : Prop where
  doors : t.doors = s.doors
  others : OtherUnits v s t

theorem UnitOnly.refl (v : UnitId) (s : State) : UnitOnly v s s := ⟨rfl, fun _ _ => rfl⟩

theorem UnitOnly.trans {v : UnitId} {u : State} (h : UnitOnly v s t) (k : UnitOnly v t u) : UnitOnly v s u :=
  ⟨k.doors.trans h.doors, fun w hw => (k.others w hw).trans (h.others w hw)⟩

theorem UnitOnly.door {v : UnitId} (h : UnitOnly v s t) (j : DoorId) : t.door j = s.door j := by
  rw [State.door, h.doors]; rfl

theorem unitOnly_modUnit (s : State) (v : UnitId) (f : PowerUnit → PowerUnit) : UnitOnly v s (s.modUnit v f) :=
  ⟨by simp, fun w hw => by rw [State.unit_modUnit, if_neg hw]⟩

theorem unitOnly_idleIfDone (s : State) (v : UnitId) : UnitOnly v s (s.idleIfDone v) := by
  simp only [State.idleIfDone]
  split
  · exact unitOnly_modUnit s v _
  · exact .refl v s

/-- R126, R128: IDLING where nothing is left. -/
theorem unit_idleIfDone (s : State) (v : UnitId) : (s.idleIfDone v).unit v = (s.unit v).idled s.runCount := by
  simp only [State.idleIfDone, PowerUnit.idled]
  split <;> simp_all

theorem unitOnly_leaveList (s : State) (i : DoorId) : UnitOnly (s.door i).unit s (s.leaveList i) := by
  simp only [State.leaveList]
  split
  · exact (unitOnly_modUnit s _ _).trans (unitOnly_modUnit _ _ _)
  · exact (unitOnly_modUnit s _ _).trans (unitOnly_idleIfDone _ _)

/-- R122: the unit whose list a door's entry has left. -/
theorem unit_leaveList (s : State) (i : DoorId) :
    (s.leaveList i).unit (s.door i).unit = (s.unit (s.door i).unit).left i s.runCount := by
  simp only [State.leaveList, PowerUnit.left, State.unit_modUnit_self, List.isEmpty_iff, Bool.and_eq_true,
    decide_eq_true_eq]
  split
  · rw [State.unit_modUnit_self, State.unit_modUnit_self]
  next h =>
    rw [unit_idleIfDone, State.unit_modUnit_self, State.modUnit_runCount, PowerUnit.idled]

/-! ### An entry joins -/

/-- R126: a unit with no slot free, or under an active cutoff, admits none. -/
theorem admissionRun_none {v : UnitId}
    (h : s.cutoff.value = true ∨ (s.unit v).slotLimit ≤ (s.unit v).holders.length) : s.admissionRun v = s := by
  have guard : (decide ((s.unit v).holders.length < (s.unit v).slotLimit) && !s.cutoff.value) = false := by
    obtain h | h := h
    · simp [h]
    · simp [Nat.not_lt.mpr h]
  have stays : ∀ n, s.admitUpTo v n = s := by
    intro n
    cases n with
    | zero => rfl
    | succ n =>
      simp only [State.admitUpTo, guard]
      split <;> simp
  rw [State.admissionRun, stays, ite_self]

theorem unitOnly_startUnit (s : State) (v : UnitId) : UnitOnly v s (s.startUnit v) := unitOnly_modUnit s v _

/-- R121, R123, R124, R129: an entry that has joined a list, and waits there. -/
theorem unitJoined_waits {v : UnitId} {x : PowerUnit} {e : Entry}
    (hx : s.unit v = { x with list := insertEntry e (removeEntry e.door x.list) })
    (hw : x.waits s.cutoff.value = true) :
    UnitOnly v s (s.unitJoined v e.cls) ∧ (s.unitJoined v e.cls).unit v = x.joined e s.runCount := by
  have full : x.state = .running ∨ x.state = .idling →
      s.cutoff.value = true ∨ (s.unit v).slotLimit ≤ (s.unit v).holders.length := by
    intro h
    rw [hx]
    obtain h | h := h <;> simpa [PowerUnit.waits, h] using hw
  have state : (s.unit v).state = x.state := by rw [hx]
  simp only [State.unitJoined, PowerUnit.joined, state]
  cases hs : x.state with
  | stopped =>
    simp only [Bool.or_eq_true, decide_eq_true_eq, hx]
    split
    · exact ⟨unitOnly_startUnit s v, by simp [State.startUnit, hx]⟩
    · exact ⟨unitOnly_modUnit s v _, by simp [hx]⟩
  | gathering =>
    simp only [Bool.or_eq_true, decide_eq_true_eq, hx]
    split
    · exact ⟨unitOnly_startUnit s v, by simp [State.startUnit, hx]⟩
    · exact ⟨.refl v s, by simp [hx, hs]⟩
  | starting => exact ⟨.refl v s, by simp [hx, hs]⟩
  | running =>
    simp only [admissionRun_none (full (.inl hs))]
    exact ⟨.refl v s, by simp [hx, hs]⟩
  | idling =>
    have none : (s.modUnit v fun x => { x with state := .running, timer := none }).admissionRun v =
        s.modUnit v fun x => { x with state := .running, timer := none } :=
      admissionRun_none (by simpa using full (.inr hs))
    simp only [none]
    exact ⟨unitOnly_modUnit s v _, by simp [hx]⟩
  | failed => simp [PowerUnit.waits, hs] at hw

/-- R54: a state that is neither of rest nor WARNING nor RECLOSE_WAIT. -/
def DoorState.waitsOrMoves (st : DoorState) : Prop := st.isRest = false ∧ st ≠ .warning ∧ st ≠ .recloseWait

theorem Dir.reversing_or_driving (b : Bool) (dir : Dir) :
    (if b then DoorState.reversing dir else dir.driving).waitsOrMoves := by
  cases b <;> cases dir <;> simp [DoorState.waitsOrMoves, Dir.driving, DoorState.isRest]

/-- R54, R58: a door that enters a driving or waiting state. -/
theorem door_setState_moving (s : State) (i : DoorId) {st : DoorState} (h : st.waitsOrMoves) :
    (s.setState i st).door i = (s.door i).moving st := by
  obtain ⟨hr, hw, hc⟩ := h
  have ht : st ≠ .closed := by rintro rfl; simp [DoorState.isRest] at hr
  simp [State.door_setState, Door.moving, hr, hw, hc, ht]

/-- R59: the head of a list is admitted. -/
theorem door_admitHead (s : State) (v : UnitId) (e : Entry) :
    (s.admitHead v e).door e.door = (s.door e.door).admittedFor e s.runCount := by
  have moves := Dir.reversing_or_driving ((s.door e.door).mustWait e.direction s.runCount) e.direction
  rw [State.admitHead, State.deadTimeTest]
  simp only [State.door_modDoor_self, State.door_modUnit, State.modDoor_runCount, State.modUnit_runCount]
  exact (door_setState_moving _ _ moves).trans (by rw [State.door_modDoor_self, State.door_modUnit]; rfl)

theorem others_admitHead (s : State) (v : UnitId) (e : Entry) : OtherDoors e.door s (s.admitHead v e) := by
  have only : DoorOnly e.door
      (s.modUnit v fun x => { x with list := x.list.tail, holders := insertDoor e.door x.holders }) (s.admitHead v e) :=
    (doorOnly_modDoor _ _ _).trans (doorOnly_setState _ _ _)
  exact fun j hj => (only.others j hj).trans (State.door_modUnit _ _ _ _)

theorem unit_admitHead (s : State) (v w : UnitId) (e : Entry) :
    (s.admitHead v e).unit w =
      if w = v then { s.unit v with list := (s.unit v).list.tail, holders := insertDoor e.door (s.unit v).holders }
      else s.unit w := by
  rw [State.admitHead, State.deadTimeTest, (doorOnly_setState _ _ _).unit, State.unit_modDoor, State.unit_modUnit]

/-- R126: a RUNNING unit in which one entry waits, and for which a slot is free, admits it. -/
theorem admissionRun_alone {v : UnitId} {e : Entry} (hs : (s.unit v).state = .running) (hl : (s.unit v).list = [e])
    (hf : (s.unit v).holders.length < (s.unit v).slotLimit) (hc : s.cutoff.value = false) :
    s.admissionRun v = s.admitHead v e := by
  rw [State.admissionRun, if_pos hs, hl]
  simp [State.admitUpTo, hl, hf, hc]

/-- R126, R129: an entry that has joined a list and is admitted at once. -/
theorem unitJoined_admits {v : UnitId} {x : PowerUnit} {e : Entry}
    (hx : s.unit v = { x with list := insertEntry e (removeEntry e.door x.list) })
    (ha : x.admitsAlone e.door s.cutoff.value = true) :
    OtherDoors e.door s (s.unitJoined v e.cls) ∧ OtherUnits v s (s.unitJoined v e.cls) ∧
      (s.unitJoined v e.cls).door e.door = (s.door e.door).admittedFor e s.runCount ∧
      (s.unitJoined v e.cls).unit v = x.admitted e.door := by
  simp only [PowerUnit.admitsAlone, Bool.and_eq_true, Bool.or_eq_true, decide_eq_true_eq, List.isEmpty_iff,
    Bool.not_eq_true'] at ha
  obtain ⟨⟨⟨hstate, hnone⟩, hfree⟩, hcutoff⟩ := ha
  have list : (s.unit v).list = [e] := by rw [hx, hnone]; rfl
  have state : (s.unit v).state = x.state := by rw [hx]
  have free : (s.unit v).holders.length < (s.unit v).slotLimit := by rw [hx]; exact hfree
  obtain hs | hs := hstate
  · have joined : s.unitJoined v e.cls = s.admitHead v e := by
      simp only [State.unitJoined, state, hs]
      exact admissionRun_alone (state.trans hs) list free hcutoff
    rw [joined]
    refine ⟨others_admitHead s v e, fun w hw => by rw [unit_admitHead, if_neg hw], door_admitHead s v e, ?_⟩
    rw [unit_admitHead, if_pos rfl, list, hx]
    simp [PowerUnit.admitted, hs]
  · let r := s.modUnit v fun x => { x with state := .running, timer := none }
    have joined : s.unitJoined v e.cls = r.admitHead v e := by
      simp only [State.unitJoined, state, hs]
      exact admissionRun_alone (by simp) (by simpa using list) (by simpa using free) (by simpa using hcutoff)
    rw [joined]
    refine ⟨fun j hj => ?_, fun w hw => ?_, ?_, ?_⟩
    · rw [others_admitHead r v e j hj, State.door_modUnit]
    · rw [unit_admitHead, if_neg hw, State.unit_modUnit, if_neg hw]
    · rw [door_admitHead, State.door_modUnit, State.modUnit_runCount]
    · rw [unit_admitHead, if_pos rfl, State.unit_modUnit_self, hx]
      simp [PowerUnit.admitted, hs, hnone, insertEntry]

/-! ### Requests -/

/-- The entry of a door's stroke request (R55, R120). -/
def StrokeRequest.entry (r : StrokeRequest) (i : DoorId) : Entry :=
  { door := i, direction := r.direction, cls := r.cls, cause := r.cause, arrival := r.arrival }

/-- R55, R57: a request of a door whose unit keeps it waiting or admits it at once. -/
theorem listRequest_effect (s : State) (i : DoorId) (r : StrokeRequest)
    (h : (s.unit (s.door i).unit).waits s.cutoff.value = true ∨
      (s.unit (s.door i).unit).admitsAlone i s.cutoff.value = true) :
    OtherDoors i s (s.listRequest i r) ∧ OtherUnits (s.door i).unit s (s.listRequest i r) ∧
      Requested s i (s.door i) (r.entry i) (s.listRequest i r) := by
  let v := (s.door i).unit
  let l := (s.modUnit v fun x => { x with list := insertEntry (r.entry i) (removeEntry i x.list) }).setState i
    (.queued r.direction)
  have queued : DoorOnly i _ l := doorOnly_setState _ i _
  have moves : (DoorState.queued r.direction).waitsOrMoves := by simp [DoorState.waitsOrMoves, DoorState.isRest]
  have door : l.door i = (s.door i).moving (.queued r.direction) :=
    (door_setState_moving _ i moves).trans (by rw [State.door_modUnit])
  have others : OtherDoors i s l := fun j hj => (queued.others j hj).trans (State.door_modUnit _ _ _ _)
  have unit : l.unit v = { s.unit v with list := insertEntry (r.entry i) (removeEntry (r.entry i).door (s.unit v).list) } :=
    (queued.unit v).trans (State.unit_modUnit_self _ _ _)
  have otherUnits : OtherUnits v s l := fun w hw =>
    (queued.unit w).trans (by rw [State.unit_modUnit, if_neg hw])
  have only : OnlyDoors s l := (onlyDoors_modUnit s _ _).trans (onlyDoors_setState _ i _)
  have request : s.listRequest i r = l.unitJoined v (r.entry i).cls := rfl
  rw [request]
  have cutoff := only.cutoff
  have now := only.runCount
  refine ⟨?_, ?_, fun hw => ?_, fun ha => ?_⟩
  · obtain h | h := h
    · have join := (unitJoined_waits unit (by rw [cutoff]; exact h)).1
      exact fun j hj => (join.door j).trans (others j hj)
    · have join := (unitJoined_admits unit (by rw [cutoff]; exact h)).1
      exact fun j hj => (join j hj).trans (others j hj)
  · obtain h | h := h
    · have join := (unitJoined_waits unit (by rw [cutoff]; exact h)).1
      exact fun w hw => (join.others w hw).trans (otherUnits w hw)
    · have join := (unitJoined_admits unit (by rw [cutoff]; exact h)).2.1
      exact fun w hw => (join w hw).trans (otherUnits w hw)
  · obtain ⟨join, joined⟩ := unitJoined_waits unit (by rw [cutoff]; exact hw)
    rw [now] at joined
    exact ⟨(join.door i).trans door, joined⟩
  · obtain ⟨-, -, admitted, unit'⟩ := unitJoined_admits unit (by rw [cutoff]; exact ha)
    refine ⟨?_, unit'⟩
    rw [now] at admitted
    refine admitted.trans ?_
    rw [show (r.entry i).door = i from rfl, door]
    rfl

end Sys2Proof.Machine
end


section
/-! SUPPORT. CLOSE and OPEN of a door, the lead-in's request and the reversal instant. -/

namespace Sys2Proof.Machine

variable {s t : State} {p : PortId} {i : DoorId}

/-! ### Facts about doors -/

theorem hasFault_addFault (f : FaultSet) (k l : FaultKind) : hasFault (addFault f k) l = (hasFault f l || decide (l = k)) := by
  have bit : hasFault k.only l = decide (l = k) := by cases k <;> cases l <;> decide
  rw [addFault, hasFault, BitVec.getLsbD_or]
  exact congrArg _ bit

/-- R22: the event faults. -/
def FaultKind.isEvent (k : FaultKind) : Bool := hasFault eventFaults k

theorem eventFaulted_faulted (d : Door) {k : FaultKind} (hk : k.isEvent = true) (now : Stamp) :
    (d.faulted k now).eventFaulted = true := by
  rw [Door.eventFaulted, bne_iff_ne]
  exact (and_ne_zero_iff_hasFault _ _).mpr ⟨k, by rw [Door.faulted, hasFault_addFault]; simp, hk⟩

theorem eventFaulted_rested (d : Door) (st : DoorState) (hold : Bool) : (d.rested st hold).eventFaulted = d.eventFaulted :=
  rfl

theorem Door.undriven_of_drive_none {d : Door} (h : d.state.drive = none) (now : Nat) : d.undriven now = d := by
  simp [Door.undriven, h]

theorem Requested.congr {d : Door} {e : Entry} {u : State} (h : Requested s i d e t) (hd : u.door i = t.door i)
    (hu : u.unit d.unit = t.unit d.unit) : Requested s i d e u := by
  simpa only [Requested, hd, hu] using h

theorem Requested.setSource {d : Door} {e : Entry} (h : Requested s i d e t) (src : Source) :
    Requested s i { d with lastSource := some src } e (t.setSource i src) := by
  obtain ⟨waits, admits⟩ := h
  have only := doorOnly_setSource t i src
  have door : (t.setSource i src).door i = { t.door i with lastSource := some src } := by
    rw [State.door_setSource, if_pos rfl]
  refine ⟨fun hw => ⟨?_, (only.unit _).trans (waits hw).2⟩, fun ha => ⟨?_, (only.unit _).trans (admits ha).2⟩⟩
  · rw [door, (waits hw).1]; rfl
  · rw [door, (admits ha).1]; rfl

theorem waits_not_failed {x : PowerUnit} {c : Bool} (h : x.waits c = true ∨ x.admitsAlone i c = true) :
    x.state ≠ .failed := by
  rintro hx
  simp [PowerUnit.waits, PowerUnit.admitsAlone, hx] at h

theorem DoorOnly.evalOutputs (h : DoorOnly i s t) : DoorOnly i s t.evalOutputs :=
  h.trans ⟨by simp, fun j _ => by simp⟩

/-- R55: a request that meets a FAILED unit gives the door NO_POWER and the rest state of its indication. -/
theorem door_refusePower_self (s : State) (i : DoorId) :
    (s.refusePower i).door i =
      ((s.door i).faulted .noPower s.clock.time).rested (s.door i).indication.restState s.settingsHold := by
  have raised : (s.raiseFault i .noPower).door i = (s.door i).faulted .noPower s.clock.time := by
    rw [State.door_raiseFault, if_pos rfl]
  have only := onlyDoors_raiseFault s i .noPower
  rw [State.refusePower, door_enterIndicated_self, raised, only.settingsHold]
  exact Door.demandTaken_faulted
    ((eventFaulted_rested _ _ _).trans (eventFaulted_faulted (s.door i) (by decide) s.clock.time)) _ _

/-- R61, R62: a direction change. -/
theorem door_changeDirection_self (s : State) (i : DoorId) (dir : Dir) (c : Cause) (cls : Nat) :
    (s.changeDirection i dir c cls).door i = (s.door i).turned dir c cls s.runCount := by
  rw [State.changeDirection, State.deadTimeTest]
  refine (door_setState_moving _ i (Dir.reversing_or_driving _ dir)).trans ?_
  simp only [State.door_modDoor_self, door_driveOffNow_self, State.modDoor_runCount,
    (onlyDoors_driveOffNow s i).runCount]
  rfl

/-! ### The lead-in -/

/-- R105: the class of a lead-in's request. -/
theorem LeadIn.request_entry (l : LeadIn) (i : DoorId) :
    l.request.entry i = { door := i, direction := .close, cause := l.cause, arrival := l.expiry
                          cls := if l.cause ∈ [.console 0, .console 1, .console 2] then 1 else 0 } := by
  rw [LeadIn.request, StrokeRequest.entry]
  cases h : l.cause with
  | console p => fin_cases p <;> rfl
  | localControl => rfl
  | closure => rfl
  | reclose => rfl

theorem leadInExpired_due {l : LeadIn} (hs : (s.door i).state = .warning) (hl : (s.door i).leadIn = some l)
    (he : l.expiry ≤ s.runCount) : s.leadInExpired i = s.request i l.request := by
  simp [State.leadInExpired, hs, hl, he]

/-- R123: the state of a STOPPED or GATHERING unit that an entry has joined. -/
theorem joined_state (x : PowerUnit) (e : Entry) (now : Nat) :
    (x.state = .stopped → (x.joined e now).state =
      if e.cls = 0 ∨ x.urgentCount ≤ (x.joined e now).list.length ∨ x.ageTime = 0 then .starting else .gathering) ∧
    (x.state = .gathering → (x.joined e now).state =
      if e.cls = 0 ∨ x.urgentCount ≤ (x.joined e now).list.length then .starting else .gathering) := by
  have list : (x.joined e now).list = insertEntry e (removeEntry e.door x.list) := by
    simp only [PowerUnit.joined]
    split
    · split <;> rfl
    · split <;> rfl
    · rfl
    · rfl
  rw [list]
  refine ⟨fun h => ?_, fun h => ?_⟩
  · simp only [PowerUnit.joined, h, or_assoc]
    split <;> rfl
  · simp only [PowerUnit.joined, h]
    split <;> rfl

theorem leadInExpiry_due {l : LeadIn} (hp : s.powered = true) (hs : (s.door i).state = .warning)
    (hl : (s.door i).leadIn = some l) (he : l.expiry ≤ s.runCount) :
    exec (.leadInExpiry i) s = .next (s.request i l.request).evalOutputs := by
  rw [← leadInExpired_due hs hl he]
  exact live_powered hp fun s => (s.leadInExpired i).evalOutputs

/-- Settles O54: the lead-in's request by the effect of a request that waits, is admitted at once or meets a FAILED
unit, and the reversal instant by the state it enters. -/
theorem leadInsAndReversalsExpire : Obligations.LeadInsAndReversalsExpire := by
  intro s i l e x hp
  refine ⟨?_, fun dir hd => ⟨fun hw => ?_, fun hw => ?_⟩⟩
  · rintro rfl hs hl rfl
    refine ⟨fun he ho => ?_, fun he => ⟨fun h => ?_, (joined_state _ _ _).1, (joined_state _ _ _).2, fun hf => ?_⟩⟩
    · have early : s.leadInExpired i = s := by simp [State.leadInExpired, hs, hl, he]
      exact (live_powered hp fun s => (s.leadInExpired i).evalOutputs).trans (by rw [early, evalOutputs_eq_self ho])
    · have request : s.request i l.request = s.listRequest i l.request := by
        rw [State.request, if_neg (by simpa [State.unitFailed] using waits_not_failed h)]
      obtain ⟨others, units, requested⟩ := listRequest_effect s i l.request h
      rw [LeadIn.request_entry] at requested
      have done := (onlyDoors_listRequest s i l.request).worked
      refine ⟨_, leadInExpiry_due hp hs hl he, ?_⟩
      rw [request]
      exact ⟨requested.congr (done.door i) (done.unit _), fun j hj => (done.door j).trans (others j hj),
        fun v hv => (done.unit v).trans (units v hv), done.rest, done.outputs, done.ports⟩
    · have request : s.request i l.request = s.refusePower i := by
        rw [State.request, if_pos (by simpa [State.unitFailed] using hf)]
      have done := (onlyDoors_refusePower s i).worked
      have only := doorOnly_refusePower s i
      refine ⟨_, leadInExpiry_due hp hs hl he, ?_⟩
      rw [request]
      exact ⟨(done.door i).trans (door_refusePower_self s i), fun j hj => (done.door j).trans (only.others j hj),
        done.onlyDoors only.units, done.outputs, done.ports⟩
  · have stays : s.reversed i = s := by simp [State.reversed, hd, hw]
    exact (live_powered hp fun s => s.reversed i).trans (by rw [stays])
  · have drives : s.reversed i = s.setState i dir.driving := by simp [State.reversed, hd, hw]
    have moves : dir.driving.waitsOrMoves := by
      cases dir <;> simp [DoorState.waitsOrMoves, Dir.driving, DoorState.isRest]
    have only := doorOnly_setState s i dir.driving
    have work := onlyDoors_setState s i dir.driving
    refine ⟨_, (live_powered hp fun s => s.reversed i).trans (by rw [drives]), door_setState_moving s i moves,
      only.others, ?_, work.ports⟩
    exact work.rest.trans (by rw [only.units])

/-! ### OPEN -/

theorem openResult_taking (s : State) (p : PortId) (it : Item) (i : DoorId) :
    (s.taking p it).openResult i = s.openResult i := by
  simp [State.openResult]

theorem closeResult_taking (s : State) (p : PortId) (it : Item) (i : DoorId) :
    (s.taking p it).closeResult i = s.closeResult i := by
  simp [State.closeResult]

/-- R98: OPEN is not refused exactly for a door of a free zone in service, not UNKNOWN and without event fault, whose
unit, where it is asked for a stroke, is not FAILED. -/
theorem openResult_ok (h : s.openResult i = .ok) : s.doorHeld i = false ∧ (s.door i).inService = true ∧
    (s.door i).state ≠ .unknown ∧ (s.door i).eventFaulted = false ∧
    ((s.door i).state ∈ [.closed, .halted, .warning, .queued .close] → (s.unit (s.door i).unit).state ≠ .failed) := by
  simp only [State.openResult] at h
  split_ifs at h with hh hs hu hf
  simp only [Bool.or_eq_true, decide_eq_true_eq, not_or, Bool.not_eq_true] at hu
  exact ⟨by simpa using hh, by simpa using hs, hu.1, hu.2, fun hm hx => hf ⟨hm, hx⟩⟩

theorem openResult_refusedPower (h : s.openResult i = .refusedPower) : s.doorHeld i = false ∧
    (s.door i).inService = true ∧ (s.door i).state ≠ .unknown ∧ (s.door i).eventFaulted = false ∧
    (s.door i).state ∈ [.closed, .halted, .warning, .queued .close] ∧ (s.unit (s.door i).unit).state = .failed := by
  simp only [State.openResult] at h
  split_ifs at h with hh hs hu hf
  simp only [Bool.or_eq_true, decide_eq_true_eq, not_or, Bool.not_eq_true] at hu
  exact ⟨by simpa using hh, by simpa using hs, hu.1, hu.2, hf.1, hf.2⟩

/-- R98: the request that OPEN makes. -/
def openRequest (p : PortId) (now : Nat) : StrokeRequest :=
  { direction := .opening, cause := .console p, cls := 2, arrival := now }

theorem openDoor_requests (h : s.openResult i = .ok)
    (hs : (s.door i).state ∈ [.closed, .halted, .warning, .queued .close]) :
    State.openDoor p i s = ((s.listRequest i (openRequest p s.runCount)).setSource i (.port p), .ok) := by
  obtain ⟨held, service, known, faultless, power⟩ := openResult_ok h
  have unit : s.unitFailed i = false := by simpa [State.unitFailed] using power hs
  simp only [List.mem_cons, List.not_mem_nil, or_false] at hs
  obtain hs | hs | hs | hs := hs <;>
    simp [State.openDoor, held, service, faultless, hs, unit, State.byPort, openRequest]

theorem openDoor_turns (h : s.openResult i = .ok) (hs : (s.door i).state ∈ [.closing, .reversing .close]) :
    State.openDoor p i s = ((s.changeDirection i .opening (.console p) 2).setSource i (.port p), .ok) := by
  obtain ⟨held, service, known, faultless, -⟩ := openResult_ok h
  simp only [List.mem_cons, List.not_mem_nil, or_false] at hs
  obtain hs | hs := hs <;> simp [State.openDoor, held, service, faultless, hs, State.byPort]

theorem openDoor_refusesPower (h : s.openResult i = .refusedPower) :
    State.openDoor p i s = (s.refusePower i, .refusedPower) := by
  obtain ⟨held, service, known, faultless, hs, power⟩ := openResult_refusedPower h
  have unit : s.unitFailed i = true := by simpa [State.unitFailed] using power
  simp only [List.mem_cons, List.not_mem_nil, or_false] at hs
  obtain hs | hs | hs | hs := hs <;> simp [State.openDoor, held, service, faultless, hs, unit]

theorem openDoor_unchanged (h : s.openResult i ∉ [.ok, .refusedPower] ∨
    (s.door i).state ∈ [.opened, .queued .opening, .reversing .opening, .opening]) :
    State.openDoor p i s = (s, s.openResult i) := by
  by_cases held : s.doorHeld i = true
  · simp [State.openDoor, State.openResult, held]
  by_cases service : (s.door i).inService = false
  · simp [State.openDoor, State.openResult, held, service]
  by_cases known : (s.door i).state = .unknown
  · simp [State.openDoor, State.openResult, held, service, known]
  by_cases faulted : (s.door i).eventFaulted = true
  · simp [State.openDoor, State.openResult, held, service, known, faulted]
  have opening : (s.door i).state ∈ [.opened, .queued .opening, .reversing .opening, .opening] := by
    refine h.resolve_left fun hn => hn ?_
    simp only [State.openResult, held, service, known, faulted]
    simp
    tauto
  simp only [List.mem_cons, List.not_mem_nil, or_false] at opening
  obtain hs | hs | hs | hs := opening <;>
    simp [State.openDoor, State.openResult, held, service, faulted, hs]

/-- Settles O28: each answer of OPEN by its equation, and the request and the direction change by their effects. -/
theorem openQueuesOrReverses : Obligations.OpenQueuesOrReverses := by
  intro s p i n x h hi hx hn
  subst hx hn
  let w := s.taking p (.order .openDoor (.door (number i)))
  have result : w.openResult i = s.openResult i := openResult_taking s p _ i
  have order : ∀ {u r}, State.openDoor p i w = (u, r) →
      w.ordering p (.door (number i)) .openDoor = { state := u.evalOutputs, result := r, count := 0 } := by
    intro u r e
    have owner : w.orderOpen p (.door (number i)) = w.doorOrder (number i) (State.openDoor p) := asCommand_taking h.2 _ _
    rw [State.ordering, owner, doorOrder_installed (by simpa [w] using hi), e]
    rfl
  have doors : ∀ {u r}, State.openDoor p i w = (u, r) → OnlyDoors w u →
      ∃ t, exec (.openDoor p (.door (number i))) s = .next t ∧ DoorsAnswered p (orderEntry r 0) s u t :=
    fun e only => order_doors h.1 rfl (malformed_order_door _ i) (order e) only
  refine ⟨fun hr => ⟨fun hs hw => ?_, fun hs => ?_⟩, fun hr => ?_, fun ho hr => ?_, ?_⟩
  · rw [← result] at hr
    obtain ⟨t, ht, a⟩ := doors (openDoor_requests (p := p) hr (by simpa [w] using hs))
      ((onlyDoors_listRequest _ _ _).trans (onlyDoors_setSource _ _ _))
    obtain ⟨others, units, requested⟩ := listRequest_effect w i (openRequest p w.runCount) (by simpa [w] using hw)
    have source := doorOnly_setSource (w.listRequest i (openRequest p w.runCount)) i (.port p)
    have asked : Requested s i (s.door i) ((openRequest p w.runCount).entry i) (w.listRequest i (openRequest p w.runCount)) := by
      simpa only [Requested, w, State.unit_taking, State.door_taking, State.taking_cutoff, State.taking_runCount]
        using requested
    have entry : (openRequest p w.runCount).entry i =
        { door := i, direction := .opening, cls := 2, cause := .console p, arrival := s.runCount } := by
      simp [openRequest, StrokeRequest.entry, w]
    rw [entry] at asked
    refine ⟨t, ht, (asked.setSource (.port p)).congr (a.door i) (a.unit _), fun j hj => ?_, fun v hv => ?_, a.rest,
      a.outputs, a.answered⟩
    · rw [a.door, source.others j hj, others j hj, State.door_taking]
    · rw [a.unit, source.unit, units v (by simpa [w] using hv), State.unit_taking]
  · rw [← result] at hr
    obtain ⟨t, ht, a⟩ := doors (openDoor_turns (p := p) hr (by simpa [w] using hs))
      ((onlyDoors_changeDirection _ _ _ _ _).trans (onlyDoors_setSource _ _ _))
    have only := (doorOnly_changeDirection w i .opening (.console p) 2).trans (doorOnly_setSource _ i (.port p))
    refine ⟨t, ht, ?_, fun j hj => ?_, a.onlyDoors (only.units.trans (State.taking_units ..)), a.outputs, a.answered⟩
    · rw [a.door, State.door_setSource, if_pos rfl, door_changeDirection_self, State.door_taking, State.taking_runCount]
    · rw [a.door, only.others j hj, State.door_taking]
  · rw [← result] at hr
    obtain ⟨t, ht, a⟩ := doors (openDoor_refusesPower (p := p) hr) (onlyDoors_refusePower _ _)
    have only := doorOnly_refusePower w i
    refine ⟨t, ht, ?_, fun j hj => ?_, a.onlyDoors (only.units.trans (State.taking_units ..)), a.outputs, a.answered⟩
    · rw [a.door, door_refusePower_self, State.door_taking, State.taking_clock, State.taking_settingsHold]
    · rw [a.door, only.others j hj, State.door_taking]
  · rw [← result] at hr
    rw [← result]
    have same := openDoor_unchanged (p := p) (s := w) (i := i) (by simpa [w] using hr)
    refine order_unchanged h.1 ho rfl (malformed_order_door _ i) ?_
    rw [order same]
    rfl
  · simp [State.openResult, and_comm]

end Sys2Proof.Machine
end


section
/-! SUPPORT. CLOSE of a door: what ends of what the door has in flight, and the lead-in that begins. -/

namespace Sys2Proof.Machine

variable {s t u : State} {p : PortId} {i : DoorId} {v : UnitId}

/-! ### A slot that is freed -/

theorem OtherUnits.refl (v : UnitId) (s : State) : OtherUnits v s s := fun _ _ => rfl

theorem OtherUnits.trans (h : OtherUnits v s t) (k : OtherUnits v t u) : OtherUnits v s u :=
  fun w hw => (k w hw).trans (h w hw)

theorem DoorOnly.otherUnits (h : DoorOnly i s t) (v : UnitId) : OtherUnits v s t := fun w _ => h.unit w

theorem otherUnits_admitUpTo (v : UnitId) (n : Nat) : ∀ s : State, OtherUnits v s (s.admitUpTo v n) := by
  induction n with
  | zero => exact .refl v
  | succ n ih =>
    intro s
    simp only [State.admitUpTo]
    split
    · exact .refl v s
    next e rest hlist =>
      split
      · refine OtherUnits.trans (fun w hw => ?_) (ih _)
        rw [unit_admitHead, if_neg hw]
      · exact .refl v s

theorem otherUnits_admissionRun (s : State) (v : UnitId) : OtherUnits v s (s.admissionRun v) := by
  rw [State.admissionRun]
  split
  · exact otherUnits_admitUpTo v _ s
  · exact .refl v s

theorem otherUnits_freeSlot (s : State) (i : DoorId) : OtherUnits (s.door i).unit s (s.freeSlot i) :=
  ((unitOnly_modUnit s _ _).others.trans (otherUnits_admissionRun _ _)).trans (unitOnly_idleIfDone _ _).others

theorem otherUnits_endStroke (s : State) (i : DoorId) : OtherUnits (s.door i).unit s (s.endStroke i) := by
  have free := otherUnits_freeSlot (s.driveOffNow i) i
  rw [door_driveOffNow_self] at free
  exact (((doorOnly_driveOffNow s i).otherUnits _).trans free).trans ((doorOnly_modDoor _ i _).otherUnits _)

theorem admissionRun_empty (h : (s.unit v).list = []) : s.admissionRun v = s := by
  rw [State.admissionRun, h, List.length_nil]
  exact ite_self s

/-- R128: with an empty list a freed slot goes to no door. -/
theorem others_endStroke (h : (s.unit (s.door i).unit).list = []) : OtherDoors i s (s.endStroke i) := fun j hj => by
  have off := doorOnly_driveOffNow s i
  have unit : ((s.driveOffNow i).door i).unit = (s.door i).unit := by rw [door_driveOffNow_self]; rfl
  have freed : UnitOnly (s.door i).unit (s.driveOffNow i) ((s.driveOffNow i).freeSlot i) := by
    rw [State.freeSlot, unit, admissionRun_empty (by rw [State.unit_modUnit_self, off.unit]; exact h)]
    exact (unitOnly_modUnit _ _ _).trans (unitOnly_idleIfDone _ _)
  rw [State.endStroke, (doorOnly_modDoor _ i _).others j hj, freed.door, off.others j hj]

/-! ### CLOSE -/

/-- R97: CLOSE is not refused exactly for a door in service, not UNKNOWN, without event fault, and without a held local
open in a held zone. -/
theorem closeResult_ok (h : s.closeResult i = .ok) : (s.door i).inService = true ∧ (s.door i).state ≠ .unknown ∧
    (s.door i).eventFaulted = false ∧ (s.doorHeld i && (s.door i).localOpen) = false := by
  simp only [State.closeResult] at h
  split_ifs at h with hs hu hl
  simp only [Bool.or_eq_true, decide_eq_true_eq, not_or, Bool.not_eq_true] at hu
  exact ⟨by simpa using hs, hu.1, hu.2, by simpa using hl⟩

/-- R97, R104: the cause of the lead-in that CLOSE begins. -/
def State.closeCause (s : State) (p : PortId) (i : DoorId) : Cause := if s.doorHeld i then .closure else .console p

theorem closeDoor_passes (h : s.closeResult i = .ok)
    (hs : (s.door i).state ∈ [.opened, .halted, .opening, .reversing .opening, .queued .opening, .recloseWait]) :
    State.closeDoor p i s = ((s.passToWarning i (s.closeCause p i)).setSource i (.port p), .ok) := by
  obtain ⟨service, -, faultless, free⟩ := closeResult_ok h
  simp only [List.mem_cons, List.not_mem_nil, or_false] at hs
  obtain hs | hs | hs | hs | hs | hs := hs <;>
    simp [State.closeDoor, service, faultless, free, hs, State.byPort, State.closeCause]

theorem closeDoor_unchanged (h : s.closeResult i ≠ .ok ∨
    (s.door i).state ∈ [.closed, .warning, .queued .close, .reversing .close, .closing]) :
    State.closeDoor p i s = (s, s.closeResult i) := by
  by_cases service : (s.door i).inService = false
  · simp [State.closeDoor, State.closeResult, service]
  by_cases known : (s.door i).state = .unknown
  · simp [State.closeDoor, State.closeResult, service, known]
  by_cases faulted : (s.door i).eventFaulted = true
  · simp [State.closeDoor, State.closeResult, service, known, faulted]
  by_cases local' : (s.doorHeld i && (s.door i).localOpen) = true
  · simp [State.closeDoor, State.closeResult, service, known, faulted, local']
  have stays := h.resolve_left (by simp [State.closeResult, service, known, faulted, local'])
  simp only [List.mem_cons, List.not_mem_nil, or_false] at stays
  obtain hs | hs | hs | hs | hs := stays <;>
    simp [State.closeDoor, State.closeResult, service, faulted, local', hs]

/-- The door that a CLOSE has put into WARNING. -/
def Door.ledIn (d : Door) (c : Cause) (now : Nat) (p : PortId) : Door :=
  { (d.undriven now).warned c now with
    stroke := if d.state.hasStroke then none else d.stroke, lastSource := some (.port p) }

theorem door_setSource_self (s : State) (i : DoorId) (src : Source) :
    (s.setSource i src).door i = { s.door i with lastSource := some src } := by
  rw [State.door_setSource, if_pos rfl]

/-- R97: CLOSE of a standing door, or of one in RECLOSE_WAIT. -/
theorem closing_standing (hs : (s.door i).state ∈ [.opened, .halted, .recloseWait]) (c : Cause) :
    DoorOnly i s ((s.passToWarning i c).setSource i (.port p)) ∧
      ((s.passToWarning i c).setSource i (.port p)).door i = (s.door i).ledIn c s.runCount p := by
  have nothing : s.endWork i = s := by
    simp only [List.mem_cons, List.not_mem_nil, or_false] at hs
    obtain hs | hs | hs := hs <;> simp [State.endWork, hs]
  have idle : (s.door i).state.drive = none ∧ (s.door i).state.hasStroke = false := by
    simp only [List.mem_cons, List.not_mem_nil, or_false] at hs
    obtain hs | hs | hs := hs <;> simp [hs, DoorState.drive, DoorState.hasStroke]
  rw [State.passToWarning, nothing]
  refine ⟨(doorOnly_enterWarning s i c).trans (doorOnly_setSource _ i _), ?_⟩
  rw [door_setSource_self, State.door_enterWarning, if_pos rfl, Door.ledIn, Door.undriven_of_drive_none idle.1, idle.2]
  rfl

/-- R97, R122: CLOSE of a door in QUEUED(open). -/
theorem closing_queued {dir : Dir} (hs : (s.door i).state = .queued dir) (c : Cause) :
    OtherDoors i s ((s.passToWarning i c).setSource i (.port p)) ∧
      OtherUnits (s.door i).unit s ((s.passToWarning i c).setSource i (.port p)) ∧
      ((s.passToWarning i c).setSource i (.port p)).unit (s.door i).unit =
        (s.unit (s.door i).unit).left i s.runCount ∧
      ((s.passToWarning i c).setSource i (.port p)).door i = (s.door i).ledIn c s.runCount p := by
  have leaves : s.endWork i = s.leaveList i := by simp [State.endWork, hs]
  have list := unitOnly_leaveList s i
  have warned := (doorOnly_enterWarning (s.leaveList i) i c).trans (doorOnly_setSource _ i (.port p))
  rw [State.passToWarning, leaves]
  refine ⟨fun j hj => ?_, list.others.trans (warned.otherUnits _), (warned.unit _).trans (unit_leaveList s i), ?_⟩
  · rw [warned.others j hj, list.door]
  · rw [door_setSource_self, State.door_enterWarning, if_pos rfl, list.door, (onlyDoors_leaveList s i).runCount,
      Door.ledIn, Door.undriven_of_drive_none (by simp [hs, DoorState.drive]), hs]
    rfl

/-- R97, R68: CLOSE of a door in REVERSING-to-open or OPENING that waits in no list. -/
theorem closing_stroke (hu : s.Unlisted i) (hs : (s.door i).state.hasStroke = true) (c : Cause) :
    ((s.passToWarning i c).setSource i (.port p)).door i = (s.door i).ledIn c s.runCount p ∧
      i ∉ (((s.passToWarning i c).setSource i (.port p)).unit (s.door i).unit).holders ∧
      OtherUnits (s.door i).unit s ((s.passToWarning i c).setSource i (.port p)) ∧
      (∀ j, j ≠ i → s.Unlisted j → ((s.passToWarning i c).setSource i (.port p)).door j = s.door j) ∧
      ((s.unit (s.door i).unit).list = [] → OtherDoors i s ((s.passToWarning i c).setSource i (.port p))) := by
  obtain ⟨door, holders⟩ := door_passToWarning_stroke hu hs c
  have source := doorOnly_setSource (s.passToWarning i c) i (.port p)
  have warned := doorOnly_enterWarning (s.endStroke i) i c
  refine ⟨?_, ?_, ?_, fun j hj hu' => ?_, fun hl j hj => ?_⟩
  · rw [door_setSource_self, door, Door.ledIn, hs]; rfl
  · rw [source.unit]; exact holders
  · rw [State.passToWarning, endWork_stroke hs]
    exact ((otherUnits_endStroke s i).trans (warned.otherUnits _)).trans ((doorOnly_setSource _ i _).otherUnits _)
  · rw [source.others j hj, (spares_passToWarning s hj.symm c hu').1]
  · rw [source.others j hj, State.passToWarning, endWork_stroke hs, warned.others j hj, others_endStroke hl j hj]

/-- Settles O26: CLOSE by what the door has in flight. -/
theorem closeStartsTheLeadIn : Obligations.CloseStartsTheLeadIn := by
  intro s p i e h
  let w := s.taking p (.order .close (.door (number i)))
  have result : w.closeResult i = s.closeResult i := closeResult_taking s p _ i
  have owner : w.orderClose p (.door (number i)) = w.doorOrder (number i) (State.closeDoor p) := asCommand_taking h.2 _ _
  refine ⟨fun hi hr he => ?_, fun r ho hr => ?_, ?_⟩
  · subst he
    have cause : w.closeCause p i = if s.doorHeld i then .closure else .console p := by simp [State.closeCause, w]
    have doors : (s.door i).state ∈ [.opened, .halted, .opening, .reversing .opening, .queued .opening, .recloseWait] →
        ∃ t, exec (.close p (.door (number i))) s = .next t ∧
          DoorsAnswered p (orderEntry .ok 0) s ((w.passToWarning i (w.closeCause p i)).setSource i (.port p)) t := by
      intro hs
      refine order_doors h.1 rfl (malformed_order_door _ i) ?_
        ((onlyDoors_passToWarning _ _ _).trans (onlyDoors_setSource _ _ _))
      rw [State.ordering, owner, doorOrder_installed (by simpa [w] using hi),
        closeDoor_passes (result.trans hr) (by simpa [w] using hs)]
      rfl
    rw [cause] at doors
    have door : (s.door i).ledIn (if s.doorHeld i then .closure else .console p) s.runCount p =
        (w.door i).ledIn (if s.doorHeld i then .closure else .console p) w.runCount p := by simp [w]
    refine ⟨fun hs => ?_, fun hs => ?_, fun hs hu => ?_⟩
    · obtain ⟨t, ht, a⟩ := doors (by simp only [List.mem_cons] at hs ⊢; tauto)
      obtain ⟨only, led⟩ := closing_standing (s := w) (p := p) (by simpa [w] using hs) _
      exact ⟨t, ht, (a.door i).trans (led.trans door.symm), fun j hj => by rw [a.door, only.others j hj, State.door_taking],
        a.onlyDoors (only.units.trans (State.taking_units ..)), a.outputs, a.answered⟩
    · obtain ⟨t, ht, a⟩ := doors (by simp [hs])
      obtain ⟨others, units, unit, led⟩ := closing_queued (s := w) (p := p) (by simpa [w] using hs) _
      refine ⟨t, ht, (a.door i).trans (led.trans door.symm), fun j hj => by rw [a.door, others j hj, State.door_taking],
        ?_, fun v hv => ?_, a.rest, a.outputs, a.answered⟩
      · rw [a.unit]
        simpa [w] using unit
      · rw [a.unit, units v (by simpa [w] using hv), State.unit_taking]
    · obtain ⟨t, ht, a⟩ := doors (by simp only [List.mem_cons] at hs ⊢; tauto)
      have stroke : (w.door i).state.hasStroke = true := by
        simp only [List.mem_cons, List.not_mem_nil, or_false] at hs
        obtain hs | hs := hs <;> simp [w, hs, DoorState.hasStroke]
      have unlisted : ∀ j, s.Unlisted j → w.Unlisted j := fun j hj v => by rw [State.unit_taking]; exact hj v
      obtain ⟨led, holders, units, spared, others⟩ := closing_stroke (p := p) (unlisted i hu) stroke
        (if s.doorHeld i then .closure else .console p)
      refine ⟨t, ht, (a.door i).trans (led.trans door.symm), ?_, fun v hv => ?_, fun j hj hu' => ?_, fun hl j hj => ?_,
        a.rest, a.outputs, a.answered⟩
      · rw [a.unit]
        simpa [w] using holders
      · rw [a.unit, units v (by simpa [w] using hv), State.unit_taking]
      · rw [a.door, spared j hj (unlisted j hu'), State.door_taking]
      · rw [a.door, others (by simpa [w] using hl) j hj, State.door_taking]
  · obtain ⟨hi, rfl⟩ | ⟨hi, hr⟩ := hr
    · refine order_unchanged h.1 ho rfl (malformed_order_door _ i) ?_
      rw [State.ordering, owner, doorOrder_uninstalled (by simpa [w] using hi)]
    · have unchanged : State.closeDoor p i w = (w, r) := by
        obtain ⟨rfl, hne⟩ | ⟨rfl, hok, hs⟩ := hr
        · rw [← result] at hne ⊢
          exact closeDoor_unchanged (.inl hne)
        · rw [← result] at hok
          rw [closeDoor_unchanged (.inr (by simpa [w] using hs)), hok]
      refine order_unchanged h.1 ho rfl (malformed_order_door _ i) ?_
      rw [State.ordering, owner, doorOrder_installed (by simpa [w] using hi), unchanged]
  · simp [State.closeResult]

end Sys2Proof.Machine
end


section
/-! SUPPORT. Orders that take one door after another, and the orders on faults, attentions, service and signals. -/

namespace Sys2Proof.Machine

variable {s t u : State} {p : PortId} {i : DoorId}

/-! ### A pass over doors -/

theorem forDoors_cons (s : State) (i : DoorId) (l : List DoorId) (f : DoorId → State → State) :
    s.forDoors (i :: l) f = (f i s).forDoors l f := rfl

/-- Door `i` stands in `t` as it stood in `s`, of which `t` differs in doors alone. -/
structure State.Untaken (s : State) (i : DoorId) (t : State) : Prop where
  rest : OnlyDoors s t
  units : t.units = s.units
  door : t.door i = s.door i

/-- Work that writes door `i` alone, and makes `d` of it where it stands as it stood in `s`. -/
structure State.Makes (s : State) (i : DoorId) (f : State → State) (d : Door) : Prop where
  only : ∀ t, s.Untaken i t → DoorOnly i t (f t)
  work : ∀ t, s.Untaken i t → OnlyDoors t (f t)
  door : ∀ t, s.Untaken i t → (f t).door i = d

theorem State.Makes.untaken {f : State → State} {d : Door} {j : DoorId} (h : s.Makes i f d) (hij : j ≠ i)
    (hi : s.Untaken i t) (hj : s.Untaken j t) : s.Untaken j (f t) :=
  ⟨hi.rest.trans (h.work t hi), (h.only t hi).units.trans hi.units, ((h.only t hi).others j hij).trans hj.door⟩

/-- A pass whose work on each door writes that door alone. -/
theorem forDoors_effect {f : DoorId → State → State} {g : DoorId → Door} {l : List DoorId} :
    ∀ t, (∀ i ∈ l, s.Makes i (f i) (g i)) → OnlyDoors s t → t.units = s.units → (∀ j ∈ l, t.door j = s.door j) → l.Nodup →
      OnlyDoors s (t.forDoors l f) ∧ (t.forDoors l f).units = s.units ∧
        ∀ j, (t.forDoors l f).door j = if j ∈ l then g j else t.door j := by
  induction l with
  | nil => exact fun t _ ht hu _ _ => ⟨ht, hu, fun j => by simp [State.forDoors]⟩
  | cons i l ih =>
    intro t makes ht hu hd hl
    obtain ⟨hi, hl⟩ := List.nodup_cons.mp hl
    have this := makes i List.mem_cons_self
    have here : s.Untaken i t := ⟨ht, hu, hd i List.mem_cons_self⟩
    have stays : ∀ j ∈ l, (f i t).door j = s.door j := fun j hj =>
      (this.untaken (by rintro rfl; exact hi hj) here ⟨ht, hu, hd j (List.mem_cons_of_mem _ hj)⟩).door
    obtain ⟨rest, units, doors⟩ := ih (f i t) (fun j hj => makes j (List.mem_cons_of_mem _ hj))
      (ht.trans (this.work t here)) ((this.only t here).units.trans hu) stays hl
    refine ⟨rest, units, fun j => ?_⟩
    rw [forDoors_cons, doors j]
    by_cases hj : j = i
    · subst hj
      rw [if_neg hi, if_pos List.mem_cons_self]
      exact this.door t here
    · simp only [List.mem_cons, hj, false_or]
      rw [(this.only t here).others j hj]

theorem doorsWhere_nodup (s : State) (c : Door → Bool) : (s.doorsWhere c).Nodup := doorIds_nodup.filter _

theorem mem_doorsWhere (s : State) (c : Door → Bool) (j : DoorId) :
    j ∈ s.doorsWhere c ↔ (s.door j).installed = true ∧ c (s.door j) = true := by
  simp [State.doorsWhere, mem_doorIds]

theorem mem_doorsOfZone (s : State) (z : ZoneId) (j : DoorId) :
    j ∈ s.doorsOfZone z ↔ (s.door j).installed = true ∧ (s.door j).zone = z := by
  simp [State.doorsOfZone, mem_doorsWhere]

@[simp] theorem doorsOfZone_taking (s : State) (p : PortId) (it : Item) (z : ZoneId) :
    (s.taking p it).doorsOfZone z = s.doorsOfZone z := by
  simp [State.doorsOfZone, State.doorsWhere]

/-! ### Zone orders -/

/-- R96: the tally of doors each of which takes its own order, with the answer `r i`. -/
theorem zoneTally_foldl {f : DoorOrder} {g : DoorId → Door} {r : DoorId → Result} {l : List DoorId} : ∀ z : ZoneTally,
    (∀ i ∈ l, s.Makes i (fun t => (f i t).1) (g i)) → (∀ i ∈ l, ∀ t, s.Untaken i t → (f i t).2 = r i) →
    OnlyDoors s z.state → z.state.units = s.units → (∀ j ∈ l, z.state.door j = s.door j) → l.Nodup →
      l.foldl (ZoneTally.next f) z =
        { state := z.state.forDoors l fun i t => (f i t).1
          count := z.count + (l.map r).countP fun x => x = .ok
          first := z.first.or ((l.map r).find? fun x => x ≠ .ok) } := by
  induction l with
  | nil => exact fun z _ _ _ _ _ _ => by simp [State.forDoors]
  | cons i l ih =>
    intro z makes answers hz hu hd hl
    obtain ⟨hi, hl⟩ := List.nodup_cons.mp hl
    have this := makes i List.mem_cons_self
    have here : s.Untaken i z.state := ⟨hz, hu, hd i List.mem_cons_self⟩
    have answer : f i z.state = ((f i z.state).1, r i) := by rw [← answers i List.mem_cons_self _ here]
    have next : z.next f i = { state := (f i z.state).1, count := z.count + if r i = .ok then 1 else 0
                               first := z.first.or (if r i = .ok then none else some (r i)) } := by
      simp only [ZoneTally.next]
      rw [answer]
      by_cases hr : r i = .ok
      · simp [hr]
      · cases z.first <;> simp [hr]
    have stays : ∀ j ∈ l, (f i z.state).1.door j = s.door j := fun j hj =>
      (this.untaken (by rintro rfl; exact hi hj) here ⟨hz, hu, hd j (List.mem_cons_of_mem _ hj)⟩).door
    rw [List.foldl_cons, next, ih _ (fun j hj => makes j (List.mem_cons_of_mem _ hj))
      (fun j hj => answers j (List.mem_cons_of_mem _ hj)) (hz.trans (this.work _ here))
      ((this.only _ here).units.trans hu) stays hl, forDoors_cons, List.map_cons]
    by_cases hr : r i = .ok
    · simp [hr, Nat.add_assoc, Nat.add_comm 1]
    · cases z.first <;> simp [hr]

/-- R96: a zone order whose work on each door of the zone writes that door alone, with the answer `r i`. -/
theorem zoneOrder_effect {f : DoorOrder} {g : DoorId → Door} {r : DoorId → Result} (z : ZoneId)
    (makes : ∀ i ∈ s.doorsOfZone z, s.Makes i (fun t => (f i t).1) (g i))
    (answers : ∀ i ∈ s.doorsOfZone z, ∀ t, s.Untaken i t → (f i t).2 = r i) :
    ∃ u, s.zoneOrder z f =
        { state := u, result := ((((s.doorsOfZone z).map r).find? fun x => x ≠ .ok).getD .ok)
          count := ((s.doorsOfZone z).map r).countP fun x => x = .ok } ∧
      OnlyDoors s u ∧ u.units = s.units ∧ ∀ j, u.door j = if j ∈ s.doorsOfZone z then g j else s.door j := by
  have nodup : (s.doorsOfZone z).Nodup := doorsWhere_nodup s _
  obtain ⟨rest, units, doors⟩ := forDoors_effect s makes (.refl _) rfl (fun _ _ => rfl) nodup
  refine ⟨_, ?_, rest, units, doors⟩
  simp only [State.zoneOrder]
  rw [show (s.doorsWhere fun d => decide (d.zone = z)) = s.doorsOfZone z from rfl, zoneTally_foldl { state := s, count := 0, first := none } makes answers (.refl _) rfl (fun _ _ => rfl) nodup]
  simp

/-- A zone order that every door of the zone answers OK. -/
theorem zoneOrder_ok {f : DoorOrder} {g : DoorId → Door} (z : ZoneId)
    (makes : ∀ i ∈ s.doorsOfZone z, s.Makes i (fun t => (f i t).1) (g i))
    (answers : ∀ i ∈ s.doorsOfZone z, ∀ t, s.Untaken i t → (f i t).2 = .ok) :
    ∃ u, s.zoneOrder z f = { state := u, result := .ok, count := (s.doorsOfZone z).length } ∧
      OnlyDoors s u ∧ u.units = s.units ∧ ∀ j, u.door j = if j ∈ s.doorsOfZone z then g j else s.door j := by
  obtain ⟨u, order, rest⟩ := zoneOrder_effect z makes (r := fun _ => .ok) answers
  refine ⟨u, ?_, rest⟩
  rw [order]
  have none : ((s.doorsOfZone z).map fun _ => Result.ok).find? (fun x => x ≠ .ok) = none := by simp
  have all : ((s.doorsOfZone z).map fun _ => Result.ok).countP (fun x => x = .ok) = (s.doorsOfZone z).length := by
    rw [List.countP_eq_length.mpr (by simp), List.length_map]
  rw [none, all]
  rfl

/-- R96: an order that every installed door of a zone answers OK. -/
theorem order_zone_ok {c : Instr} {o : OrderOp} {f : DoorOrder} {g : DoorId → Door} {z : ZoneId} (hf : s.Free p)
    (hi : c.item = some (p, .order o (.zone (number z)))) (hm : itemMalformed (.order o (.zone (number z))) = false)
    (ha : (s.taking p (.order o (.zone (number z)))).ordering p (.zone (number z)) o =
      ((s.taking p (.order o (.zone (number z)))).zoneOrder z f).withOutputs)
    (makes : ∀ i ∈ s.doorsOfZone z,
      (s.taking p (.order o (.zone (number z)))).Makes i (fun t => (f i t).1) (g i))
    (answers : ∀ i ∈ s.doorsOfZone z, ∀ t, (s.taking p (.order o (.zone (number z)))).Untaken i t → (f i t).2 = .ok)
    (ho : o ≠ .restart := by exact fun e => nomatch e) :
    ∃ t, exec c s = .next t ∧ (∀ j, t.door j = if (s.door j).installed ∧ (s.door j).zone = z then g j else s.door j) ∧
      t = { s with ports := t.ports, doors := t.doors, outputs := t.outputs } ∧ t.OutputsHold ∧
      Answered p (orderEntry .ok (s.doorsOfZone z).length) s t := by
  obtain ⟨u, order, rest, units, doors⟩ := zoneOrder_ok z
    (by rw [doorsOfZone_taking]; exact makes) (by rw [doorsOfZone_taking]; exact answers)
  rw [doorsOfZone_taking] at order doors
  obtain ⟨t, ht, a⟩ := order_doors (c := c) (u := u) (r := .ok) (n := (s.doorsOfZone z).length) hf hi hm
    (by rw [ha, order]; rfl) rest ho
  refine ⟨t, ht, fun j => ?_, a.onlyDoors (units.trans (State.taking_units ..)), a.outputs, a.answered⟩
  rw [a.door, doors, State.door_taking]
  simp only [mem_doorsOfZone]

/-! ### Faults removed and demands -/

theorem State.Untaken.self (s : State) (i : DoorId) : s.Untaken i s := ⟨.refl s, rfl, rfl⟩

theorem State.Untaken.doorHeld (h : s.Untaken i t) : t.doorHeld i = s.doorHeld i := by
  rw [State.doorHeld, h.door, h.rest.held]; rfl

/-- A door is written, its zone kept, and its closure demand evaluated. -/
theorem door_closureDemand_modDoor (t : State) (i : DoorId) {f : Door → Door} (hz : ∀ d, (f d).zone = d.zone) :
    ((t.modDoor i f).closureDemand i).door i = (f (t.door i)).demandTaken (t.doorHeld i) t.runCount := by
  have held : (t.modDoor i f).doorHeld i = t.doorHeld i := by
    rw [State.doorHeld, State.door_modDoor, if_pos rfl, hz, (onlyDoors_modDoor t i f).held]; rfl
  rw [door_closureDemand_self, held, State.door_modDoor, if_pos rfl, (onlyDoors_modDoor t i f).runCount]

theorem makes_closureDemand_modDoor (s : State) (i : DoorId) {f : Door → Door} (hz : ∀ d, (f d).zone = d.zone) :
    s.Makes i (fun t => (t.modDoor i f).closureDemand i) ((f (s.door i)).demandTaken (s.doorHeld i) s.runCount) where
  only t _ := (doorOnly_modDoor t i f).trans (doorOnly_closureDemand _ i)
  work t _ := (onlyDoors_modDoor t i f).trans (onlyDoors_closureDemand _ i)
  door t ht := by rw [door_closureDemand_modDoor t i hz, ht.door, ht.doorHeld, ht.rest.runCount]

theorem makes_closureDemand (s : State) (i : DoorId) :
    s.Makes i (fun t => t.closureDemand i) ((s.door i).demandTaken (s.doorHeld i) s.runCount) where
  only t _ := doorOnly_closureDemand _ i
  work t _ := onlyDoors_closureDemand _ i
  door t ht := by rw [door_closureDemand_self, ht.door, ht.doorHeld, ht.rest.runCount]

theorem Door.eventFaulted_withoutEventFaults (d : Door) : d.withoutEventFaults.eventFaulted = false := by
  simp [Door.eventFaulted, Door.withoutEventFaults, BitVec.and_assoc]

/-- R76: what RESET_FAULTS makes of an installed door. -/
theorem demandTaken_withoutEventFaults {d : Door} (hi : d.installed = true) (held : Bool) (now : Nat) :
    d.withoutEventFaults.demandTaken held now =
      if held = true ∧ d.inService = true ∧ d.localOpen = false ∧ (d.state = .opened ∨ d.state = .halted) then
        { d.withoutEventFaults.warned .closure now with lastSource := some .closure }
      else d.withoutEventFaults := by
  rw [Door.demandTaken, Door.eventFaulted_withoutEventFaults]
  refine if_congr ?_ rfl rfl
  simp only [Door.withoutEventFaults, hi, Bool.and_eq_true, Bool.or_eq_true, decide_eq_true_eq, Bool.not_eq_true',
    Bool.true_and, and_true]
  tauto

end Sys2Proof.Machine
end


section
/-! SUPPORT. RESET_UNIT, SERVICE and RESET_FAULTS. -/

namespace Sys2Proof.Machine

variable {s t u : State} {p : PortId} {i : DoorId}

/-! ### RESET_UNIT -/

/-- R87: the demand as the state finds it. -/
theorem demandTaken_eq (s : State) (i : DoorId) :
    (s.door i).demandTaken (s.doorHeld i) s.runCount =
      if s.demanded i then { (s.door i).warned .closure s.runCount with lastSource := some .closure } else s.door i := rfl

theorem demanded_installed (h : s.demanded i = true) : (s.door i).installed = true := by
  simp only [State.demanded, Bool.and_eq_true] at h
  tauto

/-- R134: the demand of each door of a unit. -/
theorem doorsOfUnit_demanded (s : State) (v : UnitId) :
    OnlyDoors s (s.forDoors (s.doorsOfUnit v) fun i t => t.closureDemand i) ∧
      (s.forDoors (s.doorsOfUnit v) fun i t => t.closureDemand i).units = s.units ∧
      ∀ j, (s.forDoors (s.doorsOfUnit v) fun i t => t.closureDemand i).door j =
        if (s.door j).unit = v ∧ s.demanded j = true then
          { (s.door j).warned .closure s.runCount with lastSource := some .closure }
        else s.door j := by
  obtain ⟨rest, units, doors⟩ := forDoors_effect s (fun i _ => makes_closureDemand s i) (.refl s) rfl
    (fun _ _ => rfl) (doorsWhere_nodup s fun d => d.unit = v)
  refine ⟨rest, units, fun j => (doors j).trans ?_⟩
  rw [demandTaken_eq]
  simp only [mem_doorsWhere, decide_eq_true_eq]
  by_cases hd : s.demanded j = true
  · simp [hd, demanded_installed hd]
  · simp [hd]

/-- Settles O34, by what RESET_UNIT does to the unit and a pass over its doors. -/
theorem resetUnitStopsAFailedUnit : Obligations.ResetUnitStopsAFailedUnit := by
  intro s p v h
  let w := s.taking p (.order .resetUnit (.unit (number v)))
  have owner : w.orderResetUnit p (.unit (number v)) =
      if (w.unit v).state = .failed && (w.unit v).pressLow.value then w.answer .refusedState
      else ((if (w.unit v).state = .failed then w.modUnit v fun x => { x with state := .stopped, timer := none } else w).forDoors
        ((if (w.unit v).state = .failed then w.modUnit v fun x => { x with state := .stopped, timer := none } else w).doorsOfUnit v)
        fun i t => t.closureDemand i).answer .ok := by
    simp only [State.orderResetUnit, w, asCommand_taking h.2, numbered_number]
  refine ⟨fun hv => ?_, fun ho hs hp => ?_⟩
  · let x := if (w.unit v).state = .failed then w.modUnit v fun x => { x with state := .stopped, timer := none } else w
    have first : OnlyDoors w x ∧ (∀ j, x.door j = w.door j) ∧ OtherUnits v w x ∧
        x.unit v = if (s.unit v).state = .failed then { s.unit v with state := .stopped, timer := none } else s.unit v := by
      by_cases hs : (s.unit v).state = .failed
      · have : x = w.modUnit v fun x => { x with state := .stopped, timer := none } := by simp [x, w, hs]
        rw [this, if_pos hs]
        exact ⟨onlyDoors_modUnit _ _ _, fun j => State.door_modUnit ..,  (unitOnly_modUnit _ _ _).others, by simp [w]⟩
      · have : x = w := by simp [x, w, hs]
        rw [this, if_neg hs]
        exact ⟨.refl _, fun _ => rfl, .refl v w, by simp [w]⟩
    obtain ⟨work, doors, others, unit⟩ := first
    obtain ⟨rest, units, demands⟩ := doorsOfUnit_demanded x v
    obtain ⟨t, ht, a⟩ := order_doors (c := .resetUnit p (.unit (number v))) h.1 rfl (by simp [itemMalformed, Target.malformed])
      (by rw [State.ordering, owner, if_neg (by simpa [w] using hv)]; rfl) (work.trans rest)
    have door : ∀ j, x.door j = s.door j := fun j => (doors j).trans (State.door_taking ..)
    have held : ∀ j, x.doorHeld j = s.doorHeld j := fun j => by rw [State.doorHeld, work.held, door]; simp [w, State.doorHeld]
    have unit' : ∀ y, (x.forDoors (x.doorsOfUnit v) fun i t => t.closureDemand i).unit y = x.unit y := fun y => by
      rw [State.unit, units]; rfl
    refine ⟨t, ht, ?_, fun j => ?_, fun y hy => ?_, a.rest, a.outputs, a.answered⟩
    · rw [a.unit, unit', unit]
    · rw [a.door, demands, door, work.runCount]
      simp [State.demanded, door, held, w]
    · rw [a.unit, unit', others y hy]; simp [w]
  · refine order_unchanged h.1 ho rfl (by simp [itemMalformed, Target.malformed]) ?_
    rw [State.ordering, owner, if_pos (by simpa [w] using ⟨hs, hp⟩)]

/-! ### SERVICE and RESET_FAULTS -/

/-- R100: SERVICE(in) of a door that is out of service. -/
theorem serviceIn_out (h : (s.door i).inService = false) :
    State.serviceIn p i s = ((((s.modDoor i fun d => { d with inService := true }).setSource i (.port p)).clearFault i
      .notControlled).closureDemand i, .ok) := by
  simp [State.serviceIn, h]

/-- R100: what SERVICE(in) makes of a door before its demand is evaluated. -/
def Door.returned (d : Door) (p : PortId) : Door :=
  { d.cleared .notControlled with inService := true, lastSource := some (.port p) }

theorem eventFaulted_removed (m : FaultSet) : removeFault m .notControlled &&& eventFaults = m &&& eventFaults := by
  rw [removeFault, BitVec.and_assoc]
  rfl

theorem Door.returned_eventFaulted (d : Door) (p : PortId) : (d.returned p).eventFaulted = d.eventFaulted := by
  simp only [Door.eventFaulted, Door.returned, Door.cleared, eventFaulted_removed]

theorem door_serviceIn (h : (s.door i).inService = false) :
    (State.serviceIn p i s).1.door i = ((s.door i).returned p).demandTaken (s.doorHeld i) s.runCount ∧
      DoorOnly i s (State.serviceIn p i s).1 ∧ OnlyDoors s (State.serviceIn p i s).1 := by
  have only : DoorOnly i s
      (((s.modDoor i fun d => { d with inService := true }).setSource i (.port p)).clearFault i .notControlled) :=
    ((doorOnly_modDoor s i _).trans (doorOnly_setSource _ i _)).trans (doorOnly_clearFault _ i _)
  have work : OnlyDoors s
      (((s.modDoor i fun d => { d with inService := true }).setSource i (.port p)).clearFault i .notControlled) :=
    ((onlyDoors_modDoor s i _).trans (onlyDoors_setSource _ i _)).trans (onlyDoors_clearFault _ i _)
  have door : (((s.modDoor i fun d => { d with inService := true }).setSource i (.port p)).clearFault i .notControlled).door i =
      (s.door i).returned p := by
    simp [State.clearFault, State.setSource, Door.returned, Door.cleared]
  rw [serviceIn_out h]
  refine ⟨?_, only.trans (doorOnly_closureDemand _ i), work.trans (onlyDoors_closureDemand _ i)⟩
  rw [door_closureDemand_self, door, State.doorHeld, door, work.held, work.runCount]
  rfl

theorem order_service (hc : (s.port p).role = .command) (hi : (s.door i).installed = true) :
    (s.taking p (.order (.service 0) (.door (number i)))).ordering p (.door (number i)) (.service 0) =
      (((State.serviceOut p i (s.taking p (.order (.service 0) (.door (number i))))).1).answer
        (State.serviceOut p i (s.taking p (.order (.service 0) (.door (number i))))).2).withOutputs ∧
    (s.taking p (.order (.service 1) (.door (number i)))).ordering p (.door (number i)) (.service 1) =
      (((State.serviceIn p i (s.taking p (.order (.service 1) (.door (number i))))).1).answer
        (State.serviceIn p i (s.taking p (.order (.service 1) (.door (number i))))).2).withOutputs := by
  simp only [State.ordering, State.orderService, asCommand_taking hc, State.doorOnly]
  exact ⟨congrArg _ (doorOrder_installed (by simpa using hi) _), congrArg _ (doorOrder_installed (by simpa using hi) _)⟩

/-- R100: SERVICE(in) at a free COMMAND port, for a door that is out of service. -/
theorem service_in (h : s.MayOrder p) (hi : (s.door i).installed = true) (hs : (s.door i).inService = false) :
    ∃ t, exec (.service p (.door (number i)) 1) s = .next t ∧
      t.door i = ((s.door i).returned p).demandTaken (s.doorHeld i) s.runCount ∧
      OtherDoors i s t ∧ t = { s with ports := t.ports, doors := t.doors, outputs := t.outputs } ∧ t.OutputsHold ∧
      Answered p (orderEntry .ok 0) s t := by
  obtain ⟨door, only, work⟩ := door_serviceIn (s := s.taking p (.order (.service 1) (.door (number i)))) (p := p)
    (i := i) (by simpa using hs)
  obtain ⟨t, ht, a⟩ := order_doors (c := .service p (.door (number i)) 1) (r := .ok) (n := 0) h.1 rfl
    (malformed_order_door _ i) (by rw [(order_service h.2 hi).2]; rfl) work
  exact ⟨t, ht, by rw [a.door, door]; simp, fun j hj => by rw [a.door, only.others j hj, State.door_taking],
    a.onlyDoors (only.units.trans (State.taking_units ..)), a.outputs, a.answered⟩

/-- R76: RESET_FAULTS of a door at a free COMMAND port. -/
theorem makes_resetDoor (s : State) (i : DoorId) : s.Makes i (fun t => (State.resetDoor i t).1)
    ((s.door i).withoutEventFaults.demandTaken (s.doorHeld i) s.runCount) :=
  makes_closureDemand_modDoor s i fun _ => rfl

/-- Settles O30: SERVICE out and in, and RESET_FAULTS of a door and of a zone. -/
theorem serviceAndResetFaultsActOnADoor : Obligations.ServiceAndResetFaultsActOnADoor := by
  refine ⟨fun s p i h hi => ⟨fun hh hr hs => ?_, fun hh hs => ?_, fun ho hh => ?_, fun ho hh hr => ?_⟩,
    fun s p i h hi hs hh => ?_, fun s p i z h => ⟨fun hi => ?_, ?_⟩⟩
  · have out : State.serviceOut p i (s.taking p (.order (.service 0) (.door (number i)))) =
        (((s.taking p (.order (.service 0) (.door (number i)))).modDoor i fun d => { d with inService := false }).setSource i
          (.port p), .ok) := by
      simp [State.serviceOut, hh, hr, hs, State.byPort]
    obtain ⟨t, ht, a⟩ := order_doors (c := .service p (.door (number i)) 0) (r := .ok) (n := 0) h.1 rfl
      (malformed_order_door _ i) (by rw [(order_service h.2 hi).1, out]; rfl)
      ((onlyDoors_modDoor _ i _).trans (onlyDoors_setSource _ i _))
    have only : DoorOnly i (s.taking p (.order (.service 0) (.door (number i))))
        (((s.taking p (.order (.service 0) (.door (number i)))).modDoor i fun d => { d with inService := false }).setSource
          i (.port p)) := (doorOnly_modDoor _ i _).trans (doorOnly_setSource _ i _)
    exact ⟨t, ht, by rw [a.door]; simp [State.setSource], fun j hj => by rw [a.door, only.others j hj, State.door_taking],
      a.onlyDoors (only.units.trans (State.taking_units ..)), a.outputs, a.answered⟩
  · obtain ⟨t, ht, door, rest⟩ := service_in h hi hs
    rw [hh, Door.demandTaken_free] at door
    exact ⟨t, ht, door, rest⟩
  · refine order_unchanged h.1 ho rfl (malformed_order_door _ i) ?_
    rw [(order_service h.2 hi).1]
    simp [State.serviceOut, hh]
  · refine order_unchanged h.1 ho rfl (malformed_order_door _ i) ?_
    rw [(order_service h.2 hi).1]
    simp [State.serviceOut, hh, hr]
  · obtain ⟨t, ht, door, rest⟩ := service_in h hi hs
    refine ⟨t, ht, door.trans ?_, rest⟩
    rw [Door.demandTaken, Door.returned_eventFaulted]
    refine if_congr ?_ rfl rfl
    simp only [Door.returned, Door.cleared, hi, hh, Bool.and_eq_true, Bool.or_eq_true, decide_eq_true_eq,
      Bool.not_eq_true', Bool.true_and]
    tauto
  · let w := s.taking p (.order .resetFaults (.door (number i)))
    have makes := makes_resetDoor w i
    have here := State.Untaken.self w i
    obtain ⟨t, ht, a⟩ := order_doors (c := .resetFaults p (.door (number i))) (r := .ok) (n := 0) h.1 rfl
      (malformed_order_door _ i)
      (by rw [State.ordering, State.orderResetFaults, asCommand_taking h.2, doorOrZone_door,
            doorOrder_installed (by simpa using hi)]; rfl) (makes.work w here)
    refine ⟨t, ht, ?_, fun j hj => by rw [a.door, (makes.only w here).others j hj, State.door_taking],
      a.onlyDoors ((makes.only w here).units.trans (State.taking_units ..)), a.outputs, a.answered⟩
    rw [a.door, makes.door w here]
    simpa [w] using demandTaken_withoutEventFaults hi (s.doorHeld i) s.runCount
  · obtain ⟨t, ht, doors, rest⟩ := order_zone_ok (c := .resetFaults p (.zone (number z))) (f := State.resetDoor) h.1 rfl
      (by simp [itemMalformed, Target.malformed])
      (by rw [State.ordering, State.orderResetFaults, asCommand_taking h.2, doorOrZone_zone])
      (fun i _ => makes_resetDoor _ i) (fun _ _ _ _ => rfl)
    refine ⟨t, ht, fun j => (doors j).trans (ite_congr rfl (fun hj => ?_) fun _ => rfl), rest⟩
    rw [State.door_taking, State.doorHeld_taking, State.taking_runCount, demandTaken_withoutEventFaults hj.1, State.doorHeld,
      hj.2]

end Sys2Proof.Machine
end


section
/-! SUPPORT. Signal tests, tails, beacons and acknowledgements. -/

namespace Sys2Proof.Machine

variable {s t u : State} {p q : PortId} {i : DoorId}

/-! ### Timers of a door that no report carries -/

/-- A write of a door that no report shows, as a write of the doors. -/
theorem modDoor_plain {f : Door → Door} (hr : (s.door i).sameReport (f (s.door i)) = true)
    (hp : (f (s.door i)).position = (s.door i).position) :
    s.modDoor i f = { s with doors := s.doors.set i (f (s.door i)) } := by
  simp [State.modDoor, State.noteDoor, hr, hp]

theorem Door.sameReport_refl (d : Door) : d.sameReport d = true := by simp [Door.sameReport]

theorem testExpired_eq (s : State) (i : DoorId) : s.testExpired i =
    if (s.door i).test.any (fun e => e ≤ s.runCount) then { s with doors := s.doors.set i { s.door i with test := none } }
    else s := by
  rw [State.testExpired, modDoor_plain (f := fun d => { d with test := none }) (s.door i).sameReport_refl rfl]

theorem tailExpired_eq (s : State) (i : DoorId) : s.tailExpired i =
    if (s.door i).tail.any (fun e => e ≤ s.runCount) then { s with doors := s.doors.set i { s.door i with tail := none } }
    else s := by
  rw [State.tailExpired, modDoor_plain (f := fun d => { d with tail := none }) (s.door i).sameReport_refl rfl]

/-! ### Beacons -/

/-- Section 5.5: the beacon of a door whose station is cut from it. -/
theorem Door.beacon_cut {d : Door} (h : d.cutFromStation = true) (sounder held : Bool) :
    d.beacon sounder held = if sounder then .flash else .off := by
  simp [Door.beacon, h]

/-- Section 5.5, in the order of its rows: the beacon of a door whose station is not cut from it. -/
theorem Door.beacon_linked {d : Door} (h : d.cutFromStation = false) (sounder held : Bool) :
    d.beacon sounder held =
      if sounder = true ∨ d.state = .opening ∧ held = true then .flash
      else if d.tail ≠ none ∨ hasFault d.faults .cutOff = true ∧ held = true then .steady else .off := by
  cases sounder with
  | true => simp [Door.beacon]
  | false =>
    by_cases flash : d.state = .opening ∧ held = true
    · simp [Door.beacon, h, flash]
    · have off : (decide (d.state = .opening) && held) = false := by simpa using flash
      cases tail : d.tail <;> simp [Door.beacon, h, off, flash, tail]

/-! ### Acknowledgements -/

theorem makes_ackDoor (s : State) (i : DoorId) :
    s.Makes i (fun t => (State.ackDoor i t).1) { s.door i with unacked := 0 } where
  only t _ := doorOnly_modDoor t i fun d => { d with unacked := 0 }
  work t _ := onlyDoors_modDoor t i fun d => { d with unacked := 0 }
  door t ht := by simp [State.ackDoor, ht.door]

/-- R172: ACK of a door and of a zone at a free COMMAND port. -/
theorem orderAck_doorOrZone (h : (s.port p).role = .command) (g : Target) (hg : g ≠ .all) :
    (s.taking p (.order .ack g)).ordering p g .ack = ((s.taking p (.order .ack g)).doorOrZone g State.ackDoor).withOutputs := by
  cases g <;> simp_all [State.ordering, State.orderAck]

/-- R172: ACK_PORT at a free COMMAND port. -/
theorem ordering_ackPort (h : (s.port p).role = .command) (q : PortId) :
    (s.taking p (.order .ackPort (.port q.val))).ordering p (.port q.val) .ackPort =
      (((s.taking p (.order .ackPort (.port q.val))).modPort q fun x => { x with attention := false }).answer .ok).withOutputs := by
  simp only [State.ordering, State.orderAckPort, asCommand_taking h, indexed_val]

theorem itemCommand_ackPort (h : s.MayOrder p) (q : PortId) :
    s.itemCommand p (.order .ackPort (.port q.val)) =
      ((s.taking p (.order .ackPort (.port q.val))).modPort q fun x => { x with attention := false }).evalOutputs.endItem p
        (orderEntry .ok 0) := by
  rw [itemCommand_order h.1 (by exact fun e => nomatch e) rfl, ordering_ackPort h.2]
  rfl

theorem attention_endItem (s : State) (p : PortId) (e : List Byte) (r : PortId) :
    ((s.endItem p e).port r).attention = (s.port r).attention := by
  rw [State.endItem, State.port_modPort]
  split
  · next h => subst h; exact ((s.port r).itemEnded_role e).2.1
  · rfl

theorem attention_ackPort (s : State) (p q r : PortId) (it : Item) (e : List Byte) :
    ((((s.taking p it).modPort q fun x => { x with attention := false }).evalOutputs.endItem p e).port r).attention =
      if r = q then false else (s.port r).attention := by
  have marks := sameButMarks_evalOutputs ((s.taking p it).modPort q fun x => { x with attention := false }) r
  rw [attention_endItem, marks, State.port_modPort]
  split
  · rfl
  · by_cases hr : r = p
    · subst hr; rw [port_taking_self]
    · rw [port_taking_other hr]

theorem port_setPort (s : State) (q : PortId) (x : Port) (v : PortId) :
    ({ s with ports := s.ports.set q x } : State).port v = if v = q then x else s.port v := by
  by_cases e : v = q
  · subst e; simp [State.port]
  · have : q.val ≠ v.val := fun k => e (Fin.ext k.symm)
    simp [State.port, e, this]

/-- R172: ACK_PORT of another port, seen as an answer of the state whose attention of that port is cleared. -/
theorem answered_ackPort (h : s.MayOrder p) (hq : q ≠ p) (it : Item) (e : List Byte) :
    Answered p e { s with ports := s.ports.set q { s.port q with attention := false } }
      (((s.taking p it).modPort q fun x => { x with attention := false }).evalOutputs.endItem p e) := by
  have free : ({ s with ports := s.ports.set q { s.port q with attention := false } } : State).Free p := by
    refine ⟨h.1.1, ?_⟩
    rw [port_setPort, if_neg hq.symm]
    exact h.1.2
  refine answered_endItem_of_ports (it := it) e free fun v => Port.SameButMarks.trans ?_ (sameButMarks_evalOutputs _ v)
  by_cases hv : v = p
  · subst hv
    rw [port_taking_self, port_setPort, State.port_modPort, if_neg hq.symm, if_neg hq.symm, port_taking_self]
    simp [Port.SameButMarks]
  · rw [port_taking_other hv, port_setPort, State.port_modPort]
    split
    · next e => subst e; rw [port_taking_other hv]; simp [Port.SameButMarks]
    · rw [port_taking_other hv]; simp [Port.SameButMarks]

/-- Settles O31: the signal test, the beacon's rows, and each acknowledgement. -/
theorem testsAndAcknowledgementsWriteOneField : Obligations.TestsAndAcknowledgementsWriteOneField := by
  refine ⟨fun s p i => ⟨fun h hi => ⟨fun hr => ?_, fun hr => ?_⟩, fun e hp he => ⟨fun hl => ?_, fun hl => ?_⟩,
    fun e hp he => ⟨fun hl => ?_, fun hl => ?_⟩, fun hc => ?_, fun hl hb => ?_⟩,
    fun s p q i z v h => ⟨fun hi => ?_, ?_, ?_, ?_, ?_⟩⟩
  · let w := s.taking p (.order .signalTest (.door (number i)))
    have only := doorOnly_modDoor w i fun d => { d with test := some (w.runCount + Config.signalTestMs) }
    have work := onlyDoors_modDoor w i fun d => { d with test := some (w.runCount + Config.signalTestMs) }
    obtain ⟨t, ht, hr', a, -⟩ := order_done (c := .signalTest p (.door (number i))) h.1 rfl (malformed_order_door _ i)
      (a := (w.modDoor i fun d => { d with test := some (w.runCount + Config.signalTestMs) }).answer .ok)
      (by rw [State.ordering, State.orderSignalTest, asCommand_taking h.2, State.doorOnly,
            doorOrder_installed (by simpa using hi)]
          simp [State.testDoor, hr, w]) work.ports
    have door : ∀ j, t.door j = (w.modDoor i fun d => { d with test := some (w.runCount + Config.signalTestMs) }).door j :=
      fun j => by rw [hr']; rfl
    refine ⟨t, ht, ?_, fun j hj => ?_, ?_, a⟩
    · rw [door]; simp [w, Config.signalTestMs]
    · rw [door, only.others j hj, State.door_taking]
    · have doors : t.doors = (w.modDoor i fun d => { d with test := some (w.runCount + Config.signalTestMs) }).doors := by rw [hr']; rfl
      rw [doors]
      rw [hr', State.answer, work.rest, only.units]
      dsimp only [w]
      rw [taking_rest]
  · refine order_refused h.1 rfl (malformed_order_door _ i) ?_
    rw [State.ordering, State.orderSignalTest, asCommand_taking h.2, State.doorOnly, doorOrder_installed (by simpa using hi)]
    simp [State.testDoor, hr]
  · exact ⟨_, (live_powered hp fun s => s.testExpired i).trans (by rw [testExpired_eq]; simp [he, hl]), rfl⟩
  · exact (live_powered hp fun s => s.testExpired i).trans (by rw [testExpired_eq]; simp [he, hl])
  · exact ⟨_, (live_powered hp fun s => s.tailExpired i).trans (by rw [tailExpired_eq]; simp [he, hl]), rfl⟩
  · exact (live_powered hp fun s => s.tailExpired i).trans (by rw [tailExpired_eq]; simp [he, hl])
  · exact Door.beacon_cut (by simpa [Door.cutFromStation] using hc) _ _
  · have linked : (s.door i).cutFromStation = false := by simp [Door.cutFromStation, hl, hb]
    have beacon : (s.signalCommand i).beacon = _ := Door.beacon_linked linked (s.signalCommand i).sounder (s.doorHeld i)
    rw [beacon]
    by_cases flash : (s.signalCommand i).sounder = true ∨ (s.door i).state = .opening ∧ s.doorHeld i = true
    · rw [if_pos flash]
      refine ⟨by simpa using flash, ?_, ?_⟩ <;> · simp; grind
    · rw [if_neg flash]
      by_cases steady : (s.door i).tail ≠ none ∨ hasFault (s.door i).faults .cutOff = true ∧ s.doorHeld i = true
      · rw [if_pos steady]
        refine ⟨by simpa using flash, ?_, ?_⟩ <;> · simp; grind
      · rw [if_neg steady]
        refine ⟨by simpa using flash, ?_, ?_⟩ <;> · simp; grind
  · let w := s.taking p (.order .ack (.door (number i)))
    have makes := makes_ackDoor w i
    have here := State.Untaken.self w i
    obtain ⟨t, ht, a⟩ := order_doors (c := .ack p (.door (number i))) (r := .ok) (n := 0) h.1 rfl
      (malformed_order_door _ i)
      (by rw [orderAck_doorOrZone h.2 _ (by simp), doorOrZone_door, doorOrder_installed (by simpa using hi)]; rfl)
      (makes.work w here)
    exact ⟨t, ht, by rw [a.door, makes.door w here, State.door_taking],
      fun j hj => by rw [a.door, (makes.only w here).others j hj, State.door_taking],
      a.onlyDoors ((makes.only w here).units.trans (State.taking_units ..)), a.outputs, a.answered⟩
  · obtain ⟨t, ht, doors, rest⟩ := order_zone_ok (c := .ack p (.zone (number z))) (f := State.ackDoor) h.1 rfl
      (by simp [itemMalformed, Target.malformed])
      (by rw [orderAck_doorOrZone h.2 _ (by simp), doorOrZone_zone])
      (fun i _ => makes_ackDoor _ i) (fun _ _ _ _ => rfl)
    exact ⟨t, ht, fun j => by rw [doors, State.door_taking], rest⟩
  · let w := s.taking p (.order .ack .all)
    obtain ⟨work, units, doors⟩ := forDoors_effect w (fun i _ => makes_ackDoor w i) (.refl w) rfl (fun _ _ => rfl)
      (doorsWhere_nodup w fun _ => true)
    obtain ⟨t, ht, a⟩ := order_doors (c := .ack p .all) (r := .ok) (n := 0) h.1 rfl rfl
      (by rw [State.ordering, State.orderAck, asCommand_taking h.2]; rfl) work
    refine ⟨t, ht, fun j => ?_, a.onlyDoors (units.trans (State.taking_units ..)), a.outputs, a.answered⟩
    rw [a.door]
    exact (doors j).trans (by simp [mem_doorsWhere, w])
  · refine ⟨_, exec_item_live rfl h.1.1, ?_, ?_, ?_, fun r hr => ?_, fun hq => ?_⟩ <;> rw [itemCommand_ackPort h]
    · rw [endItem_rest, evalOutputs_rest, modPort_rest, taking_rest]
    · exact outputsHold_endItem (outputsHold_evalOutputs _) p _
    · rw [attention_ackPort, if_pos rfl]
    · rw [attention_ackPort, if_neg hr]
    · exact answered_ackPort h hq _ _
  · let w := s.taking p (.order .ackUnit (.unit (number v)))
    obtain ⟨t, ht, a⟩ := order_doors (c := .ackUnit p (.unit (number v))) (r := .ok) (n := 0) h.1 rfl
      (by simp [itemMalformed, Target.malformed])
      (by rw [State.ordering, State.orderAckUnit, asCommand_taking h.2]; simp only [numbered_number]; rfl)
      (onlyDoors_modUnit w v fun x => { x with attention := false })
    refine ⟨t, ht, ?_, a.outputs, a.answered⟩
    have rest := a.rest
    rw [a.doors, a.units, State.modUnit] at rest
    simpa [w] using rest

end Sys2Proof.Machine
end


section
/-! SUPPORT. Operational settings staged, and the settings hold. -/

namespace Sys2Proof.Machine

variable {s t u : State} {p q : PortId} {i : DoorId}

/-! ### A value staged in one door -/

/-- R13, R15: a value staged in a door, and applied at once where the door is at rest and the hold off. -/
theorem door_stage (t : State) (k : OpSetting) (v : Nat) (i : DoorId) :
    (State.stage k v i t).door i = (t.door i).staged k v t.settingsHold := by
  simp only [State.stage, State.appliesNow, Door.staged]
  simp only [State.door_modDoor, if_true, (onlyDoors_modDoor t i _).settingsHold]
  split <;> simp [State.applyPending]

theorem doorOnly_stage (t : State) (k : OpSetting) (v : Nat) (i : DoorId) : DoorOnly i t (State.stage k v i t) := by
  simp only [State.stage]
  split
  · exact (doorOnly_modDoor t i _).trans (doorOnly_applyPending _ i)
  · exact doorOnly_modDoor t i _

theorem makes_stage (s : State) (k : OpSetting) (v : Nat) (i : DoorId) :
    s.Makes i (State.stage k v i) ((s.door i).staged k v s.settingsHold) where
  only t _ := doorOnly_stage t k v i
  work t _ := onlyDoors_stage k v i t
  door t ht := by rw [door_stage, ht.door, ht.rest.settingsHold]

/-- R17: a value staged in each installed door that a condition selects. -/
theorem forDoors_stage (s : State) (k : OpSetting) (v : Nat) (c : Door → Bool) :
    OnlyDoors s (s.forDoors (s.doorsWhere c) (State.stage k v)) ∧
      (s.forDoors (s.doorsWhere c) (State.stage k v)).units = s.units ∧
      ∀ j, (s.forDoors (s.doorsWhere c) (State.stage k v)).door j =
        if (s.door j).installed && c (s.door j) then (s.door j).staged k v s.settingsHold else s.door j := by
  obtain ⟨work, units, doors⟩ := forDoors_effect s (fun i _ => makes_stage s k v i) (.refl s) rfl (fun _ _ => rfl)
    (doorsWhere_nodup s c)
  refine ⟨work, units, fun j => (doors j).trans ?_⟩
  simp only [mem_doorsWhere, Bool.and_eq_true]

/-- R12: the result of a value that was moved, or not. -/
theorem OpSetting.result_eq {k : OpSetting} {v : Nat} {r : Result} (h : OpSetting.clamped k v = v → r = .ok)
    (h' : OpSetting.clamped k v ≠ v → r = .clamped) : OpSetting.result k v = r := by
  rw [OpSetting.result]
  split
  · next e => exact (h e).symm
  · next e => exact (h' e).symm

/-- R12, R17: what SET of an operational setting does to the doors that its target selects, and its result. -/
theorem setOp_effect {w : State} (hc : w.commands p = true) {k : OpSetting} {v : Nat} {g : Target} {sel : DoorId → Bool}
    {r : Result} (hg : (∃ i, g = .door (number i) ∧ (w.door i).installed = true ∧ ∀ j, sel j = decide (j = i)) ∨
      (∃ z, g = .zone (number z) ∧ ∀ j, sel j = ((w.door j).installed && decide ((w.door j).zone = z))) ∨
      (g = .all ∧ ∀ j, sel j = (w.door j).installed))
    (hok : OpSetting.clamped k v = v ∨ (∃ z, g = .zone z) ∧ (∀ j, sel j = false) → r = .ok)
    (hclamp : OpSetting.clamped k v ≠ v → ((∀ z, g ≠ .zone z) ∨ ∃ j, sel j = true) → r = .clamped) :
    ∃ u, w.setOp p k v g = u.answer r ∧ OnlyDoors w u ∧ u.units = w.units ∧
      ∀ j, u.door j = if sel j then (w.door j).staged k (OpSetting.clamped k v) w.settingsHold else w.door j := by
  have command : ∀ a, w.asCommand p a = a := fun a => by simp [State.asCommand, hc]
  obtain ⟨i, rfl, hi, hs⟩ | ⟨z, rfl, hs⟩ | ⟨rfl, hs⟩ := hg
  · have result : OpSetting.result k v = r :=
      OpSetting.result_eq (fun e => hok (.inl e)) fun e => hclamp e (.inl fun _ => by simp)
    have only := doorOnly_stage w k (OpSetting.clamped k v) i
    refine ⟨_, ?_, onlyDoors_stage k (OpSetting.clamped k v) i w, only.units, fun j => ?_⟩
    · rw [State.setOp, command, ← result]
      exact doorOrder_installed hi _
    · by_cases hj : j = i
      · subst hj; simp [hs, door_stage]
      · simp [hs, hj, only.others j hj]
  · by_cases he : w.doorsOfZone z = []
    · have none : ∀ j, sel j = false := fun j => by
        have : j ∉ w.doorsOfZone z := by simp [he]
        rw [mem_doorsOfZone] at this
        rw [hs, Bool.and_eq_false_iff, decide_eq_false_iff_not, ← Bool.not_eq_true]
        tauto
      refine ⟨w, ?_, .refl w, rfl, fun j => by simp [none]⟩
      rw [State.setOp, command, hok (.inr ⟨⟨_, rfl⟩, none⟩)]
      simp [State.stageZone, he]
    · obtain ⟨j, hj⟩ := List.exists_mem_of_ne_nil _ he
      have result : OpSetting.result k v = r :=
        OpSetting.result_eq (fun e => hok (.inl e)) fun e => hclamp e (.inr ⟨j, by
          rw [hs, Bool.and_eq_true, decide_eq_true_eq]; exact (mem_doorsOfZone w z j).mp hj⟩)
      obtain ⟨work, units, doors⟩ := forDoors_stage w k (OpSetting.clamped k v) fun d => d.zone = z
      refine ⟨_, ?_, work, units, fun j => by rw [doors, hs]⟩
      rw [State.setOp, command, ← result]
      simp only [numbered_number, State.stageZone, List.isEmpty_iff, he, if_false]
      rfl
  · have result : OpSetting.result k v = r :=
      OpSetting.result_eq (fun e => hok (.inl e)) fun e => hclamp e (.inl fun _ => by simp)
    obtain ⟨work, units, doors⟩ := forDoors_stage w k (OpSetting.clamped k v) fun _ => true
    refine ⟨_, ?_, work, units, fun j => by rw [doors, hs, Bool.and_true]⟩
    rw [State.setOp, command, ← result]

/-! ### The settings hold -/

/-- R16: the pending record of a door, applied. -/
theorem makes_applyPending (s : State) (i : DoorId) : s.Makes i (fun t => t.applyPending i)
    { s.door i with settings := (s.door i).settings.applied (s.door i).pending, pending := OpRow.noPending } where
  only t _ := doorOnly_applyPending t i
  work t _ := onlyDoors_applyPending t i
  door t ht := by simp [State.applyPending, ht.door]

theorem releaseSettings_effect (s : State) :
    OnlyDoors { s with settingsHold := false } s.releaseSettings ∧ s.releaseSettings.units = s.units ∧
      ∀ j, s.releaseSettings.door j = if (s.door j).installed && (s.door j).state.isRest then
          { s.door j with settings := (s.door j).settings.applied (s.door j).pending, pending := OpRow.noPending }
        else s.door j := by
  obtain ⟨work, units, doors⟩ := forDoors_effect { s with settingsHold := false } (fun i _ => makes_applyPending _ i)
    (.refl _) rfl (fun _ _ => rfl) (doorsWhere_nodup { s with settingsHold := false } fun d => d.state.isRest)
  refine ⟨work, units, fun j => (doors j).trans ?_⟩
  simp only [mem_doorsWhere, Bool.and_eq_true]
  rfl

/-- Settles O35: a SET staged in the doors that its target selects, and SETTINGS_HOLD. -/
theorem operationalSetsAreStaged : Obligations.OperationalSetsAreStaged := by
  refine ⟨fun s p c k v target sel r h hi hsel hok hclamp => ?_, fun s p h => ⟨?_, fun hs => ?_, fun hs => ?_⟩⟩
  · let w := s.taking p (.set (.op k v) target)
    obtain ⟨u, set, work, units, doors⟩ := setOp_effect (w := w) (commands_taking h.2 _) (by simpa [w] using hsel) hok hclamp
    have formed : itemMalformed (.set (.op k v) target) = false := by
      obtain ⟨i, rfl, -⟩ | ⟨z, rfl, -⟩ | ⟨rfl, -⟩ := hsel
      · simp [itemMalformed]
      · simp [itemMalformed, Target.malformed]
      · rfl
    obtain ⟨t, ht, a⟩ := set_doors (c := c) (r := r) h.1 hi formed set work
    refine ⟨t, ht, fun j => ?_, ?_, a.onlyDoors (units.trans (State.taking_units ..)), a.outputs, a.answered⟩
    · rw [a.door, doors]; simp [w]
    · rw [OpSetting.clamped, clamp]
  · have set : (s.taking p (.order (.settingsHold 1) .none)).orderSettingsHold p 1 =
        ({ s.taking p (.order (.settingsHold 1) .none) with settingsHold := true } : State).answer .ok := by
      rw [State.orderSettingsHold, asCommand_taking h.2]
    obtain ⟨t, ht, hr, a, -⟩ := order_done (c := .settingsHold p 1) h.1 rfl rfl set fun q => .refl _
    refine ⟨t, ht, hr.trans ?_, a⟩
    rw [State.answer, taking_rest]
  · refine order_refused (c := .settingsHold p 0) h.1 rfl rfl ?_
    simp [State.ordering, State.orderSettingsHold, asCommand_taking h.2, hs]
  · let w := s.taking p (.order (.settingsHold 0) .none)
    obtain ⟨work, units, doors⟩ := releaseSettings_effect w
    obtain ⟨t, ht, hr, a, -⟩ := order_done (c := .settingsHold p 0) (a := w.releaseSettings.answer .ok) h.1 rfl rfl
      (by simp [State.ordering, State.orderSettingsHold, asCommand_taking h.2, hs, w])
      fun q => work.ports q
    have same : t.doors = w.releaseSettings.doors := by rw [hr]; rfl
    refine ⟨t, ht, ?_, fun j => ?_, a⟩
    · rw [same]
      rw [hr, State.answer, work.rest, units]
      dsimp only [w]
      rw [taking_rest]
    · rw [State.door, same]
      exact (doors j).trans (by simp [w])

end Sys2Proof.Machine
end


section
/-! SUPPORT. Door items that are refused. -/

namespace Sys2Proof.Machine

variable {s t u : State} {p q : PortId} {i : DoorId}

/-! ### Installation SETs -/

/-- R5: an installation SET of a door, behind role and lock. -/
theorem setInstallation_door {w : State} (hc : w.commands p = true) (hl : w.store.lockOpen = true) (i : DoorId)
    (legal same : DoorId → Bool) (anyState : Bool) (write : DoorId → State → State) :
    w.setInstallation p (.door (number i)) legal same anyState write =
      if !legal i then w.answer .range
      else if !anyState && (w.door i).installed && !(w.door i).state.isRest then w.answer .refusedState
      else if same i then w.answer .ok
      else (write i w).answer .ok := by
  simp [State.setInstallation, State.asCommand, hc, State.asUnlocked, hl]

theorem setInstallation_illegal {w : State} (hc : w.commands p = true) (hl : w.store.lockOpen = true)
    {legal same : DoorId → Bool} (h : legal i = false) (anyState : Bool) (write : DoorId → State → State) :
    w.setInstallation p (.door (number i)) legal same anyState write = w.answer .range := by
  rw [setInstallation_door hc hl, h]; rfl

theorem setInstallation_moving {w : State} (hc : w.commands p = true) (hl : w.store.lockOpen = true)
    {legal same : DoorId → Bool} (h : legal i = true) (hi : (w.door i).installed = true)
    (hs : (w.door i).state.isRest = false) (write : DoorId → State → State) :
    w.setInstallation p (.door (number i)) legal same false write = w.answer .refusedState := by
  rw [setInstallation_door hc hl, h, hi, hs]; rfl

/-- R5: an installation SET whose target is no door. -/
theorem setInstallation_range {w : State} (hc : w.commands p = true) (hl : w.store.lockOpen = true) {g : Target}
    (hg : (∃ z, g = .zone z) ∨ g = .all) (legal same : DoorId → Bool) (anyState : Bool) (write : DoorId → State → State) :
    w.setInstallation p g legal same anyState write = w.answer .range := by
  obtain ⟨z, rfl⟩ | rfl := hg <;> simp [State.setInstallation, State.asCommand, hc, State.asUnlocked, hl]

@[simp] theorem pairTaken_taking (s : State) (p : PortId) (it : Item) (i : DoorId) (b : BranchId) (d : DropId) :
    (s.taking p it).pairTaken i b d = s.pairTaken i b d := by
  simp [State.pairTaken]

theorem numbered_none {n v : Nat} (h : v = 0 ∨ n < v) : numbered n v = none := by
  obtain rfl | h := h
  · simp [numbered]
  · simp only [numbered]
    rw [dif_neg (by omega)]

/-- R6: two counts of 0..4095 at least 200 apart. -/
theorem geometryLegal_iff {c o : Nat} :
    geometryLegal c o = true ↔ c ≤ 4095 ∧ o ≤ 4095 ∧ (c + 200 ≤ o ∨ o + 200 ≤ c) := by
  simp only [geometryLegal, Bool.and_eq_true, Bool.or_eq_true, decide_eq_true_eq, and_assoc]
  rfl

/-- Settles O39, by the order of the checks. -/
theorem doorItemsAreRefused : Obligations.DoorItemsAreRefused := by
  intro s p i c w g ho
  refine ⟨fun h hi hd hs hw => ?_, fun h hi hw => ?_, fun h hi hg hw => ?_, fun h hd => ⟨fun k v hi => ?_, fun hc => ?_⟩⟩
  · have hc := commands_taking h.1.2 (.set w (.door (number i)))
    have hl : (s.taking p (.set w (.door (number i)))).store.lockOpen = true := by simpa using h.2
    refine set_unchanged h.1.1 ho hi (by simp [itemMalformed]) ?_
    obtain rfl | ⟨b, rfl, hb⟩ | ⟨d, rfl, hb⟩ | ⟨z, rfl⟩ | ⟨v, rfl⟩ | ⟨a, b, rfl, ha, hb, hab⟩ := hw
    · exact setInstallation_moving hc hl rfl (by simpa using hd) (by simpa using hs) _
    · simp only [State.setting, State.setBranch, numbered_number]
      exact setInstallation_moving hc hl (by simp [State.pairFree, hb]) (by simpa using hd) (by simpa using hs) _
    · simp only [State.setting, State.setDrop, numbered_number]
      exact setInstallation_moving hc hl (by simp [State.pairFree, hb]) (by simpa using hd) (by simpa using hs) _
    · simp only [State.setting, State.setZone, numbered_number]
      exact setInstallation_moving hc hl rfl (by simpa using hd) (by simpa using hs) _
    · simp only [State.setting, State.setUnit, numbered_number]
      exact setInstallation_moving hc hl rfl (by simpa using hd) (by simpa using hs) _
    · exact setInstallation_moving hc hl (geometryLegal_iff.mpr ⟨ha, hb, hab⟩)
        (by simpa using hd) (by simpa using hs) _
  · have hc := commands_taking h.1.2 (.set w (.door (number i)))
    have hl : (s.taking p (.set w (.door (number i)))).store.lockOpen = true := by simpa using h.2
    refine set_unchanged h.1.1 ho hi (by simp [itemMalformed]) ?_
    obtain ⟨v, rfl, hv⟩ | ⟨v, rfl, hv⟩ | ⟨v, rfl, hv⟩ | ⟨v, rfl, hv⟩ | ⟨v, rfl, hv⟩ | ⟨a, b, rfl, hab⟩ | ⟨x, rfl, hx⟩ |
      ⟨rfl, ht⟩ | ⟨hd, ⟨b, rfl, ht⟩ | ⟨d, rfl, ht⟩⟩ := hw
    · exact setInstallation_illegal hc hl (by simp; omega) _ _
    · simp only [State.setting, State.setBranch, numbered_none hv]
      exact setInstallation_illegal hc hl rfl _ _
    · simp only [State.setting, State.setDrop, numbered_none hv]
      exact setInstallation_illegal hc hl rfl _ _
    · simp only [State.setting, State.setZone, numbered_none hv]
      exact setInstallation_illegal hc hl rfl _ _
    · simp only [State.setting, State.setUnit, numbered_none hv]
      exact setInstallation_illegal hc hl rfl _ _
    · refine setInstallation_illegal hc hl ?_ _ _
      rw [Bool.eq_false_iff, ne_eq, geometryLegal_iff]
      omega
    · simp only [State.setting, State.setLabel]
      refine setInstallation_illegal hc hl ?_ _ _
      simp only [Bool.and_eq_false_iff, decide_eq_false_iff_not, List.all_eq_false, not_le]
      refine hx.imp id fun ⟨b, hb, hr⟩ => ⟨b, hb, ?_⟩
      simp only [printable, Bool.and_eq_true, decide_eq_true_eq]
      omega
    · exact setInstallation_illegal hc hl (by simp [ht]) _ _
    · simp only [State.setting, State.setBranch, numbered_number]
      exact setInstallation_illegal hc hl (by simp [State.pairFree, hd, ht]) _ _
    · simp only [State.setting, State.setDrop, numbered_number]
      exact setInstallation_illegal hc hl (by simp [State.pairFree, hd, ht]) _ _
  · have hc := commands_taking h.1.2 (.set w g)
    have hl : (s.taking p (.set w g)).store.lockOpen = true := by simpa using h.2
    have formed : itemMalformed (.set w g) = false := by
      obtain ⟨z, rfl⟩ | rfl := hg <;> rfl
    refine set_unchanged h.1.1 ho hi formed ?_
    obtain ⟨v, rfl | rfl | rfl | rfl | rfl⟩ | ⟨a, b, rfl⟩ | ⟨x, rfl⟩ := hw
    · exact setInstallation_range hc hl hg _ _ _ _
    · simp only [State.setting, State.setBranch]
      split <;> exact setInstallation_range hc hl hg _ _ _ _
    · simp only [State.setting, State.setDrop]
      split <;> exact setInstallation_range hc hl hg _ _ _ _
    · simp only [State.setting, State.setZone]
      split <;> exact setInstallation_range hc hl hg _ _ _ _
    · simp only [State.setting, State.setUnit]
      split <;> exact setInstallation_range hc hl hg _ _ _ _
    · exact setInstallation_range hc hl hg _ _ _ _
    · simp only [State.setting, State.setLabel]
      exact setInstallation_range hc hl hg _ _ _ _
  · refine set_unchanged h.1 ho hi (by simp [itemMalformed]) ?_
    rw [State.setting, State.setOp, asCommand_taking h.2]
    exact doorOrder_uninstalled (by simpa using hd) _
  · have noDoor : ∀ (it : Item) f, (s.taking p it).doorOrder (number i) f = (s.taking p it).answer .noDoor := fun it f =>
      doorOrder_uninstalled (by simpa using hd) f
    simp only [List.mem_cons, List.not_mem_nil, or_false] at hc
    obtain rfl | rfl | rfl | rfl | rfl | rfl | rfl | rfl := hc
    · exact order_unchanged h.1 ho rfl (malformed_order_door _ i) (by
        rw [State.ordering, State.orderClose, asCommand_taking h.2, doorOrZone_door, noDoor])
    · exact order_unchanged h.1 ho rfl (malformed_order_door _ i) (by
        rw [State.ordering, State.orderOpen, asCommand_taking h.2, doorOrZone_door, noDoor])
    · exact order_unchanged h.1 ho rfl (malformed_order_door _ i) (by
        rw [State.ordering, State.orderStop, asCommand_taking h.2, doorOrZone_door, noDoor])
    · exact order_unchanged h.1 ho rfl (malformed_order_door _ i) (by
        simp only [State.ordering, State.orderService, asCommand_taking h.2, State.doorOnly, noDoor])
    · exact order_unchanged h.1 ho rfl (malformed_order_door _ i) (by
        simp only [State.ordering, State.orderService, asCommand_taking h.2, State.doorOnly, noDoor])
    · exact order_unchanged h.1 ho rfl (malformed_order_door _ i) (by
        rw [State.ordering, State.orderResetFaults, asCommand_taking h.2, doorOrZone_door, noDoor])
    · exact order_refused h.1 rfl (malformed_order_door _ i) (by
        simp only [State.ordering, State.orderSignalTest, asCommand_taking h.2, State.doorOnly, noDoor])
    · exact order_unchanged h.1 ho rfl (malformed_order_door _ i) (by
        rw [orderAck_doorOrZone h.2 _ (by simp), doorOrZone_door, noDoor])

end Sys2Proof.Machine
end


section
/-! SUPPORT. The cabinet lines CLOSE_ALL_IN and SYNC_IN, and the clock trim. -/

namespace Sys2Proof.Machine

variable {s t u : State} {p q : PortId} {i : DoorId}

/-! ### A demanded door of a zone that becomes held -/

/-- R89: a door in service whose zone becomes held, where what that does to it is known to leave it in service. -/
theorem door_held_inService {t : State} {d : Door} (h : (t.doorBecomesHeld i).door i = d) (hs : d.inService = true) :
    ((t.doorBecomesHeld i).updateNotControlled i).door i = d.cleared .notControlled :=
  door_updateNotControlled_inService h hs

/-- R87, R89: an OPEN or HALTED door that is demanded closed as its zone becomes held. -/
theorem door_setHolds_demanded {h : Holds} (hu : s.Unlisted i) (hi : (s.door i).installed = true)
    (hold : zoneIn s.holds.union (s.door i).zone = false) (hnew : zoneIn h.union (s.door i).zone = true)
    (hs : (s.door i).state = .opened ∨ (s.door i).state = .halted) (hv : (s.door i).inService = true)
    (hf : (s.door i).eventFaulted = false) (hl : (s.door i).localOpen = false) :
    (s.setHolds h).door i =
      { ((s.door i).warned .closure s.runCount).cleared .notControlled with lastSource := some .closure } := by
  obtain ⟨t, only, -, door, held, same, -⟩ := door_setHolds_held hu hi hold hnew
  have demand : t.doorBecomesHeld i = t.closureDemand i := by
    obtain hs | hs := hs <;> simp [State.doorBecomesHeld, door, hs]
  have warned : (t.closureDemand i).door i = { (s.door i).warned .closure s.runCount with lastSource := some .closure } := by
    have state : ((s.door i).state = .opened || (s.door i).state = .halted) = true := by simpa using hs
    rw [door_closureDemand_self, door, held, only.runCount, Door.demandTaken, if_pos]
    simp only [hi, hv, state, hf, hl]
    rfl
  rw [same, demand, door_updateNotControlled_inService warned hv]
  rfl

/-! ### CLOSE_ALL_IN -/

theorem touchSummary_eq (s : State) : s.touchSummary = { s with ports := s.touchSummary.ports } := rfl

/-- R79: CLOSE_ALL_IN to another level. -/
theorem closeAllChanged_other {a : Bool} (h : s.closeAll.value ≠ a) :
    s.closeAllChanged a = ({ s with closeAll := Input.settledAt a } : State).touchSummary.setHolds
      { s.holds with line := if a then allZones else 0 } := if_neg h

theorem zoneIn_all_line (h : Holds) (z : ZoneId) : zoneIn { h with line := allZones }.union z = true := by
  have : zoneIn allZones z = true := by revert z; decide
  simp only [Holds.union, zoneIn, BitVec.getLsbD_or, Bool.or_eq_true] at this ⊢
  tauto

/-- Settles O58: the change of CLOSE_ALL_IN by the holds map, the edge and the trim step by the clock. -/
theorem cabinetLinesAndTrim : Obligations.CabinetLinesAndTrim := by
  intro s a i e hp
  refine ⟨fun ha => ?_, fun ha ho => ?_, fun hd => ?_, fun hd hs => ?_, fun hs => ?_, fun hs hl => ?_, fun he => ⟨fun hle => ?_, fun hlt => ?_⟩⟩
  · let w := ({ s with closeAll := Input.settledAt a } : State).touchSummary
    let h : Holds := { s.holds with line := if a then allZones else 0 }
    have only : OnlyDoors { w with holds := h } (w.setHolds h) := onlyDoors_setHolds w h
    have marks : ∀ q, (s.port q).SameButMarks (w.port q) := fun q => by
      rw [State.port_touchSummary]; rfl
    refine ⟨((s.closeAllChanged a).evalOutputs), live_powered hp fun s => (s.closeAllChanged a).evalOutputs, ?_, ?_,
      outputsHold_evalOutputs _, fun q => ?_, fun hon hu hz hi hv hf hl hs => ?_⟩
    · rw [closeAllChanged_other ha, State.evalOutputs_holds, holds_setHolds]
      rfl
    · rw [closeAllChanged_other ha]
      have rest := only.outputs
      rw [State.evalOutputs_holds, holds_setHolds, State.evalOutputs_doors, State.evalOutputs_units]
      exact rest
    · rw [closeAllChanged_other ha]
      exact ((marks q).trans (only.ports q)).trans (sameButMarks_evalOutputs _ q)
    · subst hon
      rw [closeAllChanged_other ha, State.door_evalOutputs]
      have door : w.door i = s.door i := State.door_touchSummary ..
      have unlisted : w.Unlisted i := fun v => by rw [State.unit_touchSummary]; exact hu v
      rw [State.doorHeld, ← door] at hz
      rw [← door] at hi hv hf hl hs ⊢
      exact door_setHolds_demanded (s := w) unlisted hi hz (zoneIn_all_line _ _) hs hv hf hl
  · refine (live_powered hp fun s => (s.closeAllChanged a).evalOutputs).trans ?_
    rw [State.closeAllChanged, if_pos ha, evalOutputs_eq_self ho]
  · have due : s.sync.edgeDue = true := by simpa [SyncInput.edgeDue] using hd
    refine (live_powered hp State.syncEdge).trans ?_
    rw [State.syncEdge, if_pos due, State.modClock, Clock.edge]
    cases s.clock.armed <;> rfl
  · refine (live_powered hp State.syncEdge).trans ?_
    rw [State.syncEdge, if_neg (by simp [SyncInput.edgeDue, hd, hs])]
  · have quiet : (s.sync.line && !s.sync.sampled) = false := by obtain hs | hs := hs <;> simp [hs]
    rw [SyncInput.sample, quiet]
  · simp [SyncInput.sample, hs, hl]
  · refine (live_powered hp State.trimExpired).trans ?_
    simp only [State.trimExpired, he, hle, if_true]
    rfl
  · refine (live_powered hp State.trimExpired).trans ?_
    simp only [State.trimExpired, he]
    rw [if_neg (by omega)]

end Sys2Proof.Machine
end


section
/-! SUPPORT. Reports and refresh cycles. -/

namespace Sys2Proof.Machine

variable {s t u : State} {p q : PortId} {i : DoorId}

theorem port_set_self (s : State) (p : PortId) (x : Port) : ({ s with ports := s.ports.set p x } : State).port p = x := by
  simp [State.port]

/-- R170: a report that may begin, begins. -/
theorem reportSend_ready (hr : (s.port p).reportReady s.runCount = true) (hf : (s.port p).transmitterFree = true) :
    s.reportSend p = { s with ports := s.ports.set p ((s.beginReport p).port p) } := by
  have begins : s.reportSend p = s.beginReport p := by rw [State.reportSend, hr, hf]; rfl
  have written : (s.beginReport p) = { s with ports := s.ports.set p ((s.beginReport p).port p) } := by
    have plain : s.beginReport p = { s with ports := _ } := modPort_plain rfl rfl
    conv_rhs => rw [plain, port_set_self]
    exact plain
  rw [begins]
  exact written

theorem reportSend_idle (h : (s.port p).reportReady s.runCount = false ∨ (s.port p).transmitterFree = false) :
    s.reportSend p = s := by
  rw [State.reportSend, if_neg]
  obtain h | h := h <;> simp [h]

theorem port_beginReport (s : State) (p : PortId) : (s.beginReport p).port p =
    { s.port p with
      sending := some (.report (s.reportNow p)), reportSequence := ((s.port p).reportSequence + 1) % 256
      changed := (s.port p).changedAfter, refreshCycle := (s.port p).cycleAfter
      lastReported := (s.port p).reportDoors.foldl (fun v (i : DoorId) => v.set i (s.door i).position) (s.port p).lastReported
      summaryChanged := false, dueSpacing := none, lastReport := some s.runCount } := by
  have plain : s.beginReport p = { s with ports := _ } := modPort_plain rfl rfl
  rw [plain, port_set_self]

theorem reportReady_of {q : Port} {now : Nat} (he : q.reportsEnabled = true)
    (hc : q.changed ≠ [] ∨ q.summaryChanged = true ∨ q.refreshCycle ≠ none)
    (hs : ∀ e, q.lastReport = some e → e + q.dueSpacing.getD q.reportSpacing ≤ now) : q.reportReady now = true := by
  have due : q.reportDue = true := by
    simp only [Port.reportDue, he, Bool.true_and, Bool.or_eq_true, Bool.not_eq_true', List.isEmpty_eq_false_iff,
      Option.isSome_iff_ne_none, or_assoc]
    exact hc
  rw [Port.reportReady, due, Bool.true_and]
  cases hl : q.lastReport with
  | none => rfl
  | some e => exact decide_eq_true (hs e hl)

theorem transmitterFree_of {q : Port} (hs : q.sending = none) (hq : q.queue = []) : q.transmitterFree = true := by
  simp [Port.transmitterFree, hs, hq]

/-- R171: REFRESH_DUE by the time that has passed since the last cycle. -/
theorem refreshIsDue_eq {e : Nat} (hr : (s.port p).reportsEnabled = true) (hc : (s.port p).refreshCycle = none)
    (hs : (s.port p).refreshStart = some e) :
    s.refreshIsDue p = decide (e + s.effectivePeriod (s.port p) ≤ s.runCount) := by
  simp [State.refreshIsDue, hr, hc, hs]

/-- Settles O46. -/
theorem reportsCarryTheChangedDoors : Obligations.ReportsCarryTheChangedDoors := by
  intro s p hp
  refine ⟨fun he hc hs hf hq => ?_, fun h => ?_, fun r hr => ?_, fun e hr hc hs => ⟨fun hd => ?_, fun hd => ?_⟩⟩
  · refine ⟨_, (live_powered hp fun s => s.reportSend p).trans (by
      rw [reportSend_ready (reportReady_of he hc hs) (transmitterFree_of hf hq)]), ?_, ?_, ?_, ?_, ?_⟩ <;>
      rw [port_set_self, port_beginReport]
    · rfl
    · exact fun i => getElem_foldl_set (fun j => (s.door j).position) i _ _
    · intro none
      simp [Port.reportDoors, Port.cycleAfter, none, Config.reportEntries]
    · intro l some
      simp [Port.reportDoors, Port.cycleAfter, some, Config.reportEntries]
  · exact (live_powered hp fun s => s.reportSend p).trans (by rw [reportSend_idle h])
  · refine (live_powered hp fun s => s.reportSent p).trans ?_
    rw [State.reportSent, modPort_plain] <;> simp only [hr]
  · refine (live_powered hp fun s => s.refreshDue p).trans ?_
    rw [State.refreshDue, refreshIsDue_eq hr hc hs, if_pos (show decide (e + s.effectivePeriod (s.port p) ≤ s.runCount) = true from decide_eq_true hd),
      modPort_plain rfl rfl]
  · refine (live_powered hp fun s => s.refreshDue p).trans ?_
    have early : ¬ e + s.effectivePeriod (s.port p) ≤ s.runCount := by
      rw [State.effectivePeriod]; omega
    rw [State.refreshDue, refreshIsDue_eq hr hc hs, if_neg (by simpa using early)]

end Sys2Proof.Machine
end


section
/-! SUPPORT. What the change of the holds map makes of each door, by its state. -/

namespace Sys2Proof.Machine

variable {s t u : State} {p q : PortId} {i : DoorId}

/-! ### A door that becomes held, by its state -/

theorem Cause.fromConsole_eq (c new : Cause) :
    c.fromConsole new = if c ∈ [.console 0, .console 1, .console 2] then new else c := by
  cases c with
  | console q => fin_cases q <;> rfl
  | _ => rfl

theorem becomesHeld_standing (h : (s.door i).state ∈ [.opened, .halted]) : s.doorBecomesHeld i = s.closureDemand i := by
  simp only [List.mem_cons, List.not_mem_nil, or_false] at h
  obtain h | h := h <;> simp [State.doorBecomesHeld, h]

theorem becomesHeld_unmoved (h : (s.door i).state ∈ [.unknown, .closed, .reversing .close, .closing, .recloseWait]) :
    s.doorBecomesHeld i = s := by
  simp only [List.mem_cons, List.not_mem_nil, or_false] at h
  obtain h | h | h | h | h := h <;> simp [State.doorBecomesHeld, h]

theorem becomesHeld_opening (h : (s.door i).state ∈ [.queued .opening, .reversing .opening, .opening]) :
    s.doorBecomesHeld i =
      if (s.door i).localOpen then s.makeHoldToRun i
      else if (s.door i).eventFaulted then s.stopToRest i
      else (s.passToWarning i .closure).setSource i .closure := by
  simp only [List.mem_cons, List.not_mem_nil, or_false] at h
  obtain h | h | h := h <;> simp [State.doorBecomesHeld, h]

/-- R87: an OPEN or HALTED door that an event fault or a held local open keeps as it is. -/
theorem Door.demandTaken_kept {d : Door} (h : d.inService = false ∨ d.eventFaulted = true ∨ d.localOpen = true)
    (held : Bool) (now : Nat) : d.demandTaken held now = d := by
  obtain h | h | h := h <;> simp [Door.demandTaken, h]

/-- R89: a door at rest that the closure demand leaves where it is. -/
theorem door_becomesHeld_kept (h : (s.door i).state ∈ [.unknown, .closed, .reversing .close, .closing] ∨
    (s.door i).state ∈ [.opened, .halted] ∧
      ((s.door i).inService = false ∨ (s.door i).eventFaulted = true ∨ (s.door i).localOpen = true)) :
    (s.doorBecomesHeld i).door i = s.door i := by
  obtain h | ⟨h, kept⟩ := h
  · rw [becomesHeld_unmoved (by simp only [List.mem_cons] at h ⊢; tauto)]
  · rw [becomesHeld_standing h, door_closureDemand_self, Door.demandTaken_kept kept]

theorem door_makeHoldToRun_self (s : State) (i : DoorId) :
    (s.makeHoldToRun i).door i = { s.door i with
      stroke := (s.door i).stroke.map fun r => { r with
        cause := if r.cause ∈ [.console 0, .console 1, .console 2] then .localControl else r.cause } } := by
  simp only [State.makeHoldToRun, State.door_modDoor_self, State.door_modUnit, Cause.fromConsole_eq]

/-- R89, R68: a door in no list in REVERSING-to-open or OPENING whose local open is not held. -/
theorem door_becomesHeld_stroke (hu : s.Unlisted i) (h : (s.door i).state ∈ [.reversing .opening, .opening])
    (hl : (s.door i).localOpen = false) :
    i ∉ ((s.doorBecomesHeld i).unit (s.door i).unit).holders ∧
      (s.doorBecomesHeld i).door i = if (s.door i).eventFaulted then
        (s.door i).haltedAt (s.door i).indication.restState s.settingsHold s.runCount
      else { ((s.door i).undriven s.runCount).warned .closure s.runCount with
        stroke := none, lastSource := some .closure } := by
  have stroke : (s.door i).state.hasStroke = true := by
    simp only [List.mem_cons, List.not_mem_nil, or_false] at h
    obtain h | h := h <;> simp [h, DoorState.hasStroke]
  rw [becomesHeld_opening (by simp only [List.mem_cons] at h ⊢; tauto), if_neg (by simp [hl])]
  cases hf : (s.door i).eventFaulted with
  | true =>
    obtain ⟨door, holders⟩ := door_stopToRest_stroke hu stroke
    have faulted : ((s.door i).haltedAt (s.door i).indication.restState s.settingsHold s.runCount).eventFaulted = true := by
      rw [← hf]
      simp only [Door.haltedAt, Door.undriven, Door.rested, Door.eventFaulted]
    rw [if_pos rfl, if_pos rfl]
    exact ⟨holders, door.trans (Door.demandTaken_faulted faulted _ _)⟩
  | false =>
    obtain ⟨door, holders⟩ := door_passToWarning_stroke hu stroke .closure
    rw [if_neg (by decide), if_neg (by decide)]
    refine ⟨?_, by rw [door_setSource_self, door]⟩
    rw [(doorOnly_setSource _ i _).unit]
    exact holders

/-! ### The change of the holds map at a door in no list -/

/-- R89, R91: a door in service whose zone becomes held, by what becoming held makes of it. -/
theorem door_setHolds_becomes {h : Holds} {d : Door} (hu : s.Unlisted i) (hi : (s.door i).installed = true)
    (hold : zoneIn s.holds.union (s.door i).zone = false) (hnew : zoneIn h.union (s.door i).zone = true)
    (hd : ∀ t, OnlyDoors { s with holds := h } t → t.Unlisted i → t.door i = s.door i → (t.doorBecomesHeld i).door i = d)
    (hs : d.inService = true) : (s.setHolds h).door i = d.cleared .notControlled := by
  obtain ⟨t, only, unlisted, door, -, same, -⟩ := door_setHolds_held hu hi hold hnew
  rw [same]
  exact door_updateNotControlled_inService (hd t only unlisted door) hs

/-- R91: a door out of service at rest whose zone becomes held. -/
theorem door_setHolds_outOfService {h : Holds} (hu : s.Unlisted i) (hi : (s.door i).installed = true)
    (hold : zoneIn s.holds.union (s.door i).zone = false) (hnew : zoneIn h.union (s.door i).zone = true)
    (hs : (s.door i).inService = false) (hr : (s.door i).state.isRest = true) :
    (s.setHolds h).door i =
      if hasFault (s.door i).faults .notControlled then s.door i else (s.door i).faulted .notControlled s.clock.time := by
  obtain ⟨t, only, unlisted, door, held, same, -⟩ := door_setHolds_held hu hi hold hnew
  have rest : (t.door i).state ∈ [.unknown, .closed, .reversing .close, .closing] ∨
      (t.door i).state ∈ [.opened, .halted] ∧
        ((t.door i).inService = false ∨ (t.door i).eventFaulted = true ∨ (t.door i).localOpen = true) := by
    rw [door]
    cases hst : (s.door i).state <;> simp_all [DoorState.isRest]
  have kept : (t.doorBecomesHeld i).door i = s.door i := (door_becomesHeld_kept rest).trans door
  have work := onlyDoors_doorBecomesHeld t i
  have held' : (t.doorBecomesHeld i).doorHeld i = true := by
    rw [State.doorHeld, kept, work.held, ← door]; exact held
  rw [same, door_updateNotControlled_self, kept, held', if_pos (by simp [hi, hs]), work.clock, only.clock]

/-- R90: a door in no list whose zone is no longer held. -/
theorem door_setHolds_free {h : Holds} (hu : s.Unlisted i) (hi : (s.door i).installed = true)
    (hold : zoneIn s.holds.union (s.door i).zone = true) (hnew : zoneIn h.union (s.door i).zone = false) :
    (s.setHolds h).door i =
      if (s.door i).state = .recloseWait then
        ((s.door i).rested (s.door i).indication.restState s.settingsHold).cleared .notControlled
      else (s.door i).cleared .notControlled := by
  obtain ⟨t, only, door, held, same⟩ := door_setHolds_released hu hi hold hnew
  have released : (t.doorReleased i).door i =
      if (s.door i).state = .recloseWait then (s.door i).rested (s.door i).indication.restState s.settingsHold else s.door i := by
    by_cases hw : (s.door i).state = .recloseWait
    · have waits : t.doorReleased i = t.enterIndicated i := by simp [State.doorReleased, door, hw]
      rw [waits, door_enterIndicated_self, held, Door.demandTaken_free, door, only.settingsHold, if_pos hw]
    · have stays : t.doorReleased i = t := by
        rw [State.doorReleased, door]
        split
        · next e => exact absurd e hw
        · rfl
      rw [stays, door, if_neg hw]
  have free : (t.doorReleased i).doorHeld i = false := by
    have zone : ((t.doorReleased i).door i).zone = (t.door i).zone := by
      rw [released, door]; split <;> rfl
    rw [State.doorHeld, zone, (onlyDoors_doorReleased t i).held]; exact held
  rw [same, door_updateNotControlled_self, free, if_neg (by simp), released]
  split <;> rfl

/-! ### The change of the holds map where one door becomes held -/

theorem takeUnionChange_same {old : ZoneSet} {j : DoorId}
    (h : zoneIn old (s.door j).zone = s.held (s.door j).zone) : State.takeUnionChange old j s = s := if_pos h

/-- R82: a pass in which at most door `i` is taken. -/
theorem forDoors_takeUnionChange {s : State} {old new : ZoneSet} {l : List DoorId} : ∀ t : State, l.Nodup →
    t.holds.union = new → ZonesKept s t →
    (∀ j ∈ l, j ≠ i → zoneIn old (s.door j).zone = zoneIn new (s.door j).zone) →
    t.forDoors l (State.takeUnionChange old) = if i ∈ l then State.takeUnionChange old i t else t := by
  induction l with
  | nil => exact fun t _ _ _ _ => by simp [State.forDoors]
  | cons j l ih =>
    intro t hl hh hz same
    obtain ⟨hj, hl⟩ := List.nodup_cons.mp hl
    have rest : ∀ k ∈ l, k ≠ i → zoneIn old (s.door k).zone = zoneIn new (s.door k).zone :=
      fun k hk => same k (List.mem_cons_of_mem _ hk)
    rw [forDoors_cons]
    by_cases hji : j = i
    · subst hji
      rw [ih _ hl (by rw [(onlyDoors_takeUnionChange old j t).holds]; exact hh)
        (hz.trans (zonesKept_takeUnionChange old j t)) rest, if_neg hj, if_pos List.mem_cons_self]
    · have kept : State.takeUnionChange old j t = t := takeUnionChange_same (by
        rw [hz j, same j List.mem_cons_self hji, State.held, hh])
      rw [kept, ih t hl hh hz rest]
      simp [Ne.symm hji]

/-- R82, R89: where `i` is the one door whose zone becomes held, it alone is taken. -/
theorem setHolds_one {h : Holds} (hi : (s.door i).installed = true)
    (hold : zoneIn s.holds.union (s.door i).zone = false) (hnew : zoneIn h.union (s.door i).zone = true)
    (hone : ∀ j, (s.door j).installed = true → zoneIn s.holds.union (s.door j).zone ≠ zoneIn h.union (s.door j).zone → j = i) :
    ∃ t, OnlyDoors { s with holds := h } t ∧ (∀ j, t.door j = s.door j) ∧ (∀ v, t.unit v = s.unit v) ∧
      t.doorHeld i = true ∧ s.setHolds h = (t.doorBecomesHeld i).updateNotControlled i := by
  let t := ({ s with holds := h } : State).touchIf (s.holds != h)
  have only : OnlyDoors { s with holds := h } t := onlyDoors_touched s h
  have door : ∀ j, t.door j = s.door j := fun j => State.door_touchIf ..
  have mem : ∀ j, j ∈ t.doorsWhere (fun _ => true) ↔ (s.door j).installed = true := fun j => by
    simp [mem_doorsWhere, door]
  have held : t.held (t.door i).zone = true := by rw [door, only.held]; exact hnew
  refine ⟨t, only, door, fun v => State.unit_touchIf .., held, ?_⟩
  have pass : s.setHolds h = t.forDoors (t.doorsWhere fun _ => true) (State.takeUnionChange s.holds.union) := rfl
  rw [pass, forDoors_takeUnionChange (s := s) (i := i) (new := h.union) t (doorsWhere_nodup t _) (by rw [only.holds])
    (fun j => by rw [door]) (fun j hj hji => ?_), if_pos ((mem i).mpr hi)]
  · rw [State.takeUnionChange, held, if_neg (by rw [door, hold]; decide), if_pos rfl]
  · by_contra differs
    exact hji (hone j ((mem j).mp hj) differs)

end Sys2Proof.Machine
end


section
/-! SUPPORT. The one listed door that becomes held, and the end of the reclose delay. -/

namespace Sys2Proof.Machine

variable {s t u : State} {p q : PortId} {i : DoorId}

/-! ### A listed door that becomes held -/

theorem otherUnits_unitJoined (s : State) (v : UnitId) (c : Nat) : OtherUnits v s (s.unitJoined v c) := by
  simp only [State.unitJoined]
  split
  · split
    · exact (unitOnly_startUnit s v).others
    · exact (unitOnly_modUnit s v _).others
  · split
    · exact (unitOnly_startUnit s v).others
    · exact .refl v s
  · exact .refl v s
  · exact otherUnits_admissionRun s v
  · exact (unitOnly_modUnit s v _).others.trans (otherUnits_admissionRun _ v)
  · exact .refl v s

theorem otherUnits_endWork (s : State) (i : DoorId) : OtherUnits (s.door i).unit s (s.endWork i) := by
  simp only [State.endWork]
  split
  · exact (unitOnly_leaveList s i).others
  · exact otherUnits_endStroke s i
  · exact otherUnits_endStroke s i
  · exact otherUnits_endStroke s i
  · exact .refl _ s

theorem otherUnits_moveToClass0 (s : State) (i : DoorId) : OtherUnits (s.door i).unit s (s.moveToClass0 i) := by
  simp only [State.moveToClass0]
  split
  · split
    · exact (unitOnly_modUnit s _ _).others.trans (otherUnits_unitJoined _ _ _)
    · exact .refl _ s
  · exact .refl _ s

/-- R89: a door that becomes held touches no unit but its own. -/
theorem otherUnits_doorBecomesHeld (s : State) (i : DoorId) : OtherUnits (s.door i).unit s (s.doorBecomesHeld i) := by
  have opening : OtherUnits (s.door i).unit s (if (s.door i).localOpen then s.makeHoldToRun i
      else if (s.door i).eventFaulted then s.stopToRest i else (s.passToWarning i .closure).setSource i .closure) := by
    split
    · exact (unitOnly_modUnit s _ _).others.trans ((doorOnly_modDoor _ i _).otherUnits _)
    · split
      · exact (otherUnits_endWork s i).trans ((doorOnly_enterIndicated _ i).otherUnits _)
      · exact ((otherUnits_endWork s i).trans ((doorOnly_enterWarning _ i _).otherUnits _)).trans
          ((doorOnly_setSource _ i _).otherUnits _)
  simp only [State.doorBecomesHeld]
  split
  · exact (doorOnly_closureDemand s i).otherUnits _
  · exact (doorOnly_closureDemand s i).otherUnits _
  · exact (doorOnly_modDoor s i _).otherUnits _
  · exact otherUnits_moveToClass0 s i
  · exact opening
  · exact opening
  · exact opening
  all_goals exact .refl _ s

/-- R89: the entry of a QUEUED(close) door that moves to class 0. -/
def Entry.toClass0 (n : Entry) (now : Nat) : Entry :=
  { n with
    cls := 0, arrival := now
    cause := if n.cause ∈ [.console 0, .console 1, .console 2] then .closure else n.cause }

theorem moveToClass0_kept {n : Entry} (hn : s.entryOf i = some n) (hc : n.cls ≠ 1) : s.moveToClass0 i = s := by
  simp [State.moveToClass0, hn, hc]

/-- R89, R121: an entry of class 1 that moves to the end of class 0 joins the unit as such. -/
theorem moveToClass0_joins {n : Entry} (hn : s.entryOf i = some n) (hc : n.cls = 1) :
    ((s.unit (s.door i).unit).waits s.cutoff.value = true →
      UnitOnly (s.door i).unit s (s.moveToClass0 i) ∧
        (s.moveToClass0 i).unit (s.door i).unit = (s.unit (s.door i).unit).joined (n.toClass0 s.runCount) s.runCount) ∧
    ((s.unit (s.door i).unit).admitsAlone i s.cutoff.value = true →
      OtherDoors i s (s.moveToClass0 i) ∧
        (s.moveToClass0 i).door i = (s.door i).admittedFor (n.toClass0 s.runCount) s.runCount ∧
        (s.moveToClass0 i).unit (s.door i).unit = (s.unit (s.door i).unit).admitted i) := by
  let v := (s.door i).unit
  let e := n.toClass0 s.runCount
  let l := s.modUnit v fun x => { x with list := insertEntry e (removeEntry i x.list) }
  have door : e.door = i := entryOf_door (e := n) hn
  have joins : s.moveToClass0 i = l.unitJoined v e.cls := by
    simp only [State.moveToClass0, hn, hc, if_true, Cause.fromConsole_eq]
    rfl
  have unit : l.unit v = { s.unit v with list := insertEntry e (removeEntry e.door (s.unit v).list) } := by
    rw [door]; exact State.unit_modUnit_self _ _ _
  have only := unitOnly_modUnit s v fun x => { x with list := insertEntry e (removeEntry i x.list) }
  have work : OnlyDoors s l := onlyDoors_modUnit s v _
  have cutoff := work.cutoff
  have now := work.runCount
  rw [joins]
  refine ⟨fun hw => ?_, fun ha => ?_⟩
  · obtain ⟨join, joined⟩ := unitJoined_waits unit (by rw [cutoff]; exact hw)
    rw [now] at joined
    exact ⟨only.trans join, joined⟩
  · obtain ⟨others, -, admitted, unit'⟩ := unitJoined_admits unit (by rw [cutoff, door]; exact ha)
    rw [door] at others admitted unit'
    rw [now, only.door] at admitted
    exact ⟨fun j hj => (others j hj).trans (only.door j), admitted, unit'⟩

/-- R89: a QUEUED(open) door whose local open is held. -/
theorem makeHoldToRun_queued (s : State) (i : DoorId) (hs : (s.door i).stroke = none) :
    OtherDoors i s (s.makeHoldToRun i) ∧ (s.makeHoldToRun i).door i = s.door i ∧
      (s.makeHoldToRun i).unit (s.door i).unit = { s.unit (s.door i).unit with
        list := (s.unit (s.door i).unit).list.map fun e => if e.door = i then { e with
          cause := if e.cause ∈ [.console 0, .console 1, .console 2] then .localControl else e.cause } else e } := by
  refine ⟨fun j hj => ?_, by rw [door_makeHoldToRun_self, hs, Option.map_none, ← hs], ?_⟩
  · rw [State.makeHoldToRun, (doorOnly_modDoor _ i _).others j hj, State.door_modUnit]
  · simp only [State.makeHoldToRun, State.unit_modDoor, State.unit_modUnit_self, Cause.fromConsole_eq]

/-- R89: a QUEUED(open) door whose local open is not held leaves its list. -/
theorem becomesHeld_leaves (hs : (s.door i).state = .queued .opening) (hl : (s.door i).localOpen = false) :
    OtherDoors i s (s.doorBecomesHeld i) ∧
      (s.doorBecomesHeld i).unit (s.door i).unit = (s.unit (s.door i).unit).left i s.runCount ∧
      (s.doorBecomesHeld i).door i = if (s.door i).eventFaulted then
        (s.door i).rested (s.door i).indication.restState s.settingsHold
      else { (s.door i).warned .closure s.runCount with lastSource := some .closure } := by
  have leaves : s.endWork i = s.leaveList i := by simp [State.endWork, hs]
  have list := unitOnly_leaveList s i
  have work := onlyDoors_leaveList s i
  rw [becomesHeld_opening (by simp [hs]), if_neg (by simp [hl])]
  cases hf : (s.door i).eventFaulted with
  | true =>
    have only := doorOnly_enterIndicated (s.leaveList i) i
    rw [if_pos rfl, if_pos rfl, State.stopToRest, leaves]
    refine ⟨fun j hj => (only.others j hj).trans (list.door j), (only.unit _).trans (unit_leaveList s i), ?_⟩
    rw [door_enterIndicated_self, list.door, work.settingsHold]
    exact Door.demandTaken_faulted (d := (s.door i).rested (s.door i).indication.restState s.settingsHold) hf _ _
  | false =>
    have only : DoorOnly i (s.leaveList i) (((s.leaveList i).enterWarning i .closure).setSource i .closure) :=
      (doorOnly_enterWarning _ i _).trans (doorOnly_setSource _ i _)
    rw [if_neg (by decide), if_neg (by decide), State.passToWarning, leaves]
    refine ⟨fun j hj => (only.others j hj).trans (list.door j), (only.unit _).trans (unit_leaveList s i), ?_⟩
    rw [door_setSource_self, State.door_enterWarning, if_pos rfl, list.door, work.runCount]

/-! ### The end of the reclose delay -/

theorem recloseExpired_eq (hs : (s.door i).state = .recloseWait) {e : Nat} (he : (s.door i).reclose = some e) :
    s.recloseExpired i = if e ≤ s.runCount then (s.enterWarning i .reclose).setSource i .reclose else s := by
  simp [State.recloseExpired, hs, he]

/-- R82: the holds map after a HOLD_ZONES. -/
theorem zoneIn_holdZones (s : State) (p : PortId) (m : ZoneSet) (i : DoorId) :
    zoneIn (s.holds.setConsole p (s.holds.console[p] ||| m)).union (s.door i).zone =
      (s.doorHeld i || zoneIn m (s.door i).zone) := zoneIn_union_hold s.holds p m _

/-- R84: HOLD_ZONES at a free COMMAND port. -/
theorem exec_holdZones_effect (h : s.MayOrder p) (m : ZoneSet) :
    ∃ t w, exec (.holdZones p (.zoneSet m)) s = .next t ∧ OnlyDoors w w ∧ w = s.taking p (.order .holdZones (.zoneSet m)) ∧
      (∀ j, t.door j = (w.setHolds (w.holds.setConsole p (w.holds.console[p] ||| m))).door j) ∧
      ∀ v, t.unit v = (w.setHolds (w.holds.setConsole p (w.holds.console[p] ||| m))).unit v := by
  obtain ⟨t, ht, a⟩ := order_holds (c := .holdZones p (.zoneSet m)) h.1 rfl rfl (ordering_holdZones (commands_taking h.2 _) m)
  exact ⟨t, _, ht, .refl _, rfl, a.door, a.unit⟩

theorem unlisted_taking (hu : s.Unlisted i) (it : Item) : (s.taking p it).Unlisted i := fun v => by
  rw [State.unit_taking]; exact hu v

/-- R89: HOLD_ZONES at a door in no list. -/
theorem holdZones_unlisted (m : ZoneSet) (hu : s.Unlisted i) (hi : (s.door i).installed = true)
    (hh : s.doorHeld i = false) (hz : zoneIn m (s.door i).zone = true) {h : Holds}
    (hd : h = s.holds.setConsole p (s.holds.console[p] ||| m)) :
    ((s.door i).inService = false → (s.door i).state.isRest = true → (s.setHolds h).door i =
      if hasFault (s.door i).faults .notControlled then s.door i
      else (s.door i).faulted .notControlled s.clock.time) ∧
    ((s.door i).inService = true →
      ((s.door i).state ∈ [.unknown, .closed, .reversing .close, .closing] ∨
          (s.door i).state ∈ [.opened, .halted] ∧ ((s.door i).eventFaulted = true ∨ (s.door i).localOpen = true) →
        (s.setHolds h).door i = (s.door i).cleared .notControlled) ∧
      ((s.door i).state = .warning → (s.setHolds h).door i = Door.cleared { s.door i with
        leadIn := (s.door i).leadIn.map fun l => { l with
          cause := if l.cause ∈ [.console 0, .console 1, .console 2] then .closure else l.cause } } .notControlled) ∧
      ((s.door i).state ∈ [.reversing .opening, .opening] →
        ((s.door i).localOpen = true → (s.setHolds h).door i = Door.cleared { s.door i with
          stroke := (s.door i).stroke.map fun r => { r with
            cause := if r.cause ∈ [.console 0, .console 1, .console 2] then .localControl else r.cause } }
              .notControlled) ∧
        ((s.door i).localOpen = false → i ∉ ((s.setHolds h).unit (s.door i).unit).holders ∧
          (s.setHolds h).door i = if (s.door i).eventFaulted then
            ((s.door i).haltedAt (s.door i).indication.restState s.settingsHold s.runCount).cleared .notControlled
          else Door.cleared { ((s.door i).undriven s.runCount).warned .closure s.runCount with
            stroke := none, lastSource := some .closure } .notControlled))) := by
  have hnew : zoneIn h.union (s.door i).zone = true := by rw [hd, zoneIn_holdZones, hz, Bool.or_true]
  refine ⟨fun hs hr => door_setHolds_outOfService hu hi hh hnew hs hr, fun hs => ⟨fun kept => ?_, fun warns => ?_,
    fun moves => ⟨fun hl => ?_, fun hl => ⟨?_, ?_⟩⟩⟩⟩
  · exact door_setHolds_becomes hu hi hh hnew (fun t _ _ door => (door_becomesHeld_kept (by rw [door]; tauto)).trans door) hs
  · refine door_setHolds_becomes (d := { s.door i with
        leadIn := (s.door i).leadIn.map fun l => { l with
          cause := if l.cause ∈ [.console 0, .console 1, .console 2] then .closure else l.cause } }) hu hi hh hnew
      (fun t _ _ door => ?_) hs
    simp only [State.doorBecomesHeld, door, warns, State.door_modDoor_self, Cause.fromConsole_eq]
  · refine door_setHolds_becomes (d := { s.door i with stroke := (s.door i).stroke.map fun r => { r with
        cause := if r.cause ∈ [.console 0, .console 1, .console 2] then .localControl else r.cause } }) hu hi hh hnew
      (fun t _ _ door => ?_) hs
    rw [becomesHeld_opening (by rw [door]; simp only [List.mem_cons] at moves ⊢; tauto), door, if_pos hl,
      door_makeHoldToRun_self, door]
  · obtain ⟨t, only, unlisted, door, -, -, holders⟩ := door_setHolds_held hu hi hh hnew
    intro mem
    have halted := (door_becomesHeld_stroke unlisted (by rw [door]; exact moves) (by rw [door]; exact hl)).1
    rw [door] at halted
    exact halted (holders _ mem)
  · have becomes : (s.setHolds h).door i = Door.cleared (if (s.door i).eventFaulted then
          (s.door i).haltedAt (s.door i).indication.restState s.settingsHold s.runCount
        else { ((s.door i).undriven s.runCount).warned .closure s.runCount with
          stroke := none, lastSource := some .closure }) .notControlled := by
      refine door_setHolds_becomes hu hi hh hnew (fun t only unlisted door => ?_) ?_
      · have stroke := (door_becomesHeld_stroke unlisted (by rw [door]; exact moves) (by rw [door]; exact hl)).2
        rw [door, only.settingsHold, only.runCount] at stroke
        exact stroke
      · rw [← hs]
        simp only [Door.haltedAt, Door.undriven, Door.rested, Door.warned]
        split <;> split <;> rfl
    rw [becomes]
    split <;> rfl

/-- R89: the one door that a HOLD_ZONES takes, listed in its unit. -/
theorem holdZones_listed (m : ZoneSet) {n : Entry} (hi : (s.door i).installed = true) (hs : (s.door i).inService = true)
    (hh : s.doorHeld i = false) (hz : zoneIn m (s.door i).zone = true) (hn : s.entryOf i = some n)
    (hone : ∀ j, (s.door j).installed = true → zoneIn m (s.door j).zone = true → s.doorHeld j = false → j = i) {h : Holds}
    (hd : h = s.holds.setConsole p (s.holds.console[p] ||| m)) :
    OtherUnits (s.door i).unit s (s.setHolds h) ∧
    ((s.door i).state = .queued .close → n.cls = 0 → (s.setHolds h).door i = (s.door i).cleared .notControlled ∧
      (s.setHolds h).unit (s.door i).unit = s.unit (s.door i).unit ∧ OtherDoors i s (s.setHolds h)) ∧
    ((s.door i).state = .queued .close → n.cls = 1 →
      ((s.unit (s.door i).unit).waits s.cutoff.value = true →
        (s.setHolds h).door i = (s.door i).cleared .notControlled ∧ (s.setHolds h).unit (s.door i).unit =
          (s.unit (s.door i).unit).joined (n.toClass0 s.runCount) s.runCount ∧ OtherDoors i s (s.setHolds h)) ∧
      ((s.unit (s.door i).unit).admitsAlone i s.cutoff.value = true →
        (s.setHolds h).door i = ((s.door i).admittedFor (n.toClass0 s.runCount) s.runCount).cleared .notControlled ∧
        (s.setHolds h).unit (s.door i).unit = (s.unit (s.door i).unit).admitted i ∧ OtherDoors i s (s.setHolds h))) ∧
    ((s.door i).state = .queued .opening → OtherDoors i s (s.setHolds h) ∧
      ((s.door i).localOpen = true → (s.door i).stroke = none →
        (s.setHolds h).door i = (s.door i).cleared .notControlled ∧
        (s.setHolds h).unit (s.door i).unit = { s.unit (s.door i).unit with
          list := (s.unit (s.door i).unit).list.map fun e => if e.door = i then { e with
            cause := if e.cause ∈ [.console 0, .console 1, .console 2] then .localControl else e.cause } else e }) ∧
      ((s.door i).localOpen = false →
        (s.setHolds h).unit (s.door i).unit = (s.unit (s.door i).unit).left i s.runCount ∧
        (s.setHolds h).door i = if (s.door i).eventFaulted then
          ((s.door i).rested (s.door i).indication.restState s.settingsHold).cleared .notControlled
        else Door.cleared { (s.door i).warned .closure s.runCount with lastSource := some .closure } .notControlled)) := by
  have hnew : zoneIn h.union (s.door i).zone = true := by rw [hd, zoneIn_holdZones, hz, Bool.or_true]
  obtain ⟨t, only, door, unit, -, set⟩ := setHolds_one hi hh hnew fun j hj differs => by
    rw [hd, zoneIn_holdZones] at differs
    cases hjh : s.doorHeld j with
    | true => rw [show zoneIn s.holds.union (s.door j).zone = true from hjh, hjh] at differs; simp at differs
    | false =>
      rw [show zoneIn s.holds.union (s.door j).zone = false from hjh, hjh, Bool.false_or] at differs
      exact hone j hj (by simpa using differs.symm) hjh
  have entry : t.entryOf i = some n := by rw [State.entryOf, door, unit]; exact hn
  have cutoff := only.cutoff
  have now := only.runCount
  have hold := only.settingsHold
  dsimp only at cutoff now hold
  have update := doorOnly_updateNotControlled (t.doorBecomesHeld i) i
  have here : ∀ d, (t.doorBecomesHeld i).door i = d → d.inService = true →
      ((t.doorBecomesHeld i).updateNotControlled i).door i = d.cleared .notControlled := fun d hd =>
    door_updateNotControlled_inService hd
  rw [set]
  have others : OtherDoors i t (t.doorBecomesHeld i) → OtherDoors i s ((t.doorBecomesHeld i).updateNotControlled i) :=
    fun h j hj => (update.others j hj).trans ((h j hj).trans (door j))
  refine ⟨fun v hv => ?_, fun hq hc => ?_, fun hq hc => ?_, fun hq => ?_⟩
  · rw [update.unit, otherUnits_doorBecomesHeld t i v (by rw [door]; exact hv), unit]
  · have same : t.doorBecomesHeld i = t := by
      simp only [State.doorBecomesHeld, door, hq]
      exact moveToClass0_kept entry (by omega)
    refine ⟨here _ (by rw [same, door]) hs, ?_, others (by rw [same]; exact fun _ _ => rfl)⟩
    rw [update.unit, same, unit]
  · have moves : t.doorBecomesHeld i = t.moveToClass0 i := by simp only [State.doorBecomesHeld, door, hq]
    obtain ⟨waits, admits⟩ := moveToClass0_joins entry hc
    rw [door, unit, cutoff, now, ← moves] at waits admits
    refine ⟨fun hw => ?_, fun ha => ?_⟩
    · obtain ⟨join, joined⟩ := waits hw
      exact ⟨here _ ((join.door i).trans (door i)) hs, (update.unit _).trans joined, others fun j _ => join.door j⟩
    · obtain ⟨stay, admitted, unit'⟩ := admits ha
      exact ⟨here _ admitted hs, (update.unit _).trans unit', others stay⟩
  · cases hl : (s.door i).localOpen with
    | true =>
      have runs : t.doorBecomesHeld i = t.makeHoldToRun i := by
        rw [becomesHeld_opening (by rw [door, hq]; simp), door, if_pos hl]
      refine ⟨others ?_, fun _ hk => ?_, fun hl' => absurd hl' (by decide)⟩
      · rw [runs]
        exact fun j hj => by rw [State.makeHoldToRun, (doorOnly_modDoor _ i _).others j hj, State.door_modUnit]
      · obtain ⟨-, kept, unit'⟩ := makeHoldToRun_queued t i (by rw [door]; exact hk)
        rw [door, unit, ← runs] at unit'
        exact ⟨here _ (by rw [runs, kept, door]) hs, (update.unit _).trans unit'⟩
    | false =>
      obtain ⟨stay, left, leaves⟩ := becomesHeld_leaves (s := t) (by rw [door]; exact hq) (by rw [door]; exact hl)
      rw [door, unit, now] at left
      rw [door, now, hold] at leaves
      refine ⟨others stay, fun hl' => absurd hl' (by decide), fun _ => ⟨(update.unit _).trans left, ?_⟩⟩
      rw [here _ leaves (by split <;> exact hs)]
      split <;> rfl

/-- Settles O33: the doors in no list, the one listed door, and the doors that a release and a reclose timer take. -/
theorem doorsFollowTheHolds : Obligations.DoorsFollowTheHolds := by
  refine ⟨fun s p m i h hu => ?_, fun s p m i n x h hi hs hh hz hn hx hone => ?_, fun s p m i =>
    ⟨fun h hu hi hh hz => ?_, fun hp hs => ⟨fun e he hle => ?_, fun e he hlt => ?_⟩⟩⟩
  · obtain ⟨t, w, ht, -, hw, door, unit⟩ := exec_holdZones_effect h m
    have same : w.door i = s.door i := by rw [hw]; exact State.door_taking ..
    have heldSame : w.doorHeld i = s.doorHeld i := by rw [hw]; exact State.doorHeld_taking ..
    have unlisted : w.Unlisted i := by rw [hw]; exact unlisted_taking hu _
    have now : w.runCount = s.runCount := by rw [hw]; exact State.taking_runCount ..
    have clock : w.clock = s.clock := by rw [hw]; exact State.taking_clock ..
    have hold : w.settingsHold = s.settingsHold := by rw [hw]; exact State.taking_settingsHold ..
    refine ⟨t, ht, fun hh hz hi hs hf hl hst => ?_, fun hz => ?_, fun hh hz hi => ?_⟩
    · rw [← same] at hz hi hs hf hl hst
      rw [door, door_setHolds_demanded unlisted hi (heldSame.trans hh)
        (by rw [zoneIn_holdZones, hz, Bool.or_true]) hst hs hf hl, same, now]
    · refine (door i).trans ((door_setHolds_unchanged unlisted ?_).trans same)
      rw [show zoneIn w.holds.union (w.door i).zone = s.doorHeld i from heldSame, zoneIn_holdZones, heldSame, same]
      obtain hz | hz := hz <;> simp [hz]
    · rw [← same] at hz hi
      have := holdZones_unlisted (p := p) m unlisted hi (heldSame.trans hh) hz rfl
      rw [same, now, clock, hold] at this
      rw [door, unit]
      exact this
  · subst hx
    obtain ⟨t, w, ht, -, hw, door, unit⟩ := exec_holdZones_effect h m
    have same : ∀ j, w.door j = s.door j := fun j => by rw [hw]; exact State.door_taking ..
    have sameUnit : ∀ v, w.unit v = s.unit v := fun v => by rw [hw]; exact State.unit_taking ..
    have heldSame : ∀ j, w.doorHeld j = s.doorHeld j := fun j => by rw [hw]; exact State.doorHeld_taking ..
    have now : w.runCount = s.runCount := by rw [hw]; exact State.taking_runCount ..
    have cutoff : w.cutoff = s.cutoff := by rw [hw]; exact State.taking_cutoff ..
    have hold : w.settingsHold = s.settingsHold := by rw [hw]; exact State.taking_settingsHold ..
    have entry : w.entryOf i = some n := by rw [State.entryOf, same, sameUnit]; exact hn
    obtain ⟨units, class0, class1, opening⟩ := holdZones_listed (s := w) (p := p) m (by rw [same]; exact hi) (by rw [same]; exact hs)
      ((heldSame i).trans hh) (by rw [same]; exact hz) entry
      (fun j hj hzj hhj => hone j (by rw [← same]; exact hj) (by rw [← same]; exact hzj) ((heldSame j).symm.trans hhj)) rfl
    simp only [same, sameUnit, now, cutoff, hold, OtherDoors, OtherUnits, ← door, ← unit] at units class0 class1 opening
    exact ⟨t, ht, units, class0, fun e he hq hc => he ▸ class1 hq hc,
      fun hq => ⟨(opening hq).1, (opening hq).2.1, (opening hq).2.2⟩⟩
  · let it : Item := .order .releaseZones (.zoneSet m)
    obtain ⟨t, ht, a⟩ := order_holds (c := .releaseZones p (.zoneSet m)) h.1 rfl rfl
      (h := (s.taking p it).holds.setConsole p ((s.taking p it).holds.console[p] &&& ~~~m))
      (by simp only [it, State.ordering, State.orderReleaseZones, asCommand_taking h.2])
    refine ⟨t, ht, (a.door i).trans ?_⟩
    have free := door_setHolds_free (s := s.taking p it) (unlisted_taking hu it) (by simpa using hi)
      (h := (s.taking p it).holds.setConsole p ((s.taking p it).holds.console[p] &&& ~~~m))
      ((State.doorHeld_taking s p it i).trans hh) (by simpa using hz)
    simpa [it] using free
  · have expired : s.recloseExpired i = (s.enterWarning i .reclose).setSource i .reclose := by
      rw [recloseExpired_eq hs he, if_pos hle]
    have only : DoorOnly i s ((s.enterWarning i .reclose).setSource i .reclose) :=
      (doorOnly_enterWarning s i _).trans (doorOnly_setSource _ i _)
    have work : OnlyDoors s ((s.enterWarning i .reclose).setSource i .reclose) :=
      (onlyDoors_enterWarning s i _).trans (onlyDoors_setSource _ i _)
    refine ⟨_, (live_powered hp fun s => s.recloseExpired i).trans (by rw [expired]), ?_, only.others, ?_, work.ports⟩
    · rw [door_setSource_self, State.door_enterWarning, if_pos rfl]
    · have rest := work.rest
      rw [only.units] at rest
      exact rest
  · refine (live_powered hp fun s => s.recloseExpired i).trans ?_
    rw [recloseExpired_eq hs he, if_neg (by omega)]

end Sys2Proof.Machine
end


section
/-! SUPPORT. Units that fail: a FAILED unit admits none and does not idle, so its holders and entries leave one by one. -/

namespace Sys2Proof.Machine

variable {s t u : State} {p q : PortId} {i : DoorId} {v : UnitId}

/-! ### A slot and an entry of a FAILED unit -/

theorem admissionRun_failed (h : (s.unit v).state = .failed) : s.admissionRun v = s := by
  rw [State.admissionRun, h, if_neg (by decide)]

theorem idleIfDone_failed (h : (s.unit v).state = .failed) : s.idleIfDone v = s := by
  simp [State.idleIfDone, h]

theorem freeSlot_failed (h : (s.unit (s.door i).unit).state = .failed) :
    s.freeSlot i = s.modUnit (s.door i).unit fun x => { x with holders := x.holders.filter fun j => j ≠ i } := by
  have failed : ((s.modUnit (s.door i).unit fun x => { x with holders := x.holders.filter fun j => j ≠ i }).unit
      (s.door i).unit).state = .failed := by simpa using h
  rw [State.freeSlot, admissionRun_failed failed, idleIfDone_failed failed]

theorem leaveList_failed (h : (s.unit (s.door i).unit).state = .failed) :
    s.leaveList i = s.modUnit (s.door i).unit fun x => { x with list := removeEntry i x.list } := by
  have failed : ((s.modUnit (s.door i).unit fun x => { x with list := removeEntry i x.list }).unit
      (s.door i).unit).state = .failed := by simpa using h
  simp only [State.leaveList]
  rw [idleIfDone_failed failed, if_neg (by simp [h])]

/-- What a step in a unit's failure writes: door `i`, and of the units at most `v`. -/
structure FailStep (i : DoorId) (v : UnitId) (s t : State) : Prop where
  doors : OtherDoors i s t
  units : OtherUnits v s t

theorem FailStep.trans (h : FailStep i v s t) (k : FailStep i v t u) : FailStep i v s u :=
  ⟨fun j hj => (k.doors j hj).trans (h.doors j hj), h.units.trans k.units⟩

theorem DoorOnly.failStep (h : DoorOnly i s t) (v : UnitId) : FailStep i v s t := ⟨h.others, h.otherUnits v⟩

theorem UnitOnly.failStep (h : UnitOnly v s t) (i : DoorId) : FailStep i v s t := ⟨fun j _ => h.door j, h.others⟩

/-- R68, R131: the stroke of a door of a FAILED unit ends. -/
theorem endStroke_failed (hv : (s.door i).unit = v) (h : (s.unit v).state = .failed) :
    FailStep i v s (s.endStroke i) ∧ (s.endStroke i).door i = { (s.door i).undriven s.runCount with stroke := none } ∧
      (s.endStroke i).unit v = { s.unit v with holders := (s.unit v).holders.filter fun j => j ≠ i } := by
  have off := doorOnly_driveOffNow s i
  have unit : ((s.driveOffNow i).door i).unit = v := by rw [door_driveOffNow_self, ← hv]; rfl
  have failed : ((s.driveOffNow i).unit ((s.driveOffNow i).door i).unit).state = .failed := by rw [unit, off.unit]; exact h
  rw [State.endStroke, freeSlot_failed failed, unit]
  refine ⟨((off.failStep v).trans ((unitOnly_modUnit _ v _).failStep i)).trans ((doorOnly_modDoor _ i _).failStep v), ?_, ?_⟩
  · rw [State.door_modDoor_self, State.door_modUnit, door_driveOffNow_self]
  · rw [State.unit_modDoor, State.unit_modUnit_self, off.unit]

/-- R68, R131: a slot holder of a FAILED unit is cut. -/
theorem cut_failed (hv : (s.door i).unit = v) (h : (s.unit v).state = .failed) (hs : (s.door i).state.hasStroke = true) :
    FailStep i v s (s.cut i .noPower) ∧ (s.cut i .noPower).door i = (s.door i).cutWith .noPower s ∧
      (s.cut i .noPower).unit v = { s.unit v with holders := (s.unit v).holders.filter fun j => j ≠ i } := by
  let f := s.raiseFault i .noPower
  have raised := doorOnly_raiseFault s i .noPower
  have work : OnlyDoors s f := onlyDoors_raiseFault s i .noPower
  have door : f.door i = (s.door i).faulted .noPower s.clock.time := by
    simp [f, State.raiseFault, Door.faulted]
  obtain ⟨ended, door', unit'⟩ := endStroke_failed (s := f) (i := i) (v := v) (by rw [door]; exact hv) (by rw [raised.unit]; exact h)
  have rest := doorOnly_enterIndicated (f.endStroke i) i
  have halts : s.cut i .noPower = (f.endStroke i).enterIndicated i := by rw [State.cut, if_pos hs]; rfl
  rw [halts]
  refine ⟨((raised.failStep v).trans ended).trans (rest.failStep v), ?_, by rw [rest.unit, unit', raised.unit]⟩
  have faulted := eventFaulted_faulted (s.door i) (k := .noPower) (by decide) s.clock.time
  have settings : (f.endStroke i).settingsHold = s.settingsHold :=
    (onlyDoors_endStroke f i).settingsHold.trans work.settingsHold
  rw [door_enterIndicated_self, door', door, work.runCount, settings]
  exact Door.demandTaken_faulted (d := Door.rested
    { ((s.door i).faulted .noPower s.clock.time).undriven s.runCount with stroke := none }
      (s.door i).indication.restState s.settingsHold) faulted _ _

/-- R131: a listed door of a FAILED unit is dropped. -/
theorem dropEntry_failed (hv : (s.door i).unit = v) (h : (s.unit v).state = .failed) :
    FailStep i v s (s.dropEntry i) ∧
      (s.dropEntry i).door i =
        ((s.door i).faulted .noPower s.clock.time).rested (s.door i).indication.restState s.settingsHold ∧
      (s.dropEntry i).unit v = { s.unit v with list := removeEntry i (s.unit v).list } := by
  let f := s.raiseFault i .noPower
  have raised := doorOnly_raiseFault s i .noPower
  have work : OnlyDoors s f := onlyDoors_raiseFault s i .noPower
  have door : f.door i = (s.door i).faulted .noPower s.clock.time := by
    simp [f, State.raiseFault, Door.faulted]
  have unit : (f.door i).unit = v := by rw [door]; exact hv
  have leaves := leaveList_failed (s := f) (i := i) (by rw [unit, raised.unit]; exact h)
  have list := unitOnly_modUnit f v fun x => { x with list := removeEntry i x.list }
  rw [unit] at leaves
  have rest := doorOnly_enterIndicated (f.leaveList i) i
  have drops : s.dropEntry i = (f.leaveList i).enterIndicated i := rfl
  rw [drops]
  refine ⟨((raised.failStep v).trans ?_).trans (rest.failStep v), ?_, ?_⟩
  · rw [leaves]; exact list.failStep i
  · have faulted := eventFaulted_faulted (s.door i) (k := .noPower) (by decide) s.clock.time
    have settings : (f.leaveList i).settingsHold = s.settingsHold := (onlyDoors_leaveList f i).settingsHold.trans work.settingsHold
    rw [door_enterIndicated_self, settings, leaves, list.door, door]
    exact Door.demandTaken_faulted (d := ((s.door i).faulted .noPower s.clock.time).rested
      (s.door i).indication.restState s.settingsHold) faulted _ _
  · rw [rest.unit, leaves, State.unit_modUnit_self, raised.unit]

/-! ### The passes of a failure -/

theorem cut_rest {k : FaultKind} (hs : (s.door i).state.hasStroke = false) : s.cut i k = s := by
  rw [State.cut, hs]; rfl

theorem hasStroke_cutWith (d : Door) (k : FaultKind) (s : State) : (d.cutWith k s).state.hasStroke = false := by
  show d.indication.restState.hasStroke = false
  cases d.indication <;> rfl

/-- R131, step 2: the slot holders of a FAILED unit are cut; each stands as it stood, or has been cut already. -/
theorem forDoors_cut_failed {s : State} : ∀ (l : List DoorId) (t : State), OnlyDoors s t → (t.unit v).state = .failed →
    (∀ i ∈ l, (s.door i).unit = v ∧ (s.door i).state.hasStroke = true ∧
      (t.door i = s.door i ∨ t.door i = (s.door i).cutWith .noPower s ∧ i ∉ (t.unit v).holders)) →
    OtherUnits v t (t.forDoors l fun i t => t.cut i .noPower) ∧
      (t.forDoors l fun i t => t.cut i .noPower).unit v =
        { t.unit v with holders := (t.unit v).holders.filter fun j => j ∉ l } ∧
      ∀ j, (t.forDoors l fun i t => t.cut i .noPower).door j =
        if j ∈ l then (s.door j).cutWith .noPower s else t.door j := by
  intro l
  induction l with
  | nil => exact fun t _ _ _ => ⟨.refl v t, by simp [State.forDoors], fun j => by simp [State.forDoors]⟩
  | cons i l ih =>
    intro t work failed lawful
    obtain ⟨hv, hs, stands⟩ := lawful i List.mem_cons_self
    have cut : FailStep i v t (t.cut i .noPower) ∧ (t.cut i .noPower).door i = (s.door i).cutWith .noPower s ∧
        (t.cut i .noPower).unit v = { t.unit v with holders := (t.unit v).holders.filter fun j => j ≠ i } := by
      obtain stands | ⟨done, gone⟩ := stands
      · obtain ⟨only, door, unit⟩ := cut_failed (s := t) (i := i) (by rw [stands]; exact hv) failed (by rw [stands]; exact hs)
        refine ⟨only, ?_, unit⟩
        rw [door, stands, Door.cutWith, Door.cutWith, work.clock, work.settingsHold, work.runCount]
      · rw [cut_rest (by rw [done]; exact hasStroke_cutWith _ _ _)]
        have same : (t.unit v).holders.filter (fun j => j ≠ i) = (t.unit v).holders :=
          List.filter_eq_self.mpr fun j hj => decide_eq_true fun e => gone (e ▸ hj)
        exact ⟨⟨fun _ _ => rfl, .refl v t⟩, done, by rw [same]⟩
    obtain ⟨only, door, unit⟩ := cut
    have rest : ∀ j ∈ l, (s.door j).unit = v ∧ (s.door j).state.hasStroke = true ∧
        ((t.cut i .noPower).door j = s.door j ∨
          (t.cut i .noPower).door j = (s.door j).cutWith .noPower s ∧ j ∉ ((t.cut i .noPower).unit v).holders) := by
      intro j hj
      obtain ⟨hv', hs', stands'⟩ := lawful j (List.mem_cons_of_mem _ hj)
      refine ⟨hv', hs', ?_⟩
      rw [unit]
      by_cases hji : j = i
      · subst hji
        exact .inr ⟨door, by simp⟩
      · rw [only.doors j hji]
        exact stands'.imp id fun ⟨d, h⟩ => ⟨d, fun m => h (List.mem_of_mem_filter m)⟩
    obtain ⟨units, unit', doors⟩ := ih (t.cut i .noPower) (work.trans (onlyDoors_cut t i _)) (by rw [unit]; exact failed) rest
    rw [forDoors_cons]
    refine ⟨only.units.trans units, ?_, fun j => ?_⟩
    · have holders : ((t.unit v).holders.filter fun j => j ≠ i).filter (fun j => j ∉ l) =
          (t.unit v).holders.filter fun j => j ∉ i :: l := by
        rw [List.filter_filter]
        exact List.filter_congr fun e _ => Bool.eq_iff_iff.mpr (by simp [and_comm])
      rw [unit', unit]
      dsimp only
      rw [holders]
    · rw [doors j]
      by_cases hji : j = i
      · subst hji; simp [door]
      · simp [hji, only.doors j hji]

/-- R131, step 3: the listed doors of a FAILED unit are dropped. -/
theorem forDoors_drop_failed {s : State} : ∀ (l : List DoorId) (t : State), OnlyDoors s t → (t.unit v).state = .failed →
    l.Nodup → (∀ i ∈ l, (s.door i).unit = v ∧ t.door i = s.door i) →
    OtherUnits v t (t.forDoors l fun i t => t.dropEntry i) ∧
      (t.forDoors l fun i t => t.dropEntry i).unit v =
        { t.unit v with list := (t.unit v).list.filter fun e => e.door ∉ l } ∧
      ∀ j, (t.forDoors l fun i t => t.dropEntry i).door j =
        if j ∈ l then ((s.door j).faulted .noPower s.clock.time).rested (s.door j).indication.restState s.settingsHold
        else t.door j := by
  intro l
  induction l with
  | nil => exact fun t _ _ _ _ => ⟨.refl v t, by simp [State.forDoors], fun j => by simp [State.forDoors]⟩
  | cons i l ih =>
    intro t work failed hl lawful
    obtain ⟨hi, hl⟩ := List.nodup_cons.mp hl
    obtain ⟨hv, stands⟩ := lawful i List.mem_cons_self
    obtain ⟨only, door, unit⟩ := dropEntry_failed (s := t) (i := i) (by rw [stands]; exact hv) failed
    rw [stands, work.clock, work.settingsHold] at door
    have rest : ∀ j ∈ l, (s.door j).unit = v ∧ (t.dropEntry i).door j = s.door j := fun j hj => by
      obtain ⟨hv', stands'⟩ := lawful j (List.mem_cons_of_mem _ hj)
      exact ⟨hv', (only.doors j (by rintro rfl; exact hi hj)).trans stands'⟩
    obtain ⟨units, unit', doors⟩ := ih (t.dropEntry i) (work.trans (onlyDoors_dropEntry t i)) (by rw [unit]; exact failed) hl rest
    rw [forDoors_cons]
    refine ⟨only.units.trans units, ?_, fun j => ?_⟩
    · have list : (removeEntry i (t.unit v).list).filter (fun e => e.door ∉ l) =
          (t.unit v).list.filter fun e => e.door ∉ i :: l := by
        rw [removeEntry, List.filter_filter]
        exact List.filter_congr fun e _ => Bool.eq_iff_iff.mpr (by simp [and_comm])
      rw [unit', unit]
      dsimp only
      rw [list]
    · rw [doors j]
      by_cases hji : j = i
      · subst hji; simp [hi, door]
      · simp [hji, only.doors j hji]

end Sys2Proof.Machine
end


section
/-! SUPPORT. The failure of a unit, and the changes of its pressure input. -/

namespace Sys2Proof.Machine

variable {s t u : State} {p q : PortId} {i : DoorId} {v : UnitId}

/-! ### A unit that has failed stays so while its doors are cut and dropped -/

/-- What the cutting and dropping of doors leaves of a FAILED unit, whatever doors they are. -/
def KeepsFailed (v : UnitId) (s t : State) : Prop :=
  (s.unit v).state = .failed → (t.unit v).state = .failed ∧ (t.unit v).pressLow = (s.unit v).pressLow

theorem KeepsFailed.refl (v : UnitId) (s : State) : KeepsFailed v s s := fun h => ⟨h, rfl⟩

theorem KeepsFailed.trans (h : KeepsFailed v s t) (k : KeepsFailed v t u) : KeepsFailed v s u := fun hs => by
  obtain ⟨failed, low⟩ := h hs
  obtain ⟨failed', low'⟩ := k failed
  exact ⟨failed', low'.trans low⟩

theorem KeepsFailed.of_unit (h : t.unit v = s.unit v) : KeepsFailed v s t := fun hs => by rw [h]; exact ⟨hs, rfl⟩

theorem keepsFailed_forDoors {f : DoorId → State → State} (h : ∀ i s, KeepsFailed v s (f i s)) (l : List DoorId) :
    ∀ s, KeepsFailed v s (s.forDoors l f) := by
  induction l with
  | nil => exact .refl v
  | cons i l ih => exact fun s => by rw [forDoors_cons]; exact (h i s).trans (ih _)

theorem keepsFailed_cut (i : DoorId) (s : State) : KeepsFailed v s (s.cut i .noPower) := by
  by_cases hs : (s.door i).state.hasStroke = true
  · by_cases hv : (s.door i).unit = v
    · exact fun h => by rw [(cut_failed hv h hs).2.2]; exact ⟨h, rfl⟩
    · have raised := doorOnly_raiseFault s i .noPower
      have unit : ((s.raiseFault i .noPower).door i).unit = (s.door i).unit := by simp [State.raiseFault]
      refine .of_unit ?_
      rw [State.cut, if_pos hs, State.haltToRest, (doorOnly_enterIndicated _ i).unit,
        otherUnits_endStroke _ i v (by rw [unit]; exact Ne.symm hv), raised.unit]
  · rw [cut_rest (by simpa using hs)]
    exact .refl v s

theorem keepsFailed_dropEntry (i : DoorId) (s : State) : KeepsFailed v s (s.dropEntry i) := by
  by_cases hv : (s.door i).unit = v
  · exact fun h => by rw [(dropEntry_failed hv h).2.2]; exact ⟨h, rfl⟩
  · have raised := doorOnly_raiseFault s i .noPower
    have unit : ((s.raiseFault i .noPower).door i).unit = (s.door i).unit := by simp [State.raiseFault]
    refine .of_unit ?_
    rw [State.dropEntry, (doorOnly_enterIndicated _ i).unit, (unitOnly_leaveList _ i).others v (by rw [unit]; exact Ne.symm hv),
      raised.unit]

/-- R131: a unit that fails is FAILED, its pressure input as it was. -/
theorem failUnit_state (s : State) (v : UnitId) :
    ((s.failUnit v).unit v).state = .failed ∧ ((s.failUnit v).unit v).pressLow = (s.unit v).pressLow := by
  let f := s.modUnit v fun x => { x with state := .failed, timer := none }
  have failed : (f.unit v).state = .failed := by simp [f]
  let g := f.forDoors (f.unit v).holders fun i t => t.cut i .noPower
  let h := g.forDoors ((g.unit v).list.map fun e => e.door) fun i t => t.dropEntry i
  have kept : KeepsFailed v f h := (keepsFailed_forDoors keepsFailed_cut _ f).trans (keepsFailed_forDoors keepsFailed_dropEntry _ g)
  have fails : s.failUnit v = h.modUnit v fun x => { x with attention := true } := rfl
  obtain ⟨state, low⟩ := kept failed
  rw [fails, State.unit_modUnit_self]
  exact ⟨state, low.trans (by simp [f])⟩

/-! ### A failure of a unit whose holders and entries are its own doors -/

theorem failUnit_effect (holders : ∀ i ∈ (s.unit v).holders, (s.door i).unit = v ∧ (s.door i).state.hasStroke = true)
    (entries : ∀ n ∈ (s.unit v).list, (s.door n.door).unit = v ∧ n.door ∉ (s.unit v).holders)
    (once : ((s.unit v).list.map fun n => n.door).Nodup) :
    (s.failUnit v).unit v =
        { s.unit v with state := .failed, timer := none, holders := [], list := [], attention := true } ∧
      OtherUnits v s (s.failUnit v) ∧
      ∀ i, (s.failUnit v).door i = if i ∈ (s.unit v).holders then (s.door i).cutWith .noPower s
        else if i ∈ (s.unit v).list.map fun n => n.door then
          ((s.door i).faulted .noPower s.clock.time).rested (s.door i).indication.restState s.settingsHold
        else s.door i := by
  let f := s.modUnit v fun x => { x with state := .failed, timer := none }
  have unit : f.unit v = { s.unit v with state := .failed, timer := none } := State.unit_modUnit_self _ _ _
  have door : ∀ j, f.door j = s.door j := fun j => State.door_modUnit ..
  have work : OnlyDoors s f := onlyDoors_modUnit s v _
  obtain ⟨units, cut, doors⟩ := forDoors_cut_failed (s := s) (f.unit v).holders f work (by rw [unit])
    fun i hi => by rw [unit] at hi; exact ⟨(holders i hi).1, (holders i hi).2, .inl (door i)⟩
  let g := f.forDoors (f.unit v).holders fun i t => t.cut i .noPower
  have work' : OnlyDoors s g := work.trans (onlyDoors_forDoors f _ _ fun i t => onlyDoors_cut t i _)
  have cut' : g.unit v = { s.unit v with state := .failed, timer := none, holders := [] } := by
    have none : (s.unit v).holders.filter (fun j => j ∉ (s.unit v).holders) = [] := by simp
    rw [cut, unit]
    dsimp only
    rw [none]
  have list : (g.unit v).list.map (fun e => e.door) = (s.unit v).list.map fun n => n.door := by rw [cut']
  have stands : ∀ j, j ∉ (s.unit v).holders → g.door j = s.door j := fun j hj => by
    rw [doors j, unit, if_neg hj, door]
  obtain ⟨units', drop, doors'⟩ := forDoors_drop_failed (s := s) ((g.unit v).list.map fun e => e.door) g work'
    (by rw [cut']) (by rw [list]; exact once) fun i hi => by
      rw [list] at hi
      obtain ⟨n, hn, rfl⟩ := List.mem_map.mp hi
      exact ⟨(entries n hn).1, stands _ (entries n hn).2⟩
  let h := g.forDoors ((g.unit v).list.map fun e => e.door) fun i t => t.dropEntry i
  have fails : s.failUnit v = h.modUnit v fun x => { x with attention := true } := rfl
  rw [fails]
  refine ⟨?_, ?_, fun j => ?_⟩
  · have none : (s.unit v).list.filter (fun e => e.door ∉ (s.unit v).list.map fun n => n.door) = [] := by
      rw [List.filter_eq_nil_iff]
      intro e he
      simpa using ⟨e, he, rfl⟩
    rw [State.unit_modUnit_self, drop, list, cut']
    dsimp only
    rw [none]
  · exact (((unitOnly_modUnit s v _).others.trans units).trans units').trans (unitOnly_modUnit h v _).others
  · rw [State.door_modUnit, doors' j, list, doors j, unit, door]
    by_cases hh : j ∈ (s.unit v).holders
    · have apart : j ∉ (s.unit v).list.map fun n => n.door := fun hj => by
        obtain ⟨n, hn, rfl⟩ := List.mem_map.mp hj
        exact (entries n hn).2 hh
      rw [if_neg apart]
      exact (if_pos hh).trans (if_pos hh).symm
    · rw [if_neg hh]
      exact (if_neg hh).symm

/-! ### Pressure -/

theorem pressureChanged_fails {a : Bool} (hv : (s.unit v).pressLow.value ≠ a) (ha : a = true)
    (hs : (s.unit v).state = .running ∨ (s.unit v).state = .idling) :
    s.pressureChanged v a = (s.modUnit v fun x => { x with pressLow := Input.settledAt a }).failUnit v := by
  rw [State.pressureChanged, if_neg hv, if_pos]
  subst ha
  simpa using hs

theorem pressureChanged_moves {a : Bool} (hv : (s.unit v).pressLow.value ≠ a)
    (hs : ¬ (a = true ∧ ((s.unit v).state = .running ∨ (s.unit v).state = .idling))) :
    s.pressureChanged v a = s.modUnit v fun x => { x with pressLow := Input.settledAt a } := by
  rw [State.pressureChanged, if_neg hv, if_neg]
  simpa using hs

/-- R173: a write of a unit's pressure input leaves the outputs as they are. -/
theorem outputsHold_pressLow (h : s.OutputsHold) (v : UnitId) (x : Input) :
    (s.modUnit v fun y => { y with pressLow := x }).OutputsHold := by
  have attention : ∀ w, ((s.modUnit v fun y => { y with pressLow := x }).unit w).attention = (s.unit w).attention := fun w => by
    rw [State.unit_modUnit]; split
    · next e => subst e; rfl
    · rfl
  have fault : (s.modUnit v fun y => { y with pressLow := x }).faultOut = s.faultOut := by
    rw [Bool.eq_iff_iff, faultOut_iff, faultOut_iff]
    simp only [State.door_modUnit, attention, State.modUnit_store]
    simp [State.modUnit, State.port_touchIf]
    rfl
  have closure : (s.modUnit v fun y => { y with pressLow := x }).closureOut = s.closureOut := by
    simp only [State.closureOut, State.modUnit_holds]
  have allClosed : (s.modUnit v fun y => { y with pressLow := x }).allClosedOut = s.allClosedOut := by
    simp only [State.allClosedOut, closure, State.doorHeld, State.held, State.door_modUnit, State.modUnit_holds]
  rw [State.OutputsHold, fault, closure, allClosed, State.modUnit_outputs]
  exact h

theorem OutputsHold.fault (h : s.OutputsHold) : s.outputs.fault = s.faultOut := by rw [h]

/-- R130, R131: what an event leaves that fails a unit whose holders and entries are its own doors. -/
theorem failed_effect {w : State} {x : PowerUnit} (work : OnlyDoors s w) (unit : w.unit v = x) (others : OtherUnits v s w)
    (door : ∀ j, w.door j = s.door j)
    (holders : ∀ i ∈ x.holders, (s.door i).unit = v ∧ (s.door i).state.hasStroke = true)
    (entries : ∀ n ∈ x.list, (s.door n.door).unit = v ∧ n.door ∉ x.holders)
    (once : (x.list.map fun n => n.door).Nodup) :
    let t := (w.failUnit v).evalOutputs
    t.unit v = { x with state := .failed, timer := none, holders := [], list := [], attention := true } ∧ t.runOut v = false ∧
      OtherUnits v s t ∧
      (∀ i, t.door i = if i ∈ x.holders then (s.door i).cutWith .noPower s
        else if i ∈ x.list.map fun n => n.door then
          ((s.door i).faulted .noPower s.clock.time).rested (s.door i).indication.restState s.settingsHold
        else s.door i) ∧
      t = { s with doors := t.doors, units := t.units, ports := t.ports, outputs := t.outputs } ∧ t.OutputsHold ∧
      t.outputs.fault = true ∧ ∀ q, (s.port q).SameButMarks (t.port q) := by
  intro t
  have all : OnlyDoors s (w.failUnit v) := work.trans (onlyDoors_failUnit w v)
  have worked := all.worked
  obtain ⟨unit', others', doors⟩ := failUnit_effect (s := w) (v := v) (by rw [unit]; simpa only [door] using holders)
    (by rw [unit]; simpa only [door] using entries) (by rw [unit]; exact once)
  have tunit : t.unit v = { x with state := .failed, timer := none, holders := [], list := [], attention := true } := by
    rw [State.unit_evalOutputs, unit', unit]
  refine ⟨tunit, by simp [State.runOut, tunit, UnitState.runOut], fun y hy => ?_, fun j => ?_, worked.rest, worked.outputs, ?_, worked.ports⟩
  · rw [State.unit_evalOutputs, others' y hy, others y hy]
  · rw [State.door_evalOutputs, doors j, unit, door, Door.cutWith, Door.cutWith, work.clock, work.settingsHold, work.runCount]
  · have fault : t.outputs.fault = t.faultOut := OutputsHold.fault worked.outputs
    rw [fault]
    exact (faultOut_iff t).mpr (.inr (.inl ⟨v, by rw [tunit]⟩))

/-- Settles O56. -/
theorem pressureChangesAndFailures : Obligations.PressureChangesAndFailures := by
  refine ⟨fun s v a hp ho => ⟨_, live_powered hp fun s => (s.pressureChanged v a).evalOutputs, fun hv => ?_,
    fun hv => ⟨?_, fun ⟨ha, hs⟩ => ?_, fun hs => ?_⟩⟩, fun s v c x hp hc holders entries once => ?_⟩
  · rw [State.pressureChanged, if_pos hv, evalOutputs_eq_self ho]
  · rw [State.unit_evalOutputs]
    by_cases hs : a = true ∧ ((s.unit v).state = .running ∨ (s.unit v).state = .idling)
    · rw [pressureChanged_fails hv hs.1 hs.2, (failUnit_state _ v).2, State.unit_modUnit_self]
      rfl
    · rw [pressureChanged_moves hv hs, State.unit_modUnit_self]
      rfl
  · rw [State.unit_evalOutputs, pressureChanged_fails hv ha hs]
    exact (failUnit_state _ v).1
  · have work := onlyDoors_modUnit s v fun x => { x with pressLow := Input.settledAt a }
    rw [pressureChanged_moves hv hs, evalOutputs_eq_self (outputsHold_pressLow ho v _)]
    refine ⟨State.unit_modUnit_self _ _ _, (unitOnly_modUnit s v _).others, ?_, work.ports⟩
    rw [State.modUnit, State.touchIf]
    split <;> rfl
  · obtain ⟨rfl, hv, hs, rfl⟩ | ⟨rfl, hs, hv, ⟨e, he, hle⟩, rfl⟩ := hc
    · let w := s.modUnit v fun x => { x with pressLow := Input.settledAt true }
      exact ⟨_, (live_powered hp fun s => (s.pressureChanged v true).evalOutputs).trans
        (by rw [pressureChanged_fails (by simp [hv]) rfl hs]),
        failed_effect (w := w) (onlyDoors_modUnit s v _) (State.unit_modUnit_self _ _ _) (unitOnly_modUnit s v _).others
          (fun j => State.door_modUnit ..) holders entries once⟩
    · have fails : s.startExpired v = s.failUnit v := by
        simp [State.startExpired, State.unitTimerDue, hs, he, hle, hv]
      exact ⟨_, (live_powered hp fun s => (s.startExpired v).evalOutputs).trans (by rw [fails]),
        failed_effect (w := s) (.refl s) rfl (.refl v s) (fun _ => rfl) holders entries once⟩

end Sys2Proof.Machine
end


section
/-! SUPPORT. Installation SETs that write one door: zone, unit, geometry and label. -/

namespace Sys2Proof.Machine

variable {s t u : State} {p q : PortId} {i : DoorId} {v : UnitId}

/-! ### An installation SET that writes one door -/

/-- R5: a SET that its checks let pass, and whose write touches its door alone. -/
theorem set_one_door {c : Instr} {w : SettingWrite} {legal same : DoorId → Bool} {any : Bool}
    {write : DoorId → State → State} {d : Door} (h : s.MayInstall p) (hi : c.item = some (p, .set w (.door (number i))))
    (owner : (s.taking p (.set w (.door (number i)))).setting p (.door (number i)) w =
      (s.taking p (.set w (.door (number i)))).setInstallation p (.door (number i)) legal same any write)
    (hl : legal i = true) (ha : any = true ∨ (s.door i).installed = false ∨ (s.door i).state.isRest = true)
    (hs : same i = true → d = s.door i)
    (hd : same i = false → (write i (s.taking p (.set w (.door (number i))))).door i = d)
    (only : DoorOnly i (s.taking p (.set w (.door (number i)))) (write i (s.taking p (.set w (.door (number i))))))
    (work : OnlyDoors (s.taking p (.set w (.door (number i)))) (write i (s.taking p (.set w (.door (number i)))))) :
    ∃ t, exec c s = .next t ∧ t.door i = d ∧ OtherDoors i s t ∧
      t = { s with ports := t.ports, doors := t.doors, outputs := t.outputs } ∧ t.OutputsHold ∧
      Answered p (setEntry .ok) s t := by
  let x := s.taking p (.set w (.door (number i)))
  have state : (!any && (x.door i).installed && !(x.door i).state.isRest) = false := by
    simp only [x, State.door_taking]
    obtain ha | ha | ha := ha <;> simp [ha]
  have answer : x.setting p (.door (number i)) w = (if same i then x else write i x).answer .ok := by
    rw [owner, setInstallation_door (commands_taking h.1.2 _) (by simpa using h.2), hl, state]
    simp only [Bool.not_true, Bool.false_eq_true, if_false]
    split <;> rfl
  cases hsame : same i with
  | true =>
    rw [hsame, if_pos rfl] at answer
    obtain ⟨t, ht, a⟩ := set_doors h.1.1 hi (by simp [itemMalformed]) answer (.refl x)
    exact ⟨t, ht, by rw [a.door, hs hsame, State.door_taking], fun j _ => by rw [a.door, State.door_taking],
      a.onlyDoors (State.taking_units ..), a.outputs, a.answered⟩
  | false =>
    rw [hsame, if_neg (by decide)] at answer
    obtain ⟨t, ht, a⟩ := set_doors h.1.1 hi (by simp [itemMalformed]) answer work
    exact ⟨t, ht, by rw [a.door, hd hsame], fun j hj => by rw [a.door, only.others j hj, State.door_taking],
      a.onlyDoors (only.units.trans (State.taking_units ..)), a.outputs, a.answered⟩

/-! ### Doors unsettled at rest -/

theorem unsettle_rest (hr : (s.door i).state.isRest = true) : s.unsettle i = (s.modDoor i Door.unsettled).followIndication i := by
  rw [State.unsettle, State.takeIndication, if_pos]
  simpa [Door.unsettled] using hr

/-- R45: a door at rest that is unsettled becomes UNKNOWN. -/
theorem door_unsettle_rest (hr : (s.door i).state.isRest = true) :
    DoorOnly i s (s.unsettle i) ∧ (s.unsettle i).door i = (s.door i).blanked s.settingsHold := by
  rw [unsettle_rest hr]
  refine ⟨(doorOnly_modDoor s i _).trans (doorOnly_followIndication _ i), ?_⟩
  have work := onlyDoors_modDoor s i Door.unsettled
  have door : (s.modDoor i Door.unsettled).door i = (s.door i).unsettled := State.door_modDoor_self ..
  rw [State.followIndication, door]
  by_cases hu : (s.door i).state = .unknown
  · have stands : (s.door i).unsettled.state = (s.door i).unsettled.indication.restState := hu
    rw [if_pos stands, door, Door.blanked, if_pos hu]
  · have moves : ¬ (s.door i).unsettled.state = (s.door i).unsettled.indication.restState := hu
    rw [if_neg moves, Door.blanked, if_neg hu, door_enterIndicated_self, door, work.settingsHold]
    exact Door.demandTaken_state ⟨by simp [Door.rested, Door.unsettled, Indication.restState],
      by simp [Door.rested, Door.unsettled, Indication.restState]⟩ _ _

/-! ### A new zone -/

theorem Door.demandTaken_zone (d : Door) (z : ZoneId) (held : Bool) (now : Nat) :
    Door.demandTaken { d with zone := z } held now = { d.demandTaken held now with zone := z } := by
  have same : Door.eventFaulted { d with zone := z } = d.eventFaulted := rfl
  simp only [Door.demandTaken, same]
  split <;> rfl

/-- R87: the closure demand of an installed door in service. -/
theorem Door.demandTaken_inService {d : Door} (hi : d.installed = true) (hs : d.inService = true) (held : Bool) (now : Nat) :
    d.demandTaken held now =
      if held = true ∧ (d.state = .opened ∨ d.state = .halted) ∧ d.eventFaulted = false ∧ d.localOpen = false then
        { d.warned .closure now with lastSource := some .closure }
      else d := by
  rw [Door.demandTaken]
  refine if_congr ?_ rfl rfl
  simp only [hi, hs, Bool.and_eq_true, Bool.or_eq_true, decide_eq_true_eq, Bool.not_eq_true', true_and]
  tauto

/-- R10: what a new zone makes of an installed door at rest. -/
theorem door_writeZone_rest (z : ZoneId) (hi : (s.door i).installed = true) (hr : (s.door i).state.isRest = true) :
    DoorOnly i s (State.writeZone z i s) ∧
      ((s.door i).inService = true → (State.writeZone z i s).door i =
        (({ s.door i with zone := z } : Door).demandTaken (s.held z) s.runCount).cleared .notControlled) ∧
      ((s.door i).inService = false → (State.writeZone z i s).door i =
        if s.held z then
          (if hasFault (s.door i).faults .notControlled then { s.door i with zone := z }
            else Door.faulted { s.door i with zone := z } .notControlled s.clock.time)
        else Door.cleared { s.door i with zone := z } .notControlled) := by
  let w := s.modDoor i fun d => { d with zone := z }
  have door : w.door i = { s.door i with zone := z } := State.door_modDoor_self ..
  have written := doorOnly_modDoor s i fun d => { d with zone := z }
  have work : OnlyDoors s w := onlyDoors_modDoor s i _
  have held : w.doorHeld i = s.held z := by rw [State.doorHeld, door, work.held]
  -- becoming held is, for a door at rest, the closure demand
  let x := if w.doorHeld i then w.doorBecomesHeld i else w
  have becomes : DoorOnly i w x ∧ OnlyDoors w x ∧
      x.door i = ({ s.door i with zone := z } : Door).demandTaken (s.held z) s.runCount := by
    cases hh : w.doorHeld i with
    | false =>
      have stays : x = w := by simp [x, hh]
      rw [stays, ← held, hh, Door.demandTaken_free]
      exact ⟨.refl i w, .refl w, door⟩
    | true =>
      have takes : x = w.doorBecomesHeld i := by simp [x, hh]
      rw [takes]
      by_cases standing : (w.door i).state ∈ [.opened, .halted]
      · rw [becomesHeld_standing standing]
        refine ⟨doorOnly_closureDemand w i, onlyDoors_closureDemand w i, ?_⟩
        rw [door_closureDemand_self, door, held, work.runCount]
      · have idle : (w.door i).state ∈ [.unknown, .closed, .reversing .close, .closing, .recloseWait] := by
          rw [door] at standing ⊢
          cases hst : (s.door i).state <;> simp_all [DoorState.isRest]
        rw [becomesHeld_unmoved idle]
        refine ⟨.refl i w, .refl w, ?_⟩
        rw [Door.demandTaken_state, door]
        rw [door] at standing
        simpa using standing
  obtain ⟨only, more, effect⟩ := becomes
  have writes : State.writeZone z i s = x.updateNotControlled i := by
    simp only [State.writeZone, hi, if_true]
    rfl
  have xheld : x.doorHeld i = s.held z := by
    have zone : (x.door i).zone = z := by
      rw [effect, Door.demandTaken]; split <;> rfl
    rw [State.doorHeld, zone, more.held, work.held]
  rw [writes]
  refine ⟨(written.trans only).trans (doorOnly_updateNotControlled x i), fun hs => ?_, fun hs => ?_⟩
  · rw [← effect]
    refine door_updateNotControlled_inService rfl ?_
    rw [effect, Door.demandTaken]
    split <;> exact hs
  · have kept : x.door i = { s.door i with zone := z } := by
      rw [effect, Door.demandTaken_zone, Door.demandTaken_kept (.inl hs)]
    rw [door_updateNotControlled_self, kept, xheld, more.clock, work.clock]
    simp [hi, hs]

/-- Settles O38: each SET by what it writes in its door. -/
theorem placeSetsWriteTheDoor : Obligations.PlaceSetsWriteTheDoor := by
  intro s p i z v c o text h
  refine ⟨fun hi hs hr hz => ?_, fun hi hs hr hz => ?_, fun hr => ⟨?_, fun hc ho hco hne => ?_⟩, fun hlen hp => ?_⟩
  · let w := s.taking p (.set (.zone (number z)) (.door (number i)))
    obtain ⟨only, effect, -⟩ := door_writeZone_rest (s := w) (i := i) z (by simpa [w] using hi) (by simpa [w] using hr)
    refine set_one_door (c := .setZone p (.door (number i)) (number z)) (write := State.writeZone z) h rfl
      (by simp only [State.setting, State.setZone, numbered_number]; rfl) rfl (.inr (.inr hr))
      (fun same => absurd (by simpa using same) (Ne.symm hz)) (fun _ => (effect (by simpa [w] using hs)).trans ?_) only
      (onlyDoors_writeZone z i w)
    simp only [w, State.door_taking, State.held_taking, State.taking_runCount]
    rw [Door.demandTaken_zone, Door.demandTaken_inService hi hs]
    split <;> rfl
  · let w := s.taking p (.set (.zone (number z)) (.door (number i)))
    obtain ⟨only, -, effect⟩ := door_writeZone_rest (s := w) (i := i) z (by simpa [w] using hi) (by simpa [w] using hr)
    refine set_one_door (c := .setZone p (.door (number i)) (number z)) (write := State.writeZone z) h rfl
      (by simp only [State.setting, State.setZone, numbered_number]; rfl) rfl (.inr (.inr hr))
      (fun same => absurd (by simpa using same) (Ne.symm hz)) (fun _ => (effect (by simpa [w] using hs)).trans ?_) only
      (onlyDoors_writeZone z i w)
    simp only [w, State.door_taking, State.held_taking, State.taking_clock]
    cases s.held z
    · rfl
    · simp only [if_true]
      split <;> rfl
  · let w := s.taking p (.set (.unit (number v)) (.door (number i)))
    exact set_one_door (c := .setUnit p (.door (number i)) (number v))
      (write := fun i s => s.modDoor i fun d => { d with unit := v }) h rfl
      (by simp only [State.setting, State.setUnit, numbered_number]; rfl) rfl (.inr hr)
      (fun same => by
        have : (s.door i).unit = v := by simpa using same
        rw [← this])
      (fun _ => by simp) (doorOnly_modDoor w i _) (onlyDoors_modDoor w i _)
  · let w := s.taking p (.set (.geometry c o) (.door (number i)))
    let x := w.modDoor i fun d => { d with closedCount := c, openCount := o }
    have door : x.door i = { s.door i with closedCount := c, openCount := o } := by simp [x, w]
    have work : OnlyDoors w x := onlyDoors_modDoor w i _
    have work' : OnlyDoors w (State.writeGeometry c o i w) := by
      rw [State.writeGeometry]
      split
      · exact work.trans (onlyDoors_unsettle x i)
      · exact work
    have effect : DoorOnly i w (State.writeGeometry c o i w) ∧
        (State.writeGeometry c o i w).door i = if (s.door i).installed then
          Door.blanked { s.door i with closedCount := c, openCount := o } s.settingsHold
        else { s.door i with closedCount := c, openCount := o } := by
      have installed : (w.door i).installed = (s.door i).installed := by simp [w]
      rw [State.writeGeometry, installed]
      cases hi : (s.door i).installed with
      | false => exact ⟨doorOnly_modDoor w i fun d => { d with closedCount := c, openCount := o }, door⟩
      | true =>
        obtain ⟨only, blanked⟩ := door_unsettle_rest (s := x) (i := i)
          (by rw [door]; exact hr.resolve_left (by simp [hi]))
        refine ⟨(doorOnly_modDoor w i _).trans only, blanked.trans ?_⟩
        rw [door, work.settingsHold, if_pos rfl]
        simp [w]
    refine set_one_door (c := .setGeometry p (.door (number i)) c o) (write := State.writeGeometry c o) h rfl rfl
      (geometryLegal_iff.mpr ⟨hc, ho, hco⟩) (.inr hr) (fun same => ?_) (fun _ => effect.2) effect.1
      work'
    simp only [State.door_taking, Bool.and_eq_true, decide_eq_true_eq] at same
    omega
  · let w := s.taking p (.set (.label text) (.door (number i)))
    refine set_one_door (c := .setLabel p (.door (number i)) text)
      (write := fun i s => s.modDoor i fun d => { d with label := text }) h rfl
      (by simp only [State.setting, State.setLabel]; rfl) ?_ (.inl rfl) (fun same => ?_) (fun _ => by simp) (doorOnly_modDoor w i _)
      (onlyDoors_modDoor w i _)
    · simpa [printable, hlen] using hp
    · have : (s.door i).label = text := by simpa using same
      rw [← this]

end Sys2Proof.Machine
end


section
/-! SUPPORT. Items that only answer, and items that wait. -/

namespace Sys2Proof.Machine

variable {s t u : State} {p q : PortId} {i : DoorId} {v : UnitId}

/-! ### FETCH and MARKER -/

@[simp] theorem fetchSize_taking (s : State) (p : PortId) (it : Item) (o : FetchObject) (a : Nat) :
    (s.taking p it).fetchSize o a = s.fetchSize o a := by
  cases o <;> simp [State.fetchSize]

theorem itemCommand_fetch {o : FetchObject} {a : Nat} (hf : s.Free p) (hm : fetchMalformed o a = false)
    (hs : s.fetchSize o a ≤ 1012) :
    s.itemCommand p (.fetch o a) = (s.taking p (.fetch o a)).executeFetch p o a := by
  refine itemCommand_executes hf hm ?_
  simpa [State.entrySize, itemMalformed, hm] using hs

theorem itemCommand_marker (hf : s.Free p) (w : BitVec 32) :
    s.itemCommand p (.marker w) = (s.taking p (.marker w)).endItem p (markerEntry w) :=
  itemCommand_executes hf rfl (by simp [State.entrySize, itemMalformed])

/-- Settles O20. -/
theorem fetchAndMarkerOnlyAnswer : Obligations.FetchAndMarkerOnlyAnswer := by
  intro s p c o a w hf
  refine ⟨fun hi hm hs => ?_, ?_⟩
  · let x := s.taking p (.fetch o a)
    obtain ⟨t, ht, hr, hans, -⟩ := item_done (u := { x with freeCount := x.freeCount + 64 }) (e := x.fetchEntry o a) hf hi
      (itemCommand_fetch hf hm hs) fun q => .refl _
    refine ⟨t, ht, ?_, hans⟩
    rw [hr]
    dsimp only [x]
    rw [taking_rest]
  · obtain ⟨t, ht, hr, hans, -⟩ := item_done (c := .marker p w) (u := s.taking p (.marker w)) hf rfl (itemCommand_marker hf w) fun q => .refl _
    refine ⟨t, ht, ?_, hans⟩
    rw [hr, taking_rest]

/-! ### Waiting items -/

theorem await_eq (s : State) (p : PortId) (w : Wait) :
    s.await p w = { s with ports := s.ports.set p { s.port p with
      request := (s.port p).request.map fun r => { r with wait := some w } } } := modPort_plain rfl rfl

theorem endItem_eq (s : State) (p : PortId) (e : List Byte) :
    s.endItem p e = { s with ports := s.ports.set p ((s.port p).itemEnded e) } :=
  modPort_plain ((s.port p).itemEnded_role e).2.2 ((s.port p).itemEnded_role e).2.1

theorem itemCommand_delay {ms : Nat} (hf : s.Free p) (h1 : 1 ≤ ms) (h2 : ms ≤ 5000) :
    s.itemCommand p (.delay ms) = (s.taking p (.delay ms)).await p (.delay (s.runCount + ms)) := by
  have formed : itemMalformed (.delay ms) = false := by
    simp only [itemMalformed, Bool.or_eq_false_iff, decide_eq_false_iff_not, not_lt]
    exact ⟨h1, h2⟩
  rw [itemCommand_executes hf formed (by simp [State.entrySize, formed]), State.executeItem, State.taking_runCount]

/-- The ports behind an item command whose item waits. -/
theorem otherPorts_await (s : State) (p : PortId) (it : Item) (w : Wait) :
    OtherPorts p s ((s.taking p it).await p w) := fun q hq => by
  rw [await_eq, port_setPort, if_neg hq, port_taking_other hq]
  rfl

theorem port_await_taking (s : State) (p : PortId) (it : Item) (w : Wait) :
    ((s.taking p it).await p w).port p = { s.port p with
      active := true, silenceTimer := none, summaryChanged := !(s.port p).active || (s.port p).summaryChanged
      request := some { Request.one it with wait := some w } } := by
  rw [await_eq, port_setPort, if_pos rfl, port_taking_self]
  rfl

theorem delayExpired_eq {r : Request} {e : Nat} (hr : (s.port p).request = some r) (hw : r.wait = some (.delay e)) :
    s.delayExpired p = if e ≤ s.runCount then s.endItem p (plainEntry 5 .ok 0) else s := by
  simp [State.delayExpired, hr, hw]

/-- R157: the port of a request behind the item that has ended. -/
theorem itemEnded_eq {x : Port} {r : Request} (hr : x.request = some r) (e : List Byte) :
    x.itemEnded e = if r.index + 1 < r.items.length then
        { x with request := some { r with entries := r.entries ++ [e], index := r.index + 1, wait := none } }
      else { x with
        request := none
        queue := x.queue ++ [{ token := r.token, busy := false, entries := r.entries ++ [e], carriesRestart := false }] } := by
  simp only [Port.itemEnded, hr]
  by_cases h : r.index + 1 < r.items.length
  · rw [if_pos h, if_neg (by omega)]
    rfl
  · rw [if_neg h, if_pos (by omega)]
    rfl

/-! ### DIRECT -/

theorem directFormed {k : Nat} {x : ExchangeKind} (hk : directKind k = some x) (b : BranchId) (d : DropId) :
    itemMalformed (.direct (number b) (number d) k) = false := by
  simp [itemMalformed, directMalformed, hk]

theorem itemCommand_direct {k : Nat} {x : ExchangeKind} (hf : s.Free p) (hk : directKind k = some x) (b : BranchId)
    (d : DropId) : s.itemCommand p (.direct (number b) (number d) k) =
      (s.taking p (.direct (number b) (number d) k)).executeDirect p (number b) (number d) k :=
  itemCommand_executes hf (directFormed hk b d) (by simp [State.entrySize, directFormed hk b d])

@[simp] theorem claimant_taking (s : State) (p : PortId) (it : Item) (b : BranchId) (d : DropId) :
    (s.taking p it).claimant b d = s.claimant b d := by simp [State.claimant]

/-- R164: how a DIRECT from a COMMAND port is judged. -/
theorem judgeDirect_command {k : Nat} {x : ExchangeKind} (h : s.MayOrder p) (hk : directKind k = some x) (it : Item)
    (b : BranchId) (d : DropId) : (s.taking p it).judgeDirect p (number b) (number d) k =
      if (s.branch b).enable = false then .inl .branchOff
      else match s.claimant b d with
        | none => .inl .unclaimed
        | some i =>
          if (s.branch b).pendingDirect.isSome then .inl .busy
          else if (s.door i).state.isRest = false then .inl .refusedState
          else .inr (b, { drop := d, kind := x, port := p }) := by
  simp only [State.judgeDirect, numbered_number, hk, commands_taking h.2, State.branch_taking, claimant_taking,
    State.door_taking, Bool.not_true, Bool.false_eq_true, if_false, Bool.not_eq_true'] <;> rfl

/-- A DIRECT that is answered at its taking. -/
theorem direct_answered {k : Nat} {x : ExchangeKind} {r : Result} (hf : s.Free p) (hk : directKind k = some x) (b : BranchId)
    (d : DropId) (hj : (s.taking p (.direct (number b) (number d) k)).judgeDirect p (number b) (number d) k = .inl r) :
    ∃ t, exec (.direct p (number b) (number d) k) s = .next t ∧ t = { s with ports := t.ports } ∧
      Answered p (directEntry r (number b) (number d) k []) s t := by
  obtain ⟨t, ht, hr, hans, -⟩ := item_done (c := .direct p (number b) (number d) k)
    (u := s.taking p (.direct (number b) (number d) k)) hf rfl
    (by rw [itemCommand_direct hf hk, State.executeDirect, hj]) fun q => .refl _
  exact ⟨t, ht, by rw [hr, taking_rest], hans⟩

theorem branch_setBranch (s : State) (b : BranchId) (x : Branch) (c : BranchId) :
    ({ s with branches := s.branches.set b x } : State).branch c = if c = b then x else s.branch c := by
  by_cases e : c = b
  · subst e; simp [State.branch]
  · have : b.val ≠ c.val := fun k => e (Fin.ext k.symm)
    simp [State.branch, e, this]

/-- Settles O21. -/
theorem delaysAndDirectsWaitOrAreAnswered : Obligations.DelaysAndDirectsWaitOrAreAnswered := by
  refine ⟨fun s p ms r e => ⟨fun hf h1 h2 => ?_, fun hp hr hw => ⟨fun hlt => ?_, fun hle => ?_⟩⟩,
    fun s p b d k x h hk => ⟨fun i he hc hn hs => ?_, fun r hr => ?_⟩⟩
  · refine ⟨_, exec_item_live (c := .delay p ms) rfl hf.1, ?_, ?_, ?_⟩ <;> rw [itemCommand_delay hf h1 h2]
    · rw [await_eq, taking_rest]
    · exact otherPorts_await s p _ _
    · rw [port_await_taking]
      rfl
  · refine (live_powered hp fun s => s.delayExpired p).trans ?_
    rw [delayExpired_eq hr hw, if_neg (by omega)]
  · refine ⟨_, (live_powered hp fun s => s.delayExpired p).trans (by rw [delayExpired_eq hr hw, if_pos hle]), ?_,
      fun q hq => ?_, ?_⟩ <;> rw [endItem_eq]
    · rw [port_setPort, if_neg hq]
    · rw [port_setPort, if_pos rfl, itemEnded_eq hr]
      rfl
  · let it : Item := .direct (number b) (number d) k
    let w := s.taking p it
    let y := { s.branch b with pendingDirect := some { drop := d, kind := x, port := p } }
    have judged : w.judgeDirect p (number b) (number d) k = .inr (b, { drop := d, kind := x, port := p }) := by
      rw [judgeDirect_command h hk]
      simp [he, hc, hn, hs]
    have waits : s.itemCommand p it = { w.await p (.direct b) with branches := s.branches.set b y } := by
      have written : w.modBranch b (fun y => { y with pendingDirect := some { drop := d, kind := x, port := p } }) =
          { w with branches := s.branches.set b y } := by
        rw [modBranch_plain rfl]; simp [w, y]
      rw [itemCommand_direct h.1 hk, State.executeDirect, judged]
      dsimp only
      rw [written, await_eq, await_eq]
      rfl
    have port : ∀ q, ({ w.await p (.direct b) with branches := s.branches.set b y } : State).port q =
        (w.await p (.direct b)).port q := fun q => rfl
    refine ⟨_, exec_item_live (c := .direct p (number b) (number d) k) rfl h.1.1, ?_, ?_, ?_, ?_, ?_, ?_, ?_, ?_⟩ <;> rw [waits]
    · rw [await_eq]
      dsimp only [w]
      rw [taking_rest]
    · exact otherPorts_await s p it _
    · exact fun c hc => (branch_setBranch s b y c).trans (if_neg hc)
    · exact (branch_setBranch s b y b).trans (if_pos rfl)
    all_goals rw [port, port_await_taking]
    rfl
  · refine direct_answered h.1 hk b d ?_
    rw [judgeDirect_command h hk]
    obtain ⟨rfl, he⟩ | ⟨rfl, he, hc⟩ | ⟨rfl, he, hc, hn⟩ | ⟨rfl, he, hn, i, hc, hs⟩ := hr
    · rw [if_pos he]
    · simp [he, hc]
    · obtain ⟨i, hc⟩ := Option.isSome_iff_exists.mp hc
      simp [he, hc, Option.isSome_iff_ne_none, hn]
    · simp [he, hc, hn, hs]

end Sys2Proof.Machine
end


section
/-! SUPPORT. Bytes of numbers, items and request frames, read back. -/

namespace Sys2Proof.Machine

/-! ### Numbers in bytes -/

@[simp] theorem toNat_byteOf (n : Nat) : (byteOf n).toNat = n % 256 := by simp [byteOf]

@[simp] theorem length_bytesOf (k n : Nat) : (bytesOf k n).length = k := by
  induction k with
  | zero => rfl
  | succ k ih => rw [bytesOf, List.length_cons, ih]

theorem foldl_bytesOf (k n : Nat) : ∀ a, (bytesOf k n).foldl (fun m b => m * 256 + b.toNat) a = a * 256 ^ k + n % 256 ^ k := by
  induction k with
  | zero => intro a; simp [bytesOf, Nat.mod_one]
  | succ k ih =>
    intro a
    rw [bytesOf, List.foldl_cons, ih, toNat_byteOf, Nat.mod_pow_succ]
    ring

/-- R187: a number in `k` bytes, read back. -/
@[simp] theorem natOf_bytesOf (k n : Nat) : natOf (bytesOf k n) = n % 256 ^ k := by
  rw [natOf, foldl_bytesOf, Nat.zero_mul, Nat.zero_add]

theorem natOf_bytesOf_of_fits {k n : Nat} (h : fits k n = true) : natOf (bytesOf k n) = n := by
  rw [natOf_bytesOf, Nat.mod_eq_of_lt (by simpa [fits] using h)]

theorem natOf_byte {n : Nat} (h : fits 1 n = true) : (byteOf n).toNat = n := by
  rw [toNat_byteOf, Nat.mod_eq_of_lt (by simpa [fits] using h)]

/-- R187: a signed number in four bytes, read back. -/
theorem intOf_signedBytes {v : Int} (h1 : -2147483648 ≤ v) (h2 : v ≤ 2147483647) : intOf (signedBytes 4 v) = v := by
  have number : natOf (signedBytes 4 v) = (v % 4294967296).toNat := by
    rw [signedBytes, natOf_bytesOf]
    have : (v % ((256 ^ 4 : Nat) : Int)).toNat < 256 ^ 4 := by omega
    rw [Nat.mod_eq_of_lt this]
    rfl
  simp only [intOf, number]
  rw [show (signedBytes 4 v).length = 4 from length_bytesOf 4 _]
  split <;> omega

theorem bytesOf_two (n : Nat) : bytesOf 2 n = [byteOf (n / 256), byteOf n] := by
  simp [bytesOf]

theorem natOf_two (n : Nat) : natOf [byteOf (n / 256), byteOf n] = n % 65536 := by
  rw [← bytesOf_two]; exact natOf_bytesOf 2 n

/-! ### Items -/

theorem readTarget_bytes {t : Target} (h : t.wellFormed = true) :
    readTarget (byteOf (Target.form t)).toNat (Target.value t % 65536) = t := by
  have form : ∀ f, 10 ≤ f → ∀ v, readTarget f v = .other f v := by
    intro f hf v
    obtain ⟨g, rfl⟩ := Nat.exists_eq_add_of_le' hf
    rfl
  cases t with
  | other f v =>
    simp only [Target.wellFormed, Bool.and_eq_true, decide_eq_true_eq, fits] at h
    obtain ⟨⟨hf, h1⟩, h2⟩ := h
    rw [toNat_byteOf, Target.form, Target.value, Nat.mod_eq_of_lt (by simpa using h1), Nat.mod_eq_of_lt (by simpa using h2), form f hf]
  | zoneSet m =>
    simp only [Target.form, toNat_byteOf, Target.value]
    rw [Nat.mod_eq_of_lt m.isLt]
    simp [readTarget]
  | none => rfl
  | all => rfl
  | device => rfl
  | _ n =>
    have fit : n < 65536 := by simpa [Target.wellFormed, fits] using h
    simp only [Target.form, toNat_byteOf, Target.value, Nat.mod_eq_of_lt fit]
    rfl

theorem length_param (o : OrderOp) : (OrderOp.param o).length = 6 := by
  cases o with
  | clockAdjust delta => simp [OrderOp.param, signedBytes]
  | _ => simp [OrderOp.param]

theorem readObject_code (o : FetchObject) : readObject (byteOf (FetchObject.code o)).toNat = some o := by
  cases o <;> rfl

/-- Section 12.3: an order's code and parameter bytes, read back. -/
theorem readOrder_bytes {o : OrderOp} (h : o.wellFormed = true) :
    readOrder (byteOf (OrderOp.code o)).toNat (OrderOp.param o) = some o := by
  have stamp : ∀ day ms, fits 2 day = true → fits 4 ms = true →
      natOf ((bytesOf 2 day ++ bytesOf 4 ms).take 2) = day ∧
        natOf (((bytesOf 2 day ++ bytesOf 4 ms).drop 2).take 4) = ms := by
    intro day ms hd hm
    rw [List.take_left' (length_bytesOf 2 day), List.drop_left' (length_bytesOf 2 day),
      List.take_of_length_le (by simp), natOf_bytesOf_of_fits hd, natOf_bytesOf_of_fits hm]
    exact ⟨rfl, rfl⟩
  have first : ∀ v, fits 1 v = true → natOf ((byteOf v :: List.replicate 5 0).take 1) = v := fun v hv => by
    simpa [natOf] using natOf_byte hv
  cases o with
  | service v => simp only [readOrder, OrderOp.code, OrderOp.param, toNat_byteOf, first v h]
  | settingsHold v => simp only [readOrder, OrderOp.code, OrderOp.param, toNat_byteOf, first v h]
  | clockLoad day ms =>
    simp only [OrderOp.wellFormed, Bool.and_eq_true] at h
    obtain ⟨hd, hm⟩ := stamp day ms h.1 h.2
    simp only [readOrder, OrderOp.code, OrderOp.param, toNat_byteOf, hd, hm]
  | clockArm day ms =>
    simp only [OrderOp.wellFormed, Bool.and_eq_true] at h
    obtain ⟨hd, hm⟩ := stamp day ms h.1 h.2
    simp only [readOrder, OrderOp.code, OrderOp.param, toNat_byteOf, hd, hm]
  | clockAdjust delta =>
    simp only [OrderOp.wellFormed, Bool.and_eq_true, decide_eq_true_eq] at h
    have value : intOf ((signedBytes 4 delta ++ List.replicate 2 0).take 4) = delta := by
      rw [List.take_left' (by simp [signedBytes])]
      exact intOf_signedBytes h.1 h.2
    simp only [readOrder, OrderOp.code, OrderOp.param, toNat_byteOf, value]
  | _ => rfl

/-- Section 12.3: a setting's code and value, read back, its value having the setting's width. -/
theorem readSetting_bytes {w : SettingWrite} (h : w.wellFormed = true) :
    (SettingWrite.encoded w).2.length < 256 ∧
      readSetting (byteOf (SettingWrite.encoded w).1).toNat (SettingWrite.encoded w).2 = some w ∧
      widthSuits (byteOf (SettingWrite.encoded w).1).toNat (SettingWrite.encoded w).2.length = true := by
  cases w with
  | op k v =>
    have value := natOf_bytesOf_of_fits (k := 2) (n := v) h
    refine ⟨by simp [SettingWrite.encoded], ?_, ?_⟩
    · cases k <;> simp only [SettingWrite.encoded, OpSetting.code, toNat_byteOf, readSetting, value]
    · cases k <;> simp [SettingWrite.encoded, OpSetting.code, widthSuits, settingWidth]
  | geometry c o =>
    simp only [SettingWrite.wellFormed, Bool.and_eq_true] at h
    refine ⟨by simp [SettingWrite.encoded], ?_, by simp [SettingWrite.encoded, widthSuits, settingWidth]⟩
    simp only [SettingWrite.encoded, toNat_byteOf, readSetting, List.take_left' (length_bytesOf 2 c),
      List.drop_left' (length_bytesOf 2 c), natOf_bytesOf_of_fits h.1, natOf_bytesOf_of_fits h.2]
  | label text =>
    exact ⟨by simpa [SettingWrite.wellFormed, SettingWrite.encoded, fits] using h, rfl, rfl⟩
  | vesselIdentity text =>
    exact ⟨by simpa [SettingWrite.wellFormed, SettingWrite.encoded, fits] using h, rfl, rfl⟩
  | faultAlarmMask m =>
    refine ⟨by simp [SettingWrite.encoded], ?_, by simp [SettingWrite.encoded, widthSuits, settingWidth]⟩
    have value : natOf (bytesOf 2 m.toNat) = m.toNat := natOf_bytesOf_of_fits (by simpa [fits] using m.isLt)
    simp only [SettingWrite.encoded, toNat_byteOf, readSetting, value, BitVec.ofNat_toNat, BitVec.setWidth_eq]
  | clockTrim i d =>
    refine ⟨by simp [SettingWrite.encoded], ?_, by simp [SettingWrite.encoded, widthSuits, settingWidth]⟩
    have direction : byteOf (natOf [d]) = d := by simp [natOf, byteOf]
    simp only [SettingWrite.encoded, toNat_byteOf, readSetting, List.take_left' (length_bytesOf 2 i),
      List.drop_left' (length_bytesOf 2 i), natOf_bytesOf_of_fits h, direction]
  | _ v =>
    have value := natOf_bytesOf_of_fits (k := 2) (n := v) h
    refine ⟨by simp [SettingWrite.encoded], ?_, by simp [SettingWrite.encoded, widthSuits, settingWidth]⟩
    simp only [SettingWrite.encoded, toNat_byteOf, readSetting, value]

/-- Section 12.3: how a SET item is read. -/
theorem readItem_set (k form v1 v0 len : Byte) (rest : List Byte) :
    readItem (3 :: k :: form :: v1 :: v0 :: len :: rest) =
      if rest.length < len.toNat then (.undecodable 3, [])
      else match readSetting k.toNat (rest.take len.toNat) with
        | some w =>
          if widthSuits k.toNat len.toNat then
            (.set w (readTarget form.toNat (natOf [v1, v0])), rest.drop len.toNat)
          else (.undecodable 3, [])
        | none => (.undecodable 3, []) := rfl

/-- Section 12.3: the bytes of a well-formed item, read back. -/
theorem readItem_bytes {it : Item} (h : it.wellFormed = true) (rest : List Byte) :
    readItem (itemBytes it ++ rest) = (it, rest) := by
  cases it with
  | fetch o a =>
    have argument := natOf_byte (n := a) h
    simp only [itemBytes, List.cons_append, List.nil_append, readItem, readObject_code, argument]
    rfl
  | order o t =>
    simp only [Item.wellFormed, Bool.and_eq_true] at h
    simp only [itemBytes, Target.bytes, bytesOf_two, List.cons_append, List.nil_append, readItem, List.length_append,
      length_param, List.take_left' (length_param o), List.drop_left' (length_param o), readOrder_bytes h.1, natOf_two,
      readTarget_bytes h.2]
    rw [if_neg (by omega)]
    rfl
  | set w t =>
    simp only [Item.wellFormed, Bool.and_eq_true] at h
    obtain ⟨short, value, width⟩ := readSetting_bytes h.1
    have length : (byteOf (SettingWrite.encoded w).2.length).toNat = (SettingWrite.encoded w).2.length := by
      rw [toNat_byteOf, Nat.mod_eq_of_lt short]
    simp only [itemBytes, Target.bytes, bytesOf_two, List.cons_append, List.nil_append]
    rw [readItem_set]
    simp only [List.length_append, length, List.take_left, List.drop_left, value, width, natOf_two, readTarget_bytes h.2]
    rw [if_neg (by omega)]
    rfl
  | marker w =>
    have value : natOf (bytesOf 4 w.toNat) = w.toNat := natOf_bytesOf_of_fits (by simpa [fits] using w.isLt)
    simp only [bytesOf] at value
    simp only [itemBytes, bytesOf, List.cons_append, List.nil_append, readItem, value, BitVec.ofNat_toNat,
      BitVec.setWidth_eq]
    rfl
  | delay ms =>
    have value : ms % 65536 = ms := Nat.mod_eq_of_lt (by simpa [Item.wellFormed, fits] using h)
    simp only [itemBytes, bytesOf_two, List.cons_append, List.nil_append, readItem, natOf_two, value]
    rfl
  | direct b d k =>
    simp only [Item.wellFormed, Bool.and_eq_true] at h
    simp only [itemBytes, List.cons_append, List.nil_append, readItem, natOf_byte h.1.1, natOf_byte h.1.2, natOf_byte h.2]
    rfl
  | undecodable c => simp [Item.wellFormed] at h

theorem itemBytes_cons (it : Item) : ∃ c l, itemBytes it = c :: l := by
  cases it <;> exact ⟨_, _, rfl⟩

/-- R157: the bytes of at most `room` well-formed items, read back. -/
theorem readItems_bytes (items : List Item) : ∀ n room, items.length ≤ n → items.length ≤ room →
    (∀ it ∈ items, it.wellFormed = true) → readItems n room (items.map itemBytes).flatten = items := by
  induction items with
  | nil => intro n room _ _ _; cases n <;> simp [readItems]
  | cons it items ih =>
    intro n room hn hr formed
    obtain ⟨n, rfl⟩ := Nat.exists_eq_add_of_le' (Nat.le_trans (by simp) hn : 1 ≤ n)
    obtain ⟨room, rfl⟩ := Nat.exists_eq_add_of_le' (Nat.le_trans (by simp) hr : 1 ≤ room)
    have behind := ih n room (by simpa using hn) (by simpa using hr) fun x hx => formed x (List.mem_cons_of_mem _ hx)
    have read := readItem_bytes (formed it List.mem_cons_self) (items.map itemBytes).flatten
    obtain ⟨c, l, bytes⟩ := itemBytes_cons it
    rw [List.map_cons, List.flatten_cons, bytes, List.cons_append]
    rw [bytes, List.cons_append] at read
    rw [readItems.eq_4 _ _ _ (List.cons_ne_nil _ _), read]
    cases it with
    | undecodable d => exact absurd (formed _ List.mem_cons_self) (by simp [Item.wellFormed])
    | _ => exact congrArg (List.cons _) behind

theorem length_le_flatten (items : List Item) : items.length ≤ (items.map itemBytes).flatten.length := by
  induction items with
  | nil => simp
  | cons it items ih =>
    obtain ⟨c, l, bytes⟩ := itemBytes_cons it
    simp only [List.length_cons, List.map_cons, List.flatten_cons, List.length_append, bytes]
    omega

/-! ### Request frames -/

/-- Section 12.2: what a frame whose length field tells its length is read as. -/
theorem readRequest_eq (p : PortId) {l1 l0 version kind port t1 t0 : Byte} {items crc : List Byte} (hc : crc.length = 2)
    (hl : natOf [l1, l0] = 5 + items.length) :
    readRequest p (0xC3 :: l1 :: l0 :: ([version, kind, port, t1, t0] ++ items ++ crc)) =
      if natOf [l1, l0] ≤ 251 ∧ crc = crcBytes ([l1, l0, version, kind, port, t1, t0] ++ items) ∧ version = 2 ∧
          kind = 1 ∧ port.toNat = p.val then
        some { token := natOf [t1, t0], items := readItems items.length Config.maxItems items }
      else none := by
  have body : ([version, kind, port, t1, t0] ++ items ++ crc).take (natOf [l1, l0]) = [version, kind, port, t1, t0] ++ items :=
    List.take_left' (by rw [List.length_append, hl]; rfl)
  have tail : ([version, kind, port, t1, t0] ++ items ++ crc).drop (natOf [l1, l0]) = crc :=
    List.drop_left' (by rw [List.length_append, hl]; rfl)
  have length : ([version, kind, port, t1, t0] ++ items ++ crc).length = natOf [l1, l0] + 2 := by
    rw [List.length_append, List.length_append, hc, hl]; rfl
  simp only [readRequest, body, tail, length]
  have least : Config.minRequestLength ≤ natOf [l1, l0] := by rw [hl]; exact Nat.le_add_right _ _
  by_cases hlen : natOf [l1, l0] ≤ 251
  · by_cases hcrc : crc = crcBytes ([l1, l0, version, kind, port, t1, t0] ++ items)
    · rw [if_pos]
      · simp only [List.cons_append, List.nil_append]
        refine if_congr ?_ rfl rfl
        simp only [hlen, hcrc, Bool.and_eq_true, decide_eq_true_eq, true_and, and_assoc]
        exact (and_iff_right rfl).symm
      · simp only [Bool.and_eq_true, decide_eq_true_eq]
        exact ⟨⟨⟨⟨rfl, trivial⟩, hlen⟩, least⟩, hcrc⟩
    · rw [if_neg, if_neg (by tauto)]
      simp only [Bool.and_eq_true, decide_eq_true_eq]
      exact fun h => hcrc h.2
  · rw [if_neg, if_neg (by tauto)]
    simp only [Bool.and_eq_true, decide_eq_true_eq]
    exact fun h => hlen h.1.1.2

theorem readRequest_short (p : PortId) {l1 l0 : Byte} (h : natOf [l1, l0] < 5) (rest : List Byte) :
    readRequest p (0xC3 :: l1 :: l0 :: rest) = none := by
  simp only [readRequest]
  rw [if_neg]
  simp only [Bool.and_eq_true, decide_eq_true_eq]
  exact fun hr => absurd hr.1.2 (Nat.not_le.mpr h)

/-! ### Frames written, and frames received (O11, O15) -/

/-- Section 12.2: the frame written for a request, its fields one after another. -/
theorem requestFrame_eq (p : PortId) (token : Nat) (items : List Item) :
    requestFrame p token items =
      0xC3 :: byteOf ((5 + (items.map itemBytes).flatten.length) / 256) ::
        byteOf (5 + (items.map itemBytes).flatten.length) ::
        ([2, 1, byteOf p.val, byteOf (token / 256), byteOf token] ++ (items.map itemBytes).flatten ++
          crcBytes ([byteOf ((5 + (items.map itemBytes).flatten.length) / 256),
            byteOf (5 + (items.map itemBytes).flatten.length), 2, 1, byteOf p.val, byteOf (token / 256),
            byteOf token] ++ (items.map itemBytes).flatten)) := by
  have length : ([Config.version, 1, byteOf p.val] ++ bytesOf 2 token ++ (items.map itemBytes).flatten).length =
      5 + (items.map itemBytes).flatten.length := by
    rw [List.length_append, List.length_append, length_bytesOf]
    rfl
  rw [requestFrame, consoleFrameBytes, length, bytesOf_two, bytesOf_two]
  rfl

theorem length_requestFrame (p : PortId) (token : Nat) (items : List Item) :
    (requestFrame p token items).length = 10 + (items.map itemBytes).flatten.length := by
  rw [requestFrame_eq]
  simp [crcBytes]
  omega

/-- R155, R157: the frame written for a request, read at any port. -/
theorem readRequest_requestFrame (p q : PortId) {token : Nat} {items : List Item} (ht : token < 65536)
    (hn : items.length ≤ 32) (formed : ∀ it ∈ items, it.wellFormed = true)
    (hl : (requestFrame p token items).length ≤ 256) :
    readRequest q (requestFrame p token items) =
      if p.val = q.val then some { token := token, items := items } else none := by
  rw [length_requestFrame] at hl
  have length : natOf [byteOf ((5 + (items.map itemBytes).flatten.length) / 256),
      byteOf (5 + (items.map itemBytes).flatten.length)] = 5 + (items.map itemBytes).flatten.length := by
    rw [natOf_two, Nat.mod_eq_of_lt (by omega)]
  have port : (byteOf p.val).toNat = p.val := by rw [toNat_byteOf, Nat.mod_eq_of_lt (by omega)]
  rw [requestFrame_eq, readRequest_eq q (crc := crcBytes _) (length_bytesOf 2 _) length, length, port, natOf_two, Nat.mod_eq_of_lt ht,
    readItems_bytes items _ Config.maxItems (length_le_flatten items) hn formed]
  refine if_congr ⟨fun h => h.2.2.2.2, fun h => ⟨by omega, rfl, rfl, rfl, h⟩⟩ rfl rfl

/-- Settles O11: each kind of item by its fields, and the frame by its header and the list of its items. -/
theorem itemsAndFramesReadBackAsWritten : Obligations.ItemsAndFramesReadBackAsWritten := by
  refine ⟨fun it rest formed => readItem_bytes formed rest, fun p q token items ht hn formed hl => ⟨?_, fun hq => ?_⟩⟩
  · rw [readRequest_requestFrame p p ht hn formed hl, if_pos rfl]
  · rw [readRequest_requestFrame p q ht hn formed hl, if_neg fun h => hq (Fin.ext h.symm)]

/-- R155: the port's receiver hunts. -/
def State.hunting (s : State) (p : PortId) : State :=
  { s with ports := s.ports.set p { s.port p with collecting := false } }

@[simp] theorem port_hunting (s : State) (p : PortId) : (s.hunting p).port p = { s.port p with collecting := false } :=
  port_set_self s p _

/-- R155: a frame judged; the receiver hunts. -/
theorem exec_consoleFrame {s : State} (hp : s.powered = true) (p : PortId) (l : List Byte) :
    exec (.consoleFrame p l) s = .next (match readRequest p l with
      | none => s.hunting p
      | some g => if 2 ≤ (s.port p).responses then s.hunting p else (s.hunting p).takeRequest p g) := by
  have hunts : s.modPort p (fun q => { q with collecting := false }) = s.hunting p := modPort_plain rfl rfl
  refine (live_powered hp fun s => s.consoleFrame p l).trans ?_
  rw [State.consoleFrame, hunts, port_hunting]
  rfl

/-- R155: a frame that is no good request, or finds two responses waiting. -/
theorem exec_consoleFrame_discarded {s : State} (hp : s.powered = true) {p : PortId} {l : List Byte}
    (h : readRequest p l = none ∨ 2 ≤ (s.port p).responses) : exec (.consoleFrame p l) s = .next (s.hunting p) := by
  rw [exec_consoleFrame hp]
  cases read : readRequest p l with
  | none => rfl
  | some g => exact congrArg _ (if_pos (h.resolve_left (by simp [read])))

/-- R155: a good request at a port with room for its response. -/
theorem exec_consoleFrame_taken {s : State} (hp : s.powered = true) {p : PortId} {l : List Byte} {g : GoodRequest}
    (good : readRequest p l = some g) (room : (s.port p).responses < 2) :
    exec (.consoleFrame p l) s = .next ((s.hunting p).takeRequest p g) := by
  rw [exec_consoleFrame hp, good]
  exact congrArg _ (if_neg (Nat.not_le.mpr room))

/-- Settles O15: a discarded frame, a frame answered BUSY, and the judging of a frame whose length field tells its
length. -/
theorem framesAreDiscardedOrAnsweredBusy : Obligations.FramesAreDiscardedOrAnsweredBusy := by
  intro s p l hp
  refine ⟨exec_consoleFrame_discarded hp, fun g good room busy => ?_,
    fun l1 l0 version kind port t1 t0 items crc hc hl frame => ?_,
    fun l1 l0 rest short frame => ?_⟩
  · rw [exec_consoleFrame_taken hp good room, State.takeRequest, port_hunting,
      if_pos (by simpa [Option.isSome_iff_ne_none] using busy), State.answerBusy, modPort_plain rfl rfl]
    simp [State.hunting, port_set_self, Vector.set_set]
  · rw [frame, readRequest_eq p hc hl]
    constructor
    · simp only [ite_eq_right_iff, reduceCtorEq, imp_false, not_and_or, Nat.not_le, ne_eq]
    · intro g read
      obtain ⟨_, same⟩ := Option.ite_none_right_eq_some.mp read
      cases same
      rfl
  · rw [frame, readRequest_short p short rest]

end Sys2Proof.Machine
end


section
/-! SUPPORT. Requests that go on item by item. -/

namespace Sys2Proof.Machine

variable {s t u : State} {p q : PortId} {r : Request} {it : Item}

/-! ### An item command and its frame -/

theorem hunting_self (h : (s.port p).collecting = false) : s.hunting p = s := by
  have same : ({ s.port p with collecting := false } : Port) = s.port p := by rw [← h]
  rw [State.hunting, same]
  simp [State.port]

/-- Settles O18: the frame reads back as the item, which is taken as the command takes it. -/
theorem itemCommandIsItsOneItemFrame : Obligations.ItemCommandIsItsOneItemFrame := by
  intro s p c it hi formed hl hc room
  rw [exec_item hi]
  have read : readRequest p (requestFrame p 0 [it]) = some { token := 0, items := [it] } := by
    rw [readRequest_requestFrame p p (by omega) (by simp) (by simpa using formed) hl, if_pos rfl]
  cases hp : s.powered with
  | false =>
    change (Host.Outcome.next _ : Host.Outcome State Fault Refusal) = .next _
    rw [hp]
    rfl
  | true =>
    rw [live_powered hp fun s => s.itemCommand p it, exec_consoleFrame_taken hp read room, hunting_self hc]
    rfl

/-! ### The next item of a request -/

/-- R157 to R159: what becomes of the next item of a request. -/
theorem goOn_item (hr : (s.port p).request = some r) (hw : r.wait = none) (hi : r.items[r.index]? = some it) :
    s.goOn p = if s.overflows r it then s.finish p
      else if itemMalformed it then s.finishWith p (plainEntry (itemCode it) .badItem 0) false
      else s.executeItem p it := by
  simp [State.goOn, hr, hw, State.takeItem, hi]

theorem goOn_marker {w : BitVec 32} (hr : (s.port p).request = some r) (hw : r.wait = none)
    (hi : r.items[r.index]? = some (.marker w)) (hs : 12 + r.entries.flatten.length + 6 ≤ 1024) :
    s.goOn p = s.endItem p (markerEntry w) := by
  have fits : s.overflows r (.marker w) = false := by
    simp only [State.overflows, State.entrySize, itemMalformed, Request.size, Bool.false_eq_true, if_false]
    exact decide_eq_false (Nat.not_lt.mpr hs)
  rw [goOn_item hr hw hi, fits]
  rfl

/-- A step that the schedule gives to a port. -/
theorem step_item (hp : s.powered = true) (hn : s.pending = []) (hc : s.choice = some (.item p)) :
    step s = .next ({ s with schedule := s.schedule.tail }.goOn p) := by
  rw [step_idle hn, idle_of_choice hp hc]
  rfl

/-- The one port whose request can go on is the choice, where no event is due. -/
theorem choice_only (hd : s.dueEvents = []) (hr : ∀ q, (s.port q).ready = true ↔ q = p) :
    s.choice = some (.item p) := by
  have only : s.readyPorts = [p] := by
    have : ∀ q : PortId, (s.port q).ready = decide (q = p) := fun q => by
      rw [Bool.eq_iff_iff, hr, decide_eq_true_iff]
    simp only [State.readyPorts, this]
    exact (by decide : ∀ p : PortId, portIds.filter (fun q => decide (q = p)) = [p]) p
  simp [State.choice, State.choices, hd, only, Nat.mod_one]

/-- Where nothing but ports and schedule differ, and no port has an event more, no event is due that was not. -/
theorem dueEvents_none (rest : t = { s with ports := t.ports, schedule := t.schedule })
    (hp : ∀ q c, c ∈ t.portEvents q → c ∈ s.portEvents q) (h : s.dueEvents = []) : t.dueEvents = [] := by
  have branches : t.branchEvents = s.branchEvents := by rw [rest]; rfl
  have doors : t.doorEvents = s.doorEvents := by rw [rest]; rfl
  have units : t.unitEvents = s.unitEvents := by rw [rest]; rfl
  have device : t.deviceEvents = s.deviceEvents := by rw [rest]; rfl
  refine List.eq_nil_iff_forall_not_mem.mpr fun c hc => ?_
  have due : c ∈ s.dueEvents := by
    rw [mem_dueEvents] at hc ⊢
    rw [branches, doors, units, device] at hc
    exact hc.imp_left fun ⟨q, hq⟩ => ⟨q, hp q c hq⟩
  rw [h] at due
  exact absurd due List.not_mem_nil

/-! ### A request of markers -/

/-- R163: the entries of markers. -/
def markerEntries (words : List (BitVec 32)) : List (List Byte) := words.map markerEntry

theorem length_markerEntries (words : List (BitVec 32)) : (markerEntries words).flatten.length = 6 * words.length := by
  induction words with
  | nil => rfl
  | cons w words ih =>
    rw [markerEntries, List.map_cons, List.flatten_cons, List.length_append, ← markerEntries, ih]
    simp [markerEntry]
    omega

/-- The request of markers of which those of `done` have been answered. -/
def Request.echoing (token : Nat) (done todo : List (BitVec 32)) : Request :=
  { token := token, items := (done ++ todo).map Item.marker, index := done.length, entries := markerEntries done, wait := none }

/-- The port behind the answer to all markers. -/
def Port.echoed (x : Port) (token : Nat) (words : List (BitVec 32)) : Port :=
  { x with
    request := none
    queue := x.queue ++ [{ token := token, busy := false, entries := markerEntries words, carriesRestart := false }] }

/-- Only the port and the schedule have moved. -/
structure OnlyPort (p : PortId) (x : Port) (s t : State) : Prop where
  rest : t = { s with ports := t.ports, schedule := t.schedule }
  others : ∀ q, q ≠ p → t.port q = s.port q
  port : t.port p = x

/-- R163: the next marker is answered. -/
theorem itemEnded_echoing (x : Port) (token : Nat) (done todo : List (BitVec 32)) (w : BitVec 32) :
    ({ x with request := some (Request.echoing token done (w :: todo)) } : Port).itemEnded (markerEntry w) =
      if todo = [] then x.echoed token (done ++ [w])
      else { x with request := some (Request.echoing token (done ++ [w]) todo) } := by
  have entries : markerEntries done ++ [markerEntry w] = markerEntries (done ++ [w]) := by simp [markerEntries]
  rw [itemEnded_eq rfl]
  cases todo with
  | nil =>
    rw [if_neg (by simp [Request.echoing]), if_pos rfl, Port.echoed, ← entries]
    rfl
  | cons v todo =>
    rw [if_pos (by simp [Request.echoing]), if_neg (by simp)]
    simp only [Request.echoing, entries, List.append_assoc, List.length_append]
    rfl

theorem OnlyPort.set {x : Port} (h : OnlyPort p x s t) (y : Port) :
    OnlyPort p y s { t with ports := t.ports.set p y } := by
  refine ⟨congrArg (fun v : State => { v with ports := t.ports.set p y }) h.rest, fun q hq => ?_, port_set_self t p y⟩
  rw [port_setPort, if_neg hq, h.others q hq]

theorem OnlyPort.endItem {x : Port} (h : OnlyPort p x s t) (e : List Byte) : OnlyPort p (x.itemEnded e) s (t.endItem p e) := by
  rw [endItem_eq, h.port]
  exact h.set _

/-- R163: a marker that is taken from a request of at most 32 is answered. -/
theorem goOn_echoing {x : Port} {token : Nat} {done todo : List (BitVec 32)} {w : BitVec 32}
    (h : OnlyPort p { x with request := some (Request.echoing token done (w :: todo)) } s t)
    (hl : (done ++ w :: todo).length ≤ 32) :
    OnlyPort p (if todo = [] then x.echoed token (done ++ [w])
      else { x with request := some (Request.echoing token (done ++ [w]) todo) }) s (t.goOn p) := by
  have request : (t.port p).request = some (Request.echoing token done (w :: todo)) := by rw [h.port]
  have size : 12 + (Request.echoing token done (w :: todo)).entries.flatten.length + 6 ≤ 1024 := by
    simp only [Request.echoing, length_markerEntries]
    simp only [List.length_append, List.length_cons] at hl
    omega
  rw [goOn_marker (w := w) request rfl (by simp [Request.echoing]) size, ← itemEnded_echoing]
  exact h.endItem _

/-- R157, R163: the markers left are answered one by one, by a step each. -/
theorem runs_echoing {x : Port} (hp : s.powered = true) (hn : s.pending = []) (hd : s.dueEvents = [])
    (hr : ∀ q, (s.port q).ready = false) (hx : x = { s.port p with collecting := false, silenceTimer := none })
    (token : Nat) (todo : List (BitVec 32)) :
    ∀ (done : List (BitVec 32)) (t : State), todo ≠ [] → (done ++ todo).length ≤ 32 →
      OnlyPort p { x with request := some (Request.echoing token done todo) } s t →
      ∃ u, Runs todo.length t u ∧ OnlyPort p (x.echoed token (done ++ todo)) s u := by
  induction todo with
  | nil => exact fun _ _ h => absurd rfl h
  | cons w todo ih =>
    intro done t _ hl h
    have powered : t.powered = true := by rw [h.rest]; exact hp
    have pending : t.pending = [] := by rw [h.rest]; exact hn
    have ready : ∀ q, (t.port q).ready = true ↔ q = p := fun q => by
      by_cases e : q = p
      · subst e
        simp [h.port, Port.ready, Request.echoing]
      · rw [h.others q e, hr q]
        simp [e]
    have due : t.dueEvents = [] := by
      refine dueEvents_none h.rest (fun q c hc => ?_) hd
      have doors : t.door = s.door := by rw [h.rest]; rfl
      have runCount : t.runCount = s.runCount := by rw [h.rest]
      rw [mem_portEvents, doors, runCount] at hc
      rw [mem_portEvents]
      by_cases e : q = p
      · subst e
        have spacing : (t.port q).governingSpacing = (s.port q).governingSpacing := by rw [h.port, hx]; rfl
        rw [spacing, h.port, hx] at hc
        obtain ⟨_, _, timer, _⟩ | ⟨_, _, _, request, waits, _⟩ | other := hc
        · cases timer
        · cases request
          cases waits
        · exact .inr (.inr other)
      · rwa [h.others q e] at hc
    have taken : step t = .next ({ t with schedule := t.schedule.tail }.goOn p) :=
      step_item powered pending (choice_only due ready)
    have moved : OnlyPort p { x with request := some (Request.echoing token done (w :: todo)) } s
        { t with schedule := t.schedule.tail } :=
      ⟨congrArg (fun v : State => { v with schedule := t.schedule.tail }) h.rest, h.others, h.port⟩
    have behind := goOn_echoing moved hl
    by_cases last : todo = []
    · subst last
      exact ⟨_, ⟨_, taken, rfl⟩, by simpa using behind⟩
    · rw [if_neg last] at behind
      obtain ⟨u, run, done'⟩ := ih (done ++ [w]) _ last (by simpa using hl) behind
      exact ⟨u, ⟨_, taken, run⟩, by simpa using done'⟩

theorem length_markers (words : List (BitVec 32)) : ((words.map Item.marker).map itemBytes).flatten.length = 5 * words.length := by
  induction words with
  | nil => rfl
  | cons w words ih =>
    rw [List.map_cons, List.map_cons, List.flatten_cons, List.length_append, ih]
    simp [itemBytes]
    omega

/-- R156, R157: the frame of a request at a free ACTIVE port begins it. -/
theorem begun_hunting (ha : (s.port p).active = true) (g : GoodRequest) :
    OnlyPort p { s.port p with
      collecting := false, silenceTimer := none
      request := some { token := g.token, items := g.items, index := 0, entries := [], wait := none } } s
      ((s.hunting p).beginRequest p g) := by
  let x : Port := { (s.hunting p).port p with
    active := true, silenceTimer := none
    request := some { token := g.token, items := g.items, index := 0, entries := [], wait := none } }
  have begun : (s.hunting p).beginRequest p g = { s.hunting p with ports := (s.hunting p).ports.set p x } :=
    modPort_plain (by rw [port_hunting]; exact ha.symm) rfl
  refine ⟨?_, fun q hq => ?_, ?_⟩ <;> rw [begun]
  · rfl
  · rw [port_setPort, if_neg hq, State.hunting, port_setPort, if_neg hq]
  · rw [port_setPort, if_pos rfl]
    dsimp only [x]
    rw [port_hunting, ← ha]

/-- R157: the end of a request that carries no item. -/
theorem goOn_empty (hr : (s.port p).request = some r) (hw : r.wait = none) (hi : r.items = []) :
    s.goOn p = { s with ports := s.ports.set p ((s.port p).concluded r false) } := by
  have finished : s.goOn p = s.finish p := by simp [State.goOn, hr, hw, State.takeItem, hi]
  rw [finished, State.finish, modPort_plain] <;> simp only [hr] <;> rfl

/-- Settles O16: the frame takes the first marker, and the markers left are answered one by one. -/
theorem markersAreEchoedInOrder : Obligations.MarkersAreEchoedInOrder := by
  intro s p token words hf ht hl room ha hr hd hn
  let g : GoodRequest := { token := token, items := words.map Item.marker }
  let x : Port := { s.port p with collecting := false, silenceTimer := none }
  have read : readRequest p (requestFrame p token (words.map Item.marker)) = some g := by
    rw [readRequest_requestFrame p p ht (by simpa using hl) (by simp [Item.wellFormed]), if_pos rfl]
    rw [length_requestFrame, length_markers]
    omega
  have taken : exec (.consoleFrame p (requestFrame p token (words.map Item.marker))) s =
      .next (((s.hunting p).beginRequest p g).goOn p) := by
    rw [exec_consoleFrame_taken hf.1 read room, State.takeRequest, port_hunting, if_neg (by simp [hf.2])]
  have begun : OnlyPort p { x with request := some (Request.echoing token [] words) } s
      ((s.hunting p).beginRequest p g) := begun_hunting ha g
  have answered : ∀ t, OnlyPort p (x.echoed token words) s t → t = { s with ports := t.ports, schedule := t.schedule } ∧
      (∀ q, q ≠ p → t.port q = s.port q) ∧ t.port p = { s.port p with
        collecting := false, silenceTimer := none
        queue := (s.port p).queue ++
          [{ token := token, busy := false, entries := words.map fun w => [4, 0] ++ bytesOf 4 w.toNat
             carriesRestart := false }] } := fun t h => by
    refine ⟨h.rest, h.others, h.port.trans ?_⟩
    dsimp only [Port.echoed, x]
    rw [hf.2]
    rfl
  rw [taken]
  cases words with
  | nil =>
    refine ⟨_, _, rfl, rfl, answered _ ?_⟩
    rw [goOn_empty (by rw [begun.port]) rfl rfl, begun.port]
    exact begun.set _
  | cons w words =>
    have first := goOn_echoing begun hl
    by_cases last : words = []
    · subst last
      exact ⟨_, _, rfl, rfl, answered _ (by simpa using first)⟩
    · rw [if_neg last] at first
      obtain ⟨u, run, done⟩ := runs_echoing hf.1 hn hd hr rfl token words [w] _ last hl first
      exact ⟨_, u, rfl, run, answered u done⟩

end Sys2Proof.Machine
end


section
/-! SUPPORT. Items that are refused: the malformed ones, and those of a MONITOR port. -/

namespace Sys2Proof.Machine

variable {s : State} {p : PortId} {it : Item}

/-! ### Malformed items -/

theorem numbered_none_iff (n v : Nat) : numbered n v = none ↔ v = 0 ∨ n < v := by
  refine ⟨fun h => ?_, numbered_none⟩
  by_contra none
  simp only [numbered] at h
  rw [dif_pos (by omega), if_neg (by omega)] at h
  cases h

theorem indexed_none_iff (n v : Nat) : indexed n v = none ↔ n ≤ v := by
  simp only [indexed]
  split <;> simp <;> omega

theorem directKind_none_iff (k : Nat) : directKind k = none ↔ k ≠ 1 ∧ k ≠ 2 := by
  simp only [directKind]
  split <;> simp_all

theorem fetchMalformed_iff (o : FetchObject) (a : Nat) :
    fetchMalformed o a = true ↔ o ∈ [.doorRecord, .doorSettings, .doorPending] ∧ (a = 0 ∨ 48 < a) ∨
      o = .zoneSummary ∧ (a = 0 ∨ 16 < a) ∨ o = .unit ∧ (a = 0 ∨ 4 < a) ∨ o = .portStatus ∧ 2 < a := by
  cases o <;> simp [fetchMalformed, numbered_none_iff, indexed_none_iff, Nat.lt_iff_add_one_le]

/-- R3, R158: the targets that no item of their kind can carry. -/
theorem target_malformed_iff (b : Bool) (w : Target) :
    Target.malformed b w = true ↔ (∃ n, w = .door n ∧ (n = 0 ∨ 48 < n)) ∨
      b = true ∧ ((∃ n, w = .holder n ∧ 4 < n) ∨ ∃ f v, w = .other f v) := by
  cases w <;> simp [Target.malformed, numbered_none_iff, indexed_none_iff, Nat.lt_iff_add_one_le]

theorem takesTarget_iff (o : OrderOp) :
    OrderOp.takesTarget o = true ↔ (∃ v, o = .service v) ∨ o ∈ [.close, .openDoor, .stop, .holdZones, .releaseZones,
      .releaseForeign, .resetFaults, .signalTest, .resetUnit, .ack, .ackPort, .ackUnit] := by
  cases o <;> simp [OrderOp.takesTarget]

theorem directMalformed_iff (b d k : Nat) :
    directMalformed b d k = true ↔ b = 0 ∨ 4 < b ∨ d = 0 ∨ 12 < d ∨ k ≠ 1 ∧ k ≠ 2 := by
  simp only [directMalformed, Bool.or_eq_true, Option.isNone_iff_eq_none, numbered_none_iff, directKind_none_iff, or_assoc]

/-- R158: an item command whose item is malformed. -/
theorem malformed_answered {c : Instr} (hi : c.item = some (p, it)) (hf : s.Free p) (hm : itemMalformed it = true) :
    ∃ t, exec c s = .next t ∧ t = { s with ports := t.ports } ∧ Answered p (plainEntry (itemCode it) .badItem 0) s t := by
  have ended := (itemCommand_malformed hf hm).trans (finishWith_one (request_taking s p it) _)
  obtain ⟨t, ht, hr, hans, -⟩ := item_done hf hi ended fun q => .refl _
  exact ⟨t, ht, by rw [hr, taking_rest], hans⟩

/-! ### A MONITOR port -/

theorem monitor_taking (h : (s.port p).role = .monitor) (it : Item) : (s.taking p it).commands p = false := by
  rw [State.commands, role_taking, h]
  rfl

theorem asCommand_monitor (h : s.commands p = false) (k : Answer) : s.asCommand p k = s.answer .refusedRole := by
  simp [State.asCommand, h]

/-- R83: each owner of an order asks for the role first. -/
theorem ordering_monitor (h : s.commands p = false) (hout : s.OutputsHold) (o : OrderOp) (t : Target) :
    s.ordering p t o = s.answer .refusedRole := by
  have outputs : (s.answer .refusedRole).withOutputs = s.answer .refusedRole := by
    simp only [Answer.withOutputs, State.answer, evalOutputs_eq_self hout]
  cases o <;>
    simp only [State.ordering, State.orderClose, State.orderOpen, State.orderStop, State.orderService,
      State.orderHoldZones, State.orderReleaseZones, State.orderReleaseForeign, State.orderResetFaults,
      State.orderSettingsHold, State.orderSignalTest, State.orderResetUnit, State.orderAck, State.orderAckPort,
      State.orderAckUnit, State.orderClockLoad, State.orderClockAdjust, State.orderClockArm, State.orderClockDisarm,
      State.orderSave, State.orderLock, State.orderRestart, asCommand_monitor h, outputs]

theorem setInstallation_monitor (h : s.commands p = false) (t : Target) (legal same : DoorId → Bool) (a : Bool)
    (write : DoorId → State → State) : s.setInstallation p t legal same a write = s.answer .refusedRole :=
  asCommand_monitor h _

/-- R83: each owner of a setting but reports enabled asks for the role first. -/
theorem setting_monitor (h : s.commands p = false) {w : SettingWrite} (hw : ∀ v, w ≠ .reportsEnabled v) (t : Target) :
    s.setting p t w = s.answer .refusedRole := by
  cases w with
  | reportsEnabled v => exact absurd rfl (hw v)
  | branch v => simp only [State.setting, State.setBranch]; split <;> exact asCommand_monitor h _
  | drop v => simp only [State.setting, State.setDrop]; split <;> exact asCommand_monitor h _
  | zone v => simp only [State.setting, State.setZone]; split <;> exact asCommand_monitor h _
  | unit v => simp only [State.setting, State.setUnit]; split <;> exact asCommand_monitor h _
  | _ => exact asCommand_monitor h _

theorem order_monitor {c : Instr} {o : OrderOp} {g : Target} (hi : c.item = some (p, .order o g)) (hf : s.Free p)
    (hm : itemMalformed (.order o g) = false) (hr : (s.port p).role = .monitor) (hout : s.OutputsHold) :
    ∃ t, exec c s = .next t ∧ t = { s with ports := t.ports } ∧ Answered p (orderEntry .refusedRole 0) s t := by
  have refused := ordering_monitor (monitor_taking hr (.order o g)) (outputsHold_taking hout p _) o g
  by_cases ho : o = .restart
  · subst ho
    have ended : s.itemCommand p (.order .restart g) =
        (s.taking p (.order .restart g)).endItem p (orderEntry .refusedRole 0) := by
      rw [itemCommand_executes hf hm (by simp [State.entrySize, hm]), State.executeItem, State.executeRestart,
        show (s.taking p (.order .restart g)).orderRestart p = _ from refused]
      rfl
    obtain ⟨t, ht, hrest, hans, -⟩ := item_done hf hi ended fun q => .refl _
    exact ⟨t, ht, by rw [hrest, taking_rest], hans⟩
  · exact order_refused hf hi hm refused ho

theorem direct_monitor {c : Instr} {b d k : Nat} (hi : c.item = some (p, .direct b d k)) (hf : s.Free p)
    (hm : itemMalformed (.direct b d k) = false) (hr : (s.port p).role = .monitor) :
    ∃ t, exec c s = .next t ∧ t = { s with ports := t.ports } ∧ Answered p (directEntry .refusedRole b d k []) s t := by
  have judged : (s.taking p (.direct b d k)).judgeDirect p b d k = .inl .refusedRole := by
    simp only [itemMalformed, directMalformed, Bool.or_eq_false_iff, Option.isNone_eq_false_iff, Option.isSome_iff_exists] at hm
    obtain ⟨⟨⟨_, hb⟩, ⟨_, hd⟩⟩, ⟨_, hk⟩⟩ := hm
    simp [State.judgeDirect, hb, hd, hk, monitor_taking hr]
  have ended : s.itemCommand p (.direct b d k) = (s.taking p (.direct b d k)).endItem p (directEntry .refusedRole b d k []) := by
    rw [itemCommand_executes hf hm (by simp [State.entrySize, hm]), State.executeItem, State.executeDirect, judged]
  obtain ⟨t, ht, hrest, hans, -⟩ := item_done hf hi ended fun q => .refl _
  exact ⟨t, ht, by rw [hrest, taking_rest], hans⟩

/-! ### Items that cannot be decoded -/

theorem readObject_none (n : Nat) : readObject n = none ↔ n = 0 ∨ 9 < n := by
  constructor
  · intro h
    by_contra range
    obtain ⟨low, high⟩ : 1 ≤ n ∧ n ≤ 9 := by omega
    interval_cases n <;> cases h
  · rintro (rfl | h)
    · rfl
    · obtain ⟨k, rfl⟩ := Nat.exists_eq_add_of_le' h
      rfl

theorem readOrder_none (n : Nat) (param : List Byte) : readOrder n param = none ↔ n = 0 ∨ 21 < n := by
  constructor
  · intro h
    by_contra range
    obtain ⟨low, high⟩ : 1 ≤ n ∧ n ≤ 21 := by omega
    interval_cases n <;> cases h
  · rintro (rfl | h)
    · rfl
    · obtain ⟨k, rfl⟩ := Nat.exists_eq_add_of_le' h
      rfl

theorem readSetting_none (n : Nat) (value : List Byte) : readSetting n value = none ↔ n = 0 ∨ 35 < n := by
  constructor
  · intro h
    by_contra range
    obtain ⟨low, high⟩ : 1 ≤ n ∧ n ≤ 35 := by omega
    interval_cases n <;> cases h
  · rintro (rfl | h)
    · rfl
    · obtain ⟨k, rfl⟩ := Nat.exists_eq_add_of_le' h
      rfl

theorem readItem_fetch_bad (l : List Byte) :
    readItem (1 :: l) = (.undecodable 1, []) ↔
      l.length < 2 ∨ ∃ o rest, l = o :: rest ∧ (o.toNat = 0 ∨ 9 < o.toNat) := by
  match l with
  | [] => simp [readItem]
  | [o] => simp [readItem]
  | o :: a :: rest =>
    have read : readItem (1 :: o :: a :: rest) = match readObject o.toNat with
      | some ob => (.fetch ob a.toNat, rest)
      | none => (.undecodable 1, []) := rfl
    rw [read]
    cases h : readObject o.toNat with
    | none => simpa using (readObject_none _).mp h
    | some ob =>
      have := mt (readObject_none o.toNat).mpr (by simp [h])
      simpa using this

theorem readItem_order_bad (l : List Byte) :
    readItem (2 :: l) = (.undecodable 2, []) ↔
      l.length < 10 ∨ ∃ o rest, l = o :: rest ∧ (o.toNat = 0 ∨ 21 < o.toNat) := by
  match l with
  | [] => simp [readItem]
  | [_] => simp [readItem]
  | [_, _] => simp [readItem]
  | [_, _, _] => simp [readItem]
  | o :: form :: v1 :: v0 :: rest =>
    have read : readItem (2 :: o :: form :: v1 :: v0 :: rest) =
        if rest.length < 6 then (.undecodable 2, [])
        else match readOrder o.toNat (rest.take 6) with
          | some op => (.order op (readTarget form.toNat (natOf [v1, v0])), rest.drop 6)
          | none => (.undecodable 2, []) := rfl
    rw [read]
    by_cases short : rest.length < 6
    · rw [if_pos short]
      simp only [List.length_cons, true_iff]
      omega
    · rw [if_neg short]
      have long : ¬ (o :: form :: v1 :: v0 :: rest).length < 10 := by simp only [List.length_cons]; omega
      cases h : readOrder o.toNat (rest.take 6) with
      | none => simpa [long] using .inr ((readOrder_none _ _).mp h)
      | some op =>
        have := mt (readOrder_none o.toNat (rest.take 6)).mpr (by simp [h])
        simpa [long] using ⟨by omega, by simpa using this⟩

theorem widthSuits_iff (k n : Nat) :
    widthSuits k n = true ↔ k = 17 ∨ k = 34 ∨ n = if k = 16 then 4 else if k = 35 then 3 else 2 := by
  have width : k = 16 ∨ k = 17 ∨ k = 34 ∨ k = 35 ∨
      (k ≠ 16 ∧ k ≠ 17 ∧ k ≠ 34 ∧ k ≠ 35) ∧ settingWidth k = some 2 := by
    simp only [settingWidth]
    split <;> simp_all
  obtain rfl | rfl | rfl | rfl | ⟨⟨h16, h17, h34, h35⟩, two⟩ := width
  · simp [widthSuits, settingWidth]
  · simp [widthSuits, settingWidth]
  · simp [widthSuits, settingWidth]
  · simp [widthSuits, settingWidth]
  · simp [widthSuits, two, h16, h17, h34, h35]

theorem readItem_set_bad (l : List Byte) :
    readItem (3 :: l) = (.undecodable 3, []) ↔
      l.length < 5 ∨ ∃ k form v1 v0 n rest, l = k :: form :: v1 :: v0 :: n :: rest ∧
        (rest.length < n.toNat ∨ k.toNat = 0 ∨ 35 < k.toNat ∨
          k.toNat ∉ [17, 34] ∧ n.toNat ≠ (if k = 16 then 4 else if k = 35 then 3 else 2)) := by
  match l with
  | [] => simp [readItem]
  | [_] => simp [readItem]
  | [_, _] => simp [readItem]
  | [_, _, _] => simp [readItem]
  | [_, _, _, _] => simp [readItem]
  | k :: form :: v1 :: v0 :: n :: rest =>
    have width : (k.toNat ∉ [17, 34] ∧ n.toNat ≠ (if k = 16 then 4 else if k = 35 then 3 else 2)) ↔
        widthSuits k.toNat n.toNat = false := by
      have code : ∀ m : Nat, m < 256 → (k = BitVec.ofNat 8 m ↔ k.toNat = m) := fun m hm => by
        rw [← BitVec.toNat_inj, BitVec.toNat_ofNat, Nat.mod_eq_of_lt hm]
      have h16 : k = 16#8 ↔ k.toNat = 16 := code 16 (by omega)
      have h35 : k = 35#8 ↔ k.toNat = 35 := code 35 (by omega)
      rw [Bool.eq_false_iff, ne_eq, ne_eq, widthSuits_iff]
      simp only [BitVec.ofNat_eq_ofNat, h16, h35, List.mem_cons, List.not_mem_nil, or_false, not_or, and_assoc]
    have long : ¬ (k :: form :: v1 :: v0 :: n :: rest).length < 5 := by simp
    rw [readItem_set]
    by_cases short : rest.length < n.toNat
    · simp [short]
    · rw [if_neg short]
      cases h : readSetting k.toNat (rest.take n.toNat) with
      | none =>
        have := (readSetting_none _ _).mp h
        simpa [long] using .inr (by tauto)
      | some w =>
        have known := mt (readSetting_none k.toNat (rest.take n.toNat)).mpr (by simp [h])
        rw [not_or] at known
        have bad : (∃ k' form' v1' v0' n' rest', k :: form :: v1 :: v0 :: n :: rest = k' :: form' :: v1' :: v0' :: n' :: rest' ∧
            (rest'.length < n'.toNat ∨ k'.toNat = 0 ∨ 35 < k'.toNat ∨
              k'.toNat ∉ [17, 34] ∧ n'.toNat ≠ (if k' = 16 then 4 else if k' = 35 then 3 else 2))) ↔
            widthSuits k.toNat n.toNat = false := by
          rw [← width]
          constructor
          · rintro ⟨_, _, _, _, _, _, same, bad⟩
            cases same
            tauto
          · exact fun bad => ⟨_, _, _, _, _, _, rfl, .inr (.inr (.inr bad))⟩
        rw [or_iff_right long, bad]
        cases widthSuits k.toNat n.toNat <;> simp

theorem readItem_short (l : List Byte) :
    (readItem (4 :: l) = (.undecodable 4, []) ↔ l.length < 4) ∧ (readItem (5 :: l) = (.undecodable 5, []) ↔ l.length < 2) ∧
      (readItem (6 :: l) = (.undecodable 6, []) ↔ l.length < 3) := by
  refine ⟨?_, ?_, ?_⟩
  · match l with
    | [] => simp [readItem]
    | [_] => simp [readItem]
    | [_, _] => simp [readItem]
    | [_, _, _] => simp [readItem]
    | _ :: _ :: _ :: _ :: _ => simp [readItem]
  · match l with
    | [] => simp [readItem]
    | [_] => simp [readItem]
    | _ :: _ :: _ => simp [readItem]
  · match l with
    | [] => simp [readItem]
    | [_] => simp [readItem]
    | [_, _] => simp [readItem]
    | _ :: _ :: _ :: _ => simp [readItem]

theorem readItem_unknown {code : Byte} (h : code.toNat = 0 ∨ 6 < code.toNat) (l : List Byte) :
    readItem (code :: l) = (.undecodable code, []) := by
  obtain h | h := h
  · simp only [readItem, h]
  · obtain ⟨k, hk⟩ := Nat.exists_eq_add_of_le' h
    simp only [readItem, hk]

/-! ### The room of a request -/

/-- R157: behind `room` items stands at most one, which cannot be decoded. -/
theorem readItems_room (n : Nat) : ∀ room l, (readItems n room l).length ≤ room + 1 ∧
    ∀ it, (readItems n room l)[room]? = some it → ∃ c, it = .undecodable c := by
  induction n with
  | zero => simp [readItems]
  | succ n ih =>
    intro room l
    match l, room with
    | [], room => simp [readItems]
    | code :: l, 0 => exact ⟨by simp [readItems], fun it h => ⟨code, by simpa [readItems] using h.symm⟩⟩
    | code :: l, room + 1 =>
      obtain ⟨length, last⟩ := ih room (readItem (code :: l)).2
      rw [readItems.eq_4 _ _ _ (List.cons_ne_nil _ _)]
      split
      · next c _ _ => exact ⟨by simp, fun it h => by simp at h⟩
      · next it rest _ h =>
        rw [h] at length last
        exact ⟨by simpa using length, fun x hx => last x (by simpa using hx)⟩

theorem readRequest_room {l : List Byte} {g : GoodRequest} (h : readRequest p l = some g) :
    g.items.length ≤ 33 ∧ ∀ it, g.items[32]? = some it → ∃ c, it = .undecodable c := by
  have read : ∃ items : List Byte, g.items = readItems items.length 32 items := by
    simp only [readRequest] at h
    split at h
    · split at h
      · split at h
        · split at h
          · cases h
            exact ⟨_, rfl⟩
          · cases h
        · cases h
      · cases h
    · cases h
  obtain ⟨items, read⟩ := read
  rw [read]
  exact readItems_room _ 32 items

/-- Settles O19: the malformed items by their kinds, the undecodable ones by their codes, and a MONITOR port's by the
owners, each of which asks for the role first. -/
theorem malformedAndMonitorItemsAreRefused : Obligations.MalformedAndMonitorItemsAreRefused := by
  refine ⟨fun s p c it hi hf => ⟨malformed_answered hi hf, fun hm hr hout => ⟨?_, ?_, ?_⟩⟩, fun it => ?_, fun code l => ?_,
    fun p l g => readRequest_room⟩
  · rintro ⟨o, t, rfl⟩
    exact order_monitor hi hf hm hr hout
  · rintro ⟨w, t, rfl, hw⟩
    exact set_unchanged hf hout hi hm (setting_monitor (monitor_taking hr _) hw t)
  · rintro b d k rfl
    exact direct_monitor hi hf hm hr
  · cases it with
    | fetch o a => exact fetchMalformed_iff o a
    | order o w =>
      simp only [itemMalformed, Bool.and_eq_true, takesTarget_iff, target_malformed_iff, true_and]
    | set _ w => simp [itemMalformed, target_malformed_iff]
    | marker _ => simp [itemMalformed]
    | delay ms =>
      simp only [itemMalformed, Bool.or_eq_true, decide_eq_true_eq, Nat.lt_one_iff]
      rfl
    | direct b d k => exact directMalformed_iff b d k
    | undecodable _ => simp [itemMalformed]
  · by_cases known : code.toNat = 0 ∨ 6 < code.toNat
    · rw [readItem_unknown known]
      simpa using known.imp_right .inl
    · have codes : code = 1 ∨ code = 2 ∨ code = 3 ∨ code = 4 ∨ code = 5 ∨ code = 6 := by
        bv_omega
      obtain rfl | rfl | rfl | rfl | rfl | rfl := codes
      · simpa using readItem_fetch_bad l
      · simpa using readItem_order_bad l
      · simpa using readItem_set_bad l
      · simpa using (readItem_short l).1
      · simpa using (readItem_short l).2.1
      · simpa using (readItem_short l).2.2

end Sys2Proof.Machine
end


section
/-! SUPPORT. Fields at their places in runs of bytes: station frames, responses, reports and door entries. -/

namespace Sys2Proof.Machine

variable {s : State} {p : PortId}

/-! ### Fields -/

theorem laidOut_nil (l : List Byte) : LaidOut l [] := fun _ h => nomatch h

theorem laidOut_cons {l : List Byte} {x : Nat × List Byte} {layout : List (Nat × List Byte)} :
    LaidOut l (x :: layout) ↔ field l x.1 x.2.length = x.2 ∧ LaidOut l layout := by
  simp [LaidOut]

@[simp] theorem field_none (l : List Byte) (k : Nat) : field l k 0 = [] := by simp [field]

@[simp] theorem field_cons_succ (b : Byte) (l : List Byte) (k n : Nat) : field (b :: l) (k + 1) n = field l k n := rfl

@[simp] theorem field_cons_front (b : Byte) (l : List Byte) (n : Nat) : field (b :: l) 0 (n + 1) = b :: field l 0 n := rfl

/-- A field behind a part of the run. -/
@[simp] theorem field_behind {x l : List Byte} {k n : Nat} (h : x.length ≤ k) : field (x ++ l) k n = field l (k - x.length) n := by
  rw [field, field, List.drop_append, List.drop_of_length_le h, List.nil_append]

/-- The field that begins a run. -/
@[simp] theorem field_front {x l : List Byte} {n : Nat} (h : x.length = n) : field (x ++ l) 0 n = x := by
  rw [field, List.drop_zero, List.take_left' h]

@[simp] theorem field_all {x : List Byte} {n : Nat} (h : x.length = n) : field x 0 n = x := by
  rw [field, List.drop_zero, List.take_of_length_le (Nat.le_of_eq h)]

@[simp] theorem natOf_singleton (b : Byte) : natOf [b] = b.toNat := by simp [natOf]

@[simp] theorem length_flag (b : Bool) : (flag b).length = 1 := by simp [flag]

@[simp] theorem length_optBytes (k : Nat) (x : Option Nat) : (optBytes k x).length = k := by
  cases x <;> simp [optBytes, allOnes]

@[simp] theorem length_crcBytes (l : List Byte) : (crcBytes l).length = 2 := length_bytesOf 2 _

/-! ### Station frames -/

theorem bit_eq (b : Bool) (k : Nat) : bit b k = b.toNat * 2 ^ k := by cases b <;> simp [bit]

theorem testBit_of_div {n k : Nat} {b : Bool} (h : n / 2 ^ k % 2 = b.toNat) : n.testBit k = b := by
  rw [Nat.testBit_eq_decide_div_mod_eq, h]
  cases b <;> rfl

/-- Section 12.6: the fields of the signals byte. -/
theorem signalsByte_fields (f : CommandFrame) :
    f.signalsByte.toNat % 4 = f.drive.code ∧ f.signalsByte.toNat.testBit 2 = f.signals.sounder ∧
    f.signalsByte.toNat / 8 % 4 = f.signals.beacon.code ∧ f.signalsByte.toNat.testBit 5 = f.signals.lamp ∧
    f.signalsByte.toNat < 64 := by
  have drive : f.drive.code < 3 := by rcases f.drive with _ | _ | _ <;> decide
  have beacon : f.signals.beacon.code < 3 := by cases f.signals.beacon <;> decide
  have sounder := f.signals.sounder.toNat_lt
  have lamp := f.signals.lamp.toNat_lt
  have number : f.signalsByte.toNat =
      f.drive.code + f.signals.sounder.toNat * 4 + f.signals.beacon.code * 8 + f.signals.lamp.toNat * 32 := by
    rw [CommandFrame.signalsByte, toNat_byteOf, bit_eq, bit_eq, Nat.mod_eq_of_lt (by omega)]
    rfl
  rw [number]
  exact ⟨by omega, testBit_of_div (by omega), by omega, testBit_of_div (by omega), by omega⟩

/-- Section 12.6: a reply frame of at most 8 data bytes, read. -/
theorem readStationFrame_bytes (drop echo status c1 c0 k1 k0 : Byte) {data : List Byte} (h : data.length ≤ 8) :
    readStationFrame ([0x3C, drop, echo, status, c1, c0, byteOf data.length] ++ data ++ [k1, k0]) =
      some { drop := drop.toNat, kind := echo.toNat / 16, sequence := echo.toNat % 16, status := status
             count := c1.toNat * 256 + c0.toNat, data := data
             crcGood := [k1, k0] = crcBytes ([drop, echo, status, c1, c0, byteOf data.length] ++ data) } := by
  have length : (byteOf data.length).toNat = data.length := by rw [toNat_byteOf, Nat.mod_eq_of_lt (by omega)]
  have count : natOf [c1, c0] = c1.toNat * 256 + c0.toNat := by simp [natOf]
  simp only [List.cons_append, List.nil_append, readStationFrame, length, List.take_left, List.drop_left, count,
    List.length_append]
  rw [if_pos]
  simpa [Config.stationStart] using h

/-- Settles O12: the command frame field by field, and the reply frame as it is read. -/
theorem stationFramesAreLaidOut : Obligations.StationFramesAreLaidOut := by
  refine ⟨fun f hs => ?_, fun drop echo status c1 c0 k1 k0 data h => readStationFrame_bytes drop echo status c1 c0 k1 k0 h,
    by decide +kernel⟩
  obtain ⟨drive, sounder, beacon, lamp, below⟩ := signalsByte_fields f
  have kind : f.kind.code < 3 := by cases f.kind <;> decide
  have echo : natOf (field f.bytes 2 1) = f.kind.code * 16 + f.sequence := by
    change natOf [byteOf (f.kind.code * 16 + f.sequence)] = _
    rw [natOf_singleton, toNat_byteOf, Nat.mod_eq_of_lt (by omega)]
  have signals : natOf (field f.bytes 3 1) = f.signalsByte.toNat := natOf_singleton _
  rw [echo, signals]
  refine ⟨rfl, ?_, ?_, by omega, ?_, sounder, ?_, lamp, below⟩
  · simp only [laidOut_cons]
    exact ⟨rfl, rfl, rfl, laidOut_nil _⟩
  · rw [show (f.kind.code * 16 + f.sequence) / 16 = f.kind.code by omega]
    cases f.kind <;> rfl
  · rw [drive]
    rcases f.drive with _ | _ | _ <;> rfl
  · rw [beacon]
    cases f.signals.beacon <;> rfl

end Sys2Proof.Machine
end


section
/-! SUPPORT. Responses, reports, summary blocks and door entries, field by field. -/

namespace Sys2Proof.Machine

variable {s : State} {p : PortId}

/-- Section 12.1: a console frame, part by part. -/
theorem consoleFrameBytes_eq (body : List Byte) :
    consoleFrameBytes body =
      [0xC3] ++ (bytesOf 2 body.length ++ (body ++ crcBytes (bytesOf 2 body.length ++ body))) := by
  rw [consoleFrameBytes, List.append_assoc]
  rfl

theorem length_consoleFrameBytes (body : List Byte) : (consoleFrameBytes body).length = 5 + body.length := by
  simp [consoleFrameBytes_eq, length_crcBytes]
  omega

/-- R187: the CRC of a console frame is that of the bytes from the length on. -/
theorem consoleFrameBytes_crc {body : List Byte} {n : Nat} (h : n = 2 + body.length) :
    field (consoleFrameBytes body) 1 n = bytesOf 2 body.length ++ body := by
  rw [consoleFrameBytes_eq, field_behind (Nat.le_refl 1), ← List.append_assoc (bytesOf 2 _)]
  exact field_front (by simp [h])

/-- Section 12.1: the start, the length, the body and the CRC of a console frame. -/
theorem consoleFrameBytes_fields {body : List Byte} {n : Nat} (h : body.length = n) :
    field (consoleFrameBytes body) 0 1 = [0xC3] ∧ field (consoleFrameBytes body) 1 2 = bytesOf 2 n ∧
      (∀ k m, k + m ≤ n → field (consoleFrameBytes body) (3 + k) m = field body k m) ∧
      field (consoleFrameBytes body) (3 + n) 2 = crcBytes (field (consoleFrameBytes body) 1 (2 + n)) := by
  subst h
  refine ⟨rfl, ?_, fun k m hm => ?_, ?_⟩
  · rw [consoleFrameBytes_eq, field_behind (Nat.le_refl 1)]
    exact field_front (length_bytesOf 2 _)
  · have start : (3 + k) - 1 - 2 = k := by omega
    rw [consoleFrameBytes_eq, field_behind (x := [0xC3]) (by rw [List.length_singleton]; omega),
      field_behind (x := bytesOf 2 _) (by rw [length_bytesOf, List.length_singleton]; omega), length_bytesOf]
    simp only [List.length_cons, List.length_nil, start, field]
    rw [List.drop_append_of_le_length (by omega), List.take_append_of_le_length (by rw [List.length_drop]; omega)]
  · rw [consoleFrameBytes_crc rfl, consoleFrameBytes_eq, ← List.append_assoc (bytesOf 2 _), ← List.append_assoc [0xC3],
      field_behind (by simp only [List.length_append, length_bytesOf, List.length_singleton]; omega)]
    have start : 3 + body.length - ([0xC3] ++ (bytesOf 2 body.length ++ body)).length = 0 := by simp; omega
    rw [start]
    exact field_all (length_crcBytes _)

theorem response_laidOut {r : Response} :
    (r.frame p).length = 12 + r.entries.flatten.length ∧
      LaidOut (r.frame p) [(0, [0xC3]), (1, bytesOf 2 (7 + r.entries.flatten.length)), (3, [2, 2, byteOf p.val]),
        (6, bytesOf 2 r.token), (8, [if r.busy then 1 else 0]), (9, [byteOf r.entries.length]), (10, r.entries.flatten),
        (10 + r.entries.flatten.length, crcBytes (field (r.frame p) 1 (9 + r.entries.flatten.length)))] := by
  let body : List Byte := [2, 2, byteOf p.val] ++ (bytesOf 2 r.token ++ ([if r.busy then 1 else 0] ++
    ([byteOf r.entries.length] ++ r.entries.flatten)))
  have frame : r.frame p = consoleFrameBytes body := by
    have busy : byteOf (bit r.busy 0) = if r.busy then 1 else 0 := by cases r.busy <;> rfl
    simp only [Response.frame, body, busy, List.append_assoc, List.cons_append, List.nil_append]
    rfl
  have length : body.length = 7 + r.entries.flatten.length := by
    simp only [body, List.length_append, length_bytesOf, List.length_cons, List.length_nil]
    omega
  obtain ⟨start, len, inner, crc⟩ := consoleFrameBytes_fields length
  rw [frame, length_consoleFrameBytes, length]
  refine ⟨by omega, ?_⟩
  simp only [laidOut_cons]
  refine ⟨start, len, inner 0 3 (by omega), (inner 3 2 (by omega)).trans ?_, (inner 5 1 (by omega)).trans ?_,
    (inner 6 1 (by omega)).trans ?_, (inner 7 _ (by omega)).trans ?_, ?_, laidOut_nil _⟩
  · simp [body]
  · simp [body]
  · simp [body]
  · simp [body]
  · rw [show 3 + (7 + r.entries.flatten.length) = 10 + r.entries.flatten.length by omega,
      show 2 + (7 + r.entries.flatten.length) = 9 + r.entries.flatten.length by omega] at crc
    rwa [length_crcBytes]

/-- The bytes of entries that are all of one length. -/
theorem length_flatten_of {l : List (List Byte)} {n : Nat} (h : ∀ e ∈ l, e.length = n) :
    l.flatten.length = n * l.length := by
  rw [List.length_flatten, List.map_congr_left h]
  simp [Nat.mul_comm]

theorem report_laidOut {w : Report} (hq : w.sequence < 256) (hs : w.summary.length = 26)
    (he : ∀ e ∈ w.entries, e.length = 10) :
    (w.frame p).length = 43 + 10 * w.entries.length ∧
      LaidOut (w.frame p) [(0, [0xC3]), (1, bytesOf 2 (38 + 10 * w.entries.length)), (3, [2, 3, byteOf p.val]),
        (6, [0, byteOf w.sequence]), (8, bytesOf 2 w.stamp.day), (10, bytesOf 4 w.stamp.ms), (14, w.summary),
        (40, [byteOf w.entries.length]), (41, w.entries.flatten),
        (41 + 10 * w.entries.length, crcBytes (field (w.frame p) 1 (40 + 10 * w.entries.length)))] := by
  have entries := length_flatten_of he
  have sequence : bytesOf 2 w.sequence = [0, byteOf w.sequence] := by
    rw [bytesOf_two, Nat.div_eq_of_lt hq]
    rfl
  let body : List Byte := [2, 3, byteOf p.val] ++ ([0, byteOf w.sequence] ++ (bytesOf 2 w.stamp.day ++
    (bytesOf 4 w.stamp.ms ++ (w.summary ++ ([byteOf w.entries.length] ++ w.entries.flatten)))))
  have frame : w.frame p = consoleFrameBytes body := by
    simp only [Report.frame, body, sequence, Stamp.bytes, List.append_assoc, List.cons_append, List.nil_append]
    rfl
  have length : body.length = 38 + 10 * w.entries.length := by
    simp only [body, List.length_append, length_bytesOf, List.length_cons, List.length_nil, hs, entries]
    omega
  obtain ⟨start, len, inner, crc⟩ := consoleFrameBytes_fields length
  rw [frame, length_consoleFrameBytes, length]
  refine ⟨by omega, ?_⟩
  simp only [laidOut_cons]
  refine ⟨start, len, inner 0 3 (by omega), (inner 3 2 (by omega)).trans ?_, (inner 5 2 (by omega)).trans ?_,
    (inner 7 4 (by omega)).trans ?_, ?_, (inner 37 1 (by omega)).trans ?_, ?_, ?_, laidOut_nil _⟩
  · simp [body]
  · simp [body]
  · simp [body]
  · rw [hs]
    refine (inner 11 26 (by omega)).trans ?_
    simp [body, hs]
  · simp [body, hs]
  · rw [entries]
    refine (inner 38 _ (by omega)).trans ?_
    rw [← entries]
    simp [body, hs]
  · rw [show 3 + (38 + 10 * w.entries.length) = 41 + 10 * w.entries.length by omega,
      show 2 + (38 + 10 * w.entries.length) = 40 + 10 * w.entries.length by omega] at crc
    rwa [length_crcBytes]

/-! ### The summary block and the door entry (section 12.5) -/

/-- Section 12.5: the flags of a byte of at most eight, told by their places. -/
theorem summaryBlock_laidOut (s : State) (n : Nat) :
    (s.summaryBlock n).length = 26 ∧
      LaidOut (s.summaryBlock n) [(0, bytesOf 2 s.holds.union.toNat), (2, bytesOf 2 s.holds.console[0].toNat),
        (4, bytesOf 2 s.holds.console[1].toNat), (6, bytesOf 2 s.holds.console[2].toNat),
        (8, bytesOf 2 s.holds.line.toNat), (10, bytesOf 2 s.holds.start.toNat),
        (12, unitIds.map fun u => byteOf (UnitState.code (s.unit u).state)),
        (19, branchIds.map fun b => byteOf (s.branch b).roundCounter),
        (25, [byteOf n])] ∧
      field (s.summaryBlock n) 16 1 = [byteOf s.attentionBits] ∧ field (s.summaryBlock n) 17 1 = [byteOf s.inputBits] ∧
      field (s.summaryBlock n) 18 1 = [byteOf s.outputs.bits] ∧ field (s.summaryBlock n) 23 1 = [byteOf s.portBits] ∧
      field (s.summaryBlock n) 24 1 = [byteOf (bit s.store.imageFault 0)] := by
  have units : unitIds = [0, 1, 2, 3] := rfl
  have branches : branchIds = [0, 1, 2, 3] := rfl
  simp [State.summaryBlock, maskBytes, laidOut_cons, laidOut_nil, units, branches]

theorem entryBytes_laidOut (d : Door) (i : DoorId) :
    (d.entryBytes i).length = 10 ∧
      LaidOut (d.entryBytes i) [(0, [byteOf (number i)]), (2, [byteOf d.state.code]),
        (3, [byteOf (Indication.code d.indication)]),
        (4, match d.position with
          | some v => bytesOf 2 v
          | none => [0xFF, 0xFF]), (6, bytesOf 2 d.faults.toNat), (8, bytesOf 2 d.unacked.toNat)] ∧
      field (d.entryBytes i) 1 1 = [byteOf (bit d.installed 0 + bit d.inService 1 + bit d.lateForecast 2)] := by
  cases h : d.position with
  | none => simp [h, Door.entryBytes, laidOut_cons, laidOut_nil, optBytes, faultBytes, allOnes]
  | some v => simp [h, Door.entryBytes, laidOut_cons, laidOut_nil, optBytes, faultBytes]

/-! Flags: up to six in a byte, each at its place. -/

theorem testBit_flags (a b c d e f : Bool) :
    let n := (byteOf (bit a 0 + bit b 1 + bit c 2 + bit d 3 + bit e 4 + bit f 5)).toNat
    n.testBit 0 = a ∧ n.testBit 1 = b ∧ n.testBit 2 = c ∧ n.testBit 3 = d ∧ n.testBit 4 = e ∧ n.testBit 5 = f := by
  revert a b c d e f
  decide

theorem testBit_threeFlags (a b c : Bool) :
    let n := (byteOf (bit a 0 + bit b 1 + bit c 2)).toNat
    n.testBit 0 = a ∧ n.testBit 1 = b ∧ n.testBit 2 = c := by
  revert a b c
  decide

theorem testBit_fourFlags (a b c d : Bool) :
    let n := (byteOf (bit a 0 + bit b 1 + bit c 2 + bit d 3)).toNat
    n.testBit 0 = a ∧ n.testBit 1 = b ∧ n.testBit 2 = c ∧ n.testBit 3 = d := by
  revert a b c d
  decide

/-- Settles O13: each frame and block by its parts, and its flags by their places. -/
theorem responsesAndReportsAreLaidOut : Obligations.ResponsesAndReportsAreLaidOut := by
  intro s p r w i n
  refine ⟨fun _ _ => response_laidOut, fun hq hs _ he => report_laidOut hq hs he, ?_, ?_, fun h => ?_, fun h => ?_⟩
  · obtain ⟨length, fields, attention, inputs, outputs, ports, image⟩ := summaryBlock_laidOut s n
    rw [attention, inputs, outputs, ports, image]
    simp only [natOf_singleton]
    obtain ⟨a0, a1, a2, a3⟩ := testBit_fourFlags (s.unit 0).attention (s.unit 1).attention (s.unit 2).attention
      (s.unit 3).attention
    obtain ⟨i0, i1, i2, i3, i4, i5⟩ := testBit_flags s.closeAll.value s.cutoff.value (s.unit 0).pressLow.value
      (s.unit 1).pressLow.value (s.unit 2).pressLow.value (s.unit 3).pressLow.value
    obtain ⟨o0, o1, o2⟩ := testBit_threeFlags s.outputs.fault s.outputs.closure s.outputs.allClosed
    obtain ⟨p0, p1, p2, p3, p4, p5⟩ := testBit_flags (!(s.port 0).active) (!(s.port 1).active) (!(s.port 2).active)
      (s.port 0).attention (s.port 1).attention (s.port 2).attention
    refine ⟨length, fields, by cases s.store.imageFault <;> rfl, fun u => ?_, i0, i1, fun u => ?_, o0, o1, o2, fun q => ?_⟩
    · match u with
      | 0 => exact a0
      | 1 => exact a1
      | 2 => exact a2
      | 3 => exact a3
    · match u with
      | 0 => exact i2
      | 1 => exact i3
      | 2 => exact i4
      | 3 => exact i5
    · match q with
      | 0 => exact ⟨p0, p3⟩
      | 1 => exact ⟨p1, p4⟩
      | 2 => exact ⟨p2, p5⟩
  · obtain ⟨length, fields, flags⟩ := entryBytes_laidOut (s.door i) i
    rw [flags, natOf_singleton]
    exact ⟨length, fields, testBit_threeFlags _ _ _⟩
  · simp only [State.transmission, h]
    rfl
  · simp only [State.transmission, h]
    rfl

end Sys2Proof.Machine
end


section
/-! SUPPORT. FETCH entries, field by field. -/

namespace Sys2Proof.Machine

variable {s : State} {p : PortId}

/-! ### Parts of fixed length -/

@[simp] theorem length_rawBytes (x : Option Int) : (rawBytes x).length = 2 := by
  cases x <;> simp [rawBytes, signedBytes]

@[simp] theorem length_faultBytes (f : FaultSet) : (faultBytes f).length = 2 := length_bytesOf 2 _

@[simp] theorem length_maskBytes (m : ZoneSet) : (maskBytes m).length = 2 := length_bytesOf 2 _

@[simp] theorem length_remainingBytes (now : Nat) (x : Option Nat) : (remainingBytes now x).length = 4 := length_optBytes 4 _

@[simp] theorem length_stampBytes (n k : Nat) (x : Option Stamp) : (stampBytes n k x).length = 6 := by
  cases x <;> simp [stampBytes, Stamp.bytes, allOnes]

@[simp] theorem length_labelBytes (n : Nat) (label : List Byte) : (labelBytes n label).length = 8 := by
  simp [labelBytes]

@[simp] theorem length_strokeBytes (n : Nat) (x : Option Stroke) : (strokeBytes n x).length = 30 := by
  cases x <;> simp [strokeBytes]

/-- R190: the characters of a label begin its field. -/
theorem labelBytes_label (n : Nat) (label rest : List Byte) :
    field (labelBytes n label ++ rest) 0 (label.take 8).length = label.take 8 := by
  have short : (label.take 8).length ≤ 8 := List.length_take_le 8 label
  rw [field, List.drop_zero, List.take_append_of_le_length (by rw [length_labelBytes]; exact short), labelBytes,
    List.take_take, Nat.min_eq_left short, List.take_append_of_le_length (by simp)]
  simp

/-- R190: the entry of a FETCH, its header and its object. -/
theorem fetchEntry_eq (s : State) (o : FetchObject) (a : Nat) :
    s.fetchEntry o a = [1, 0, byteOf (FetchObject.code o), byteOf a] ++ s.objectBytes o a := rfl

/-! ### DOOR record -/

/-- R190: the parts of a DOOR record. -/
theorem recordBytes_eq (d : Door) (n now : Nat) :
    d.recordBytes n now = flag d.installed ++
      ([byteOf (number d.branch), byteOf (number d.drop), byteOf (number d.zone), byteOf (number d.unit)] ++
      (bytesOf 2 d.closedCount ++ (bytesOf 2 d.openCount ++ ([byteOf d.label.length] ++ (labelBytes n d.label ++
      (flag d.inService ++ ([byteOf d.state.code, byteOf d.indication.code] ++ ([d.inputsByte] ++ (optBytes 2 d.position ++
      (optBytes 2 d.lastCount ++ (rawBytes d.lastRaw ++ (faultBytes d.faults ++ (faultBytes d.unacked ++
      (strokeBytes n d.stroke ++ ([byteOf (Drive.code d.lastDriven)] ++ (optBytes 8 d.driveOff ++
      (remainingBytes now d.reclose ++ (optBytes 4 d.lastStrokeTime ++ (bytesOf 2 d.strokeCount ++
      (stampBytes n 0 d.lastClosed ++ (stampBytes n 2 d.lastFault ++ ([byteOf ((d.lastSource.map Source.code).getD 0)] ++
      List.replicate 102 0)))))))))))))))))))))) := by
  simp only [Door.recordBytes, Door.installationBytes, Door.statusBytes, Door.historyBytes, List.append_assoc,
    List.cons_append, List.nil_append]

theorem recordEntry_eq (s : State) (i : DoorId) : s.fetchEntry .doorRecord (number i) =
    [1, 0, 1, byteOf (number i)] ++ (s.door i).recordBytes s.freeCount s.runCount := by
  rw [fetchEntry_eq, State.objectBytes, numbered_number]
  rfl

/-- R190: the parts of a DOOR record, each at its place in the entry. -/
theorem record_laidOut (s : State) (i : DoorId) {d : Door} (hd : d = s.door i) :
      LaidOut (s.fetchEntry .doorRecord (number i))
        [(4, flag d.installed), (5, [byteOf (number d.branch), byteOf (number d.drop), byteOf (number d.zone),
          byteOf (number d.unit)]), (9, bytesOf 2 d.closedCount), (11, bytesOf 2 d.openCount),
        (13, [byteOf d.label.length]), (14, d.label.take 8), (22, flag d.inService),
        (23, [byteOf d.state.code, byteOf (Indication.code d.indication)]),
        (25, [byteOf (bit d.closedSwitch 0 + bit d.openSwitch 1 + bit d.localOpen 2 + bit d.localClose 3 +
          bit (decide (d.phase = .settled)) 4)]),
        (26, optBytes 2 d.position), (28, optBytes 2 d.lastCount), (30, rawBytes d.lastRaw),
        (32, bytesOf 2 d.faults.toNat), (34, bytesOf 2 d.unacked.toNat), (66, [byteOf (Drive.code d.lastDriven)]),
        (67, optBytes 8 d.driveOff), (75, optBytes 4 (d.reclose.map fun e => e - s.runCount)),
        (79, optBytes 4 d.lastStrokeTime), (83, bytesOf 2 d.strokeCount),
        (97, [byteOf ((d.lastSource.map Source.code).getD 0)]), (98, List.replicate 102 0)] := by
  rw [recordEntry_eq, ← hd, recordBytes_eq]
  simp only [laidOut_cons]
  refine ⟨?_, ?_, ?_, ?_, ?_, ?_, ?_, ?_, ?_, ?_, ?_, ?_, ?_, ?_, ?_, ?_, ?_, ?_, ?_, ?_, ?_, laidOut_nil _⟩
  case refine_6 =>
    have label := labelBytes_label s.freeCount d.label
    rw [List.length_take] at label
    simp [label]
  all_goals simp [Door.inputsByte, faultBytes, remainingBytes]

/-- R190: the stroke record in a DOOR record, all zero when absent. -/
theorem record_noStroke (s : State) (i : DoorId) (h : (s.door i).stroke = none) :
    field (s.fetchEntry .doorRecord (number i)) 36 30 = List.replicate 30 0 := by
  rw [recordEntry_eq, recordBytes_eq]
  simp [h, strokeBytes]

theorem record_stroke (s : State) (i : DoorId) {r : Stroke} (h : (s.door i).stroke = some r) :
    LaidOut (s.fetchEntry .doorRecord (number i))
        [(36, [1, byteOf (Dir.code r.direction), byteOf (Cause.code r.cause)]), (40, [byteOf r.cls]),
        (41, optBytes 8 r.driveIssued), (49, optBytes 2 r.startPosition),
        (51, optBytes 2 (r.mark.map fun m => m.position)), (53, optBytes 8 (r.mark.map fun m => m.instant)),
        (61, optBytes 4 r.estimate), (65, flag r.lateForecast)] ∧
      ∀ q, r.cause = .console q → field (s.fetchEntry .doorRecord (number i)) 39 1 = [byteOf q.val] := by
  rw [recordEntry_eq, recordBytes_eq]
  refine ⟨?_, fun q hq => ?_⟩
  · simp only [laidOut_cons]
    refine ⟨?_, ?_, ?_, ?_, ?_, ?_, ?_, ?_, laidOut_nil _⟩
    all_goals simp [h, strokeBytes]
  · simp [h, strokeBytes, hq, Cause.portByte]

/-- R190: a stamp in its field. -/
theorem stampBytes_fields (n k : Nat) (x : Option Stamp) (rest : List Byte) :
    (∀ t, x = some t → field (stampBytes n k x ++ rest) 0 2 = bytesOf 2 t.day ∧
      field (stampBytes n k x ++ rest) 2 4 = bytesOf 4 t.ms) ∧
      (x = none → field (stampBytes n k x ++ rest) 2 4 = List.replicate 4 0xFF) := by
  refine ⟨?_, ?_⟩
  · rintro t rfl
    simp [stampBytes, Stamp.bytes]
  · rintro rfl
    simp [stampBytes, allOnes]

/-- R190: the two stamps of a DOOR record. -/
theorem record_stamps (s : State) (i : DoorId) {d : Door} (hd : d = s.door i) :
    ∀ x ∈ [(d.lastClosed, 85), (d.lastFault, 91)],
      (∀ t, x.1 = some t → LaidOut (s.fetchEntry .doorRecord (number i)) [(x.2, bytesOf 2 t.day), (x.2 + 2, bytesOf 4 t.ms)]) ∧
      (x.1 = none → field (s.fetchEntry .doorRecord (number i)) (x.2 + 2) 4 = List.replicate 4 0xFF) := by
  rw [recordEntry_eq, ← hd, recordBytes_eq]
  simp only [List.mem_cons, List.not_mem_nil, or_false, forall_eq_or_imp, forall_eq, laidOut_cons, laidOut_nil, and_true,
    length_bytesOf]
  refine ⟨?_, ?_⟩
  · simpa using stampBytes_fields s.freeCount 0 d.lastClosed _
  · simpa using stampBytes_fields s.freeCount 2 d.lastFault _

/-! ### DOOR settings and DOOR pending -/

/-- One of a run of parts that are all of one length. -/
theorem field_flatten {c : Nat} {e : List Byte} (l : List (List Byte)) (rest : List Byte) (h : ∀ x ∈ l, x.length = c) :
    ∀ k, l[k]? = some e → field (l.flatten ++ rest) (c * k) c = e := by
  induction l with
  | nil => intro k hk; simp at hk
  | cons x l ih =>
    have length := h x List.mem_cons_self
    intro k hk
    rw [List.flatten_cons, List.append_assoc]
    cases k with
    | zero =>
      obtain rfl : x = e := by simpa using hk
      exact field_front length
    | succ k =>
      rw [field_behind (by rw [length, Nat.mul_succ]; omega), length, Nat.mul_succ, Nat.add_sub_cancel]
      exact ih (fun y hy => h y (List.mem_cons_of_mem x hy)) k (by simpa using hk)

theorem values_at {α : Type} (r : OpRow α) {k : Nat} {m : OpSetting} (h : OpSetting.all[k]? = some m) :
    r.values[k]? = some (r.get m) := by
  rw [OpRow.values, List.getElem?_map, h]
  rfl

theorem length_values {α : Type} (r : OpRow α) : r.values.length = 10 := rfl

theorem presenceMask_lt (l : List (Option Nat)) : presenceMask l < 2 ^ l.length := by
  induction l with
  | nil => simp [presenceMask]
  | cons v l ih =>
    rw [presenceMask, List.length_cons, Nat.pow_succ]
    split <;> omega

/-- R190: a bit of the presence mask. -/
theorem testBit_presenceMask (l : List (Option Nat)) : ∀ k v, l[k]? = some v → (presenceMask l).testBit k = v.isSome := by
  induction l with
  | nil => intro k v h; simp at h
  | cons x l ih =>
    intro k v h
    cases k with
    | zero =>
      obtain rfl : x = v := by simpa using h
      cases x <;> simp [presenceMask, Nat.testBit_zero]
    | succ k =>
      rw [Nat.testBit_succ, ← ih k v (by simpa using h), presenceMask]
      congr 1
      split <;> omega

theorem settings_fields (s : State) (i : DoorId) {d : Door} (hd : d = s.door i) :
    (∀ k : Fin 10, ∀ m, OpSetting.all[k.val]? = some m →
        field (s.fetchEntry .doorSettings (number i)) (4 + 2 * k.val) 2 = bytesOf 2 (d.settings.get m) ∧
        field (s.fetchEntry .doorPending (number i)) (6 + 2 * k.val) 2 = bytesOf 2 ((d.pending.get m).getD 0) ∧
        (natOf (field (s.fetchEntry .doorPending (number i)) 4 2)).testBit k.val = (d.pending.get m).isSome) ∧
      field (s.fetchEntry .doorPending (number i)) 26 1 = flag s.settingsHold := by
  have settings : s.fetchEntry .doorSettings (number i) = [1, 0, 2, byteOf (number i)] ++ ((d.settings.values.map (bytesOf 2)).flatten ++ []) := by
    rw [fetchEntry_eq, State.objectBytes, numbered_number, List.append_nil, hd]
    rfl
  have pending : s.fetchEntry .doorPending (number i) = [1, 0, 3, byteOf (number i)] ++
      (bytesOf 2 (presenceMask d.pending.values) ++ ((d.pending.values.map fun v => bytesOf 2 (v.getD 0)).flatten ++
        flag s.settingsHold)) := by
    rw [fetchEntry_eq, State.objectBytes, numbered_number, hd, ← List.append_assoc (bytesOf 2 _)]
    rfl
  have values : (d.pending.values.map fun v => bytesOf 2 (v.getD 0)).flatten.length = 20 := by
    rw [length_flatten_of (n := 2) (by simp)]
    rfl
  refine ⟨fun k m hm => ⟨?_, ?_, ?_⟩, ?_⟩
  · rw [settings, field_behind (by simp)]
    refine (congrArg (field _ · 2) (by simp)).trans (field_flatten _ _ (by simp) k.val ?_)
    rw [List.getElem?_map, values_at _ hm]
    rfl
  · rw [pending, field_behind (by simp; omega), field_behind (by simp; omega)]
    refine (congrArg (field _ · 2) (by simp; omega)).trans (field_flatten _ _ (by simp) k.val ?_)
    rw [List.getElem?_map, values_at _ hm]
    rfl
  · have mask : natOf (field (s.fetchEntry .doorPending (number i)) 4 2) = presenceMask d.pending.values := by
      have small := presenceMask_lt d.pending.values
      rw [length_values] at small
      rw [pending]
      simp
      omega
    rw [mask]
    exact testBit_presenceMask _ _ _ (values_at _ hm)
  · rw [pending]
    simp [values]

end Sys2Proof.Machine
end


section
/-! SUPPORT. FETCH entries of zones, units, and the device, and the sizes of all. -/

namespace Sys2Proof.Machine

variable {s : State} {p : PortId}

/-! ### ZONE summary -/

theorem testBit_fiveFlags (a b c d e : Bool) :
    let n := (byteOf (bit a 0 + bit b 1 + bit c 2 + bit d 3 + bit e 4)).toNat
    n.testBit 0 = a ∧ n.testBit 1 = b ∧ n.testBit 2 = c ∧ n.testBit 3 = d ∧ n.testBit 4 = e := by
  revert a b c d e
  decide

theorem zoneEntry_eq (s : State) (z : ZoneId) : s.fetchEntry .zoneSummary (number z) =
    [1, 0, 4, byteOf (number z), s.holds.holdersByte z, byteOf (s.doorsOfZone z).length] ++
      (((s.doorsOfZone z).map fun i => (s.door i).summaryBytes i).flatten ++ []) := by
  rw [fetchEntry_eq, State.objectBytes, numbered_number, List.append_nil]
  rfl

theorem zone_fields (s : State) (z : ZoneId) :
    (∀ q : PortId, (natOf (field (s.fetchEntry .zoneSummary (number z)) 4 1)).testBit q.val =
        zoneIn s.holds.console[q] z) ∧
      (natOf (field (s.fetchEntry .zoneSummary (number z)) 4 1)).testBit 3 = zoneIn s.holds.line z ∧
      (natOf (field (s.fetchEntry .zoneSummary (number z)) 4 1)).testBit 4 = zoneIn s.holds.start z ∧
      field (s.fetchEntry .zoneSummary (number z)) 5 1 = [byteOf (s.doorsOfZone z).length] ∧
      ∀ k j, (s.doorsOfZone z)[k]? = some j → field (s.fetchEntry .zoneSummary (number z)) (6 + 4 * k) 4 =
        [byteOf (number j), byteOf (s.door j).state.code, byteOf (Indication.code (s.door j).indication),
          byteOf (bit (s.door j).inService 0 + bit (s.door j).eventFaulted 1)] := by
  have holders : natOf (field (s.fetchEntry .zoneSummary (number z)) 4 1) = (s.holds.holdersByte z).toNat := by
    rw [zoneEntry_eq]
    simp
  obtain ⟨h0, h1, h2, h3, h4⟩ := testBit_fiveFlags (zoneIn s.holds.console[0] z) (zoneIn s.holds.console[1] z)
    (zoneIn s.holds.console[2] z) (zoneIn s.holds.line z) (zoneIn s.holds.start z)
  rw [holders]
  refine ⟨fun q => ?_, h3, h4, ?_, fun k j hk => ?_⟩
  · match q with
    | 0 => exact h0
    | 1 => exact h1
    | 2 => exact h2
  · rw [zoneEntry_eq]
    simp
  · rw [zoneEntry_eq, field_behind (by simp)]
    refine (congrArg (field _ · 4) (by simp)).trans (field_flatten _ _ (by simp [Door.summaryBytes]) k ?_)
    rw [List.getElem?_map, hk]
    rfl

/-! ### UNIT -/

@[simp] theorem length_padData (l : List Byte) : (padData l).length = 8 := by simp [padData]

@[simp] theorem length_entryBytes (n : Nat) (e : Entry) : (e.bytes n).length = 11 := by
  simp [Entry.bytes]

@[simp] theorem length_entriesBytes (l : List Entry) : ∀ n, (entriesBytes n l).length = 11 * l.length := by
  induction l with
  | nil => exact fun _ => rfl
  | cons e l ih =>
    intro n
    rw [entriesBytes, List.length_append, ih, length_entryBytes, List.length_cons]
    omega

/-- R190: the bytes of one of the entries. -/
theorem field_entriesBytes {e : Entry} (l : List Entry) : ∀ n k, l[k]? = some e →
    ∃ rest, ∀ c m, field (entriesBytes n l) (11 * k + c) m = field (e.bytes (n + k) ++ rest) c m := by
  induction l with
  | nil => intro n k h; simp at h
  | cons x l ih =>
    intro n k h
    cases k with
    | zero =>
      obtain rfl : x = e := by simpa using h
      exact ⟨entriesBytes (n + 1) l, fun c m => by simp [entriesBytes]⟩
    | succ k =>
      obtain ⟨rest, fields⟩ := ih (n + 1) k (by simpa using h)
      refine ⟨rest, fun c m => ?_⟩
      rw [entriesBytes, field_behind (by rw [length_entryBytes]; omega), length_entryBytes,
        show 11 * (k + 1) + c - 11 = 11 * k + c by omega, fields, show n + 1 + k = n + (k + 1) by omega]

theorem unitEntry_eq (s : State) (u : UnitId) : s.fetchEntry .unit (number u) =
    [1, 0, 5, byteOf (number u), byteOf (UnitState.code (s.unit u).state), byteOf (s.unit u).slotLimit] ++
      (bytesOf 2 (s.unit u).startTime ++ (bytesOf 2 (s.unit u).holdoff ++ (bytesOf 2 (s.unit u).ageTime ++
      ([byteOf (s.unit u).urgentCount] ++ (remainingBytes s.runCount (s.unit u).timer ++
      ([byteOf (s.unit u).holders.length] ++ (padData ((s.unit u).holders.map fun j => byteOf (number j)) ++
      ([byteOf (bit (s.unit u).pressLow.value 0 + bit s.cutoff.value 1 + bit (s.unit u).attention 2),
        byteOf (s.unit u).list.length] ++ entriesBytes s.freeCount (s.unit u).list)))))))) := by
  rw [fetchEntry_eq, State.objectBytes, numbered_number]
  simp only [Option.map_some, Option.getD_some, State.unitBytes, holderBytes, List.append_assoc, List.cons_append,
    List.nil_append]
  rfl

theorem unitEntry_list (s : State) (u : UnitId) : ∃ pre : List Byte, pre.length = 28 ∧
    s.fetchEntry .unit (number u) = pre ++ entriesBytes s.freeCount (s.unit u).list := by
  have entry := unitEntry_eq s u
  simp only [← List.append_assoc] at entry
  exact ⟨_, by simp, entry⟩

/-- R190: the byte of an entry that carries its cause, and its port for a cause CONSOLE. -/
theorem entryBytes_cause (e : Entry) (n : Nat) (rest : List Byte) :
    natOf (field (e.bytes n ++ rest) 2 1) % 16 = Cause.code e.cause ∧
      ∀ q, e.cause = .console q → natOf (field (e.bytes n ++ rest) 2 1) / 16 = q.val := by
  obtain ⟨port, small, byte, console⟩ : ∃ port < 16, natOf (field (e.bytes n ++ rest) 2 1) =
      (byteOf (Cause.code e.cause + 16 * port)).toNat ∧ ∀ q, e.cause = .console q → port = q.val := by
    refine ⟨match e.cause with
      | .console p => p.val
      | _ => (Config.openPortBits n).toNat, ?_, natOf_singleton _, fun q hq => by rw [hq]⟩
    have openBits : (Config.openPortBits n).toNat < 4 := (Config.openPortBits n).isLt
    split <;> omega
  have code : Cause.code e.cause < 4 := by cases e.cause <;> simp [Cause.code]
  rw [toNat_byteOf] at byte
  exact ⟨by omega, fun q hq => by rw [← console q hq]; omega⟩

theorem unit_fields (s : State) (u : UnitId) {x : PowerUnit} (hx : x = s.unit u) :
    LaidOut (s.fetchEntry .unit (number u))
        [(4, [byteOf (UnitState.code x.state), byteOf x.slotLimit]), (6, bytesOf 2 x.startTime),
        (8, bytesOf 2 x.holdoff), (10, bytesOf 2 x.ageTime), (12, [byteOf x.urgentCount]),
        (13, optBytes 4 (x.timer.map fun e => e - s.runCount)), (17, [byteOf x.holders.length]),
        (18, ((x.holders.map fun j => byteOf (number j)) ++ List.replicate 8 0).take 8),
        (26, [byteOf (bit x.pressLow.value 0 + bit s.cutoff.value 1 + bit x.attention 2)]),
        (27, [byteOf x.list.length])] ∧
      ∀ k e, x.list[k]? = some e → LaidOut (s.fetchEntry .unit (number u))
        [(28 + 11 * k, [byteOf (number e.door), byteOf (e.cls + bit (decide (e.direction = .opening)) 7)]),
        (31 + 11 * k, bytesOf 8 e.arrival)] ∧
        natOf (field (s.fetchEntry .unit (number u)) (30 + 11 * k) 1) % 16 = Cause.code e.cause ∧
        ∀ q, e.cause = .console q → natOf (field (s.fetchEntry .unit (number u)) (30 + 11 * k) 1) / 16 = q.val := by
  subst hx
  refine ⟨?_, fun k e hk => ?_⟩
  · rw [unitEntry_eq]
    simp only [laidOut_cons]
    refine ⟨?_, ?_, ?_, ?_, ?_, ?_, ?_, ?_, ?_, ?_, laidOut_nil _⟩
    case refine_8 =>
      change field _ 18 (padData _).length = padData _
      simp
    all_goals simp [remainingBytes]
  · obtain ⟨rest, fields⟩ := field_entriesBytes (s.unit u).list s.freeCount k hk
    obtain ⟨pre, length, entry⟩ := unitEntry_list s u
    have place : ∀ n c m, n = 28 + (11 * k + c) → field (s.fetchEntry .unit (number u)) n m =
        field (e.bytes (s.freeCount + k) ++ rest) c m := fun n c m h => by
      rw [← fields, entry, h, field_behind (by omega), length, Nat.add_sub_cancel_left]
    have cause := place (30 + 11 * k) 2 1 (by omega)
    simp only [laidOut_cons]
    refine ⟨⟨(place _ 0 _ (by omega)).trans ?_, (place _ 3 _ (by omega)).trans ?_, laidOut_nil _⟩, ?_, fun q hq => ?_⟩
    · simp [Entry.bytes]
    · simp [Entry.bytes]
    · rw [cause]
      exact (entryBytes_cause e _ rest).1
    · rw [cause]
      exact (entryBytes_cause e _ rest).2 q hq

/-! ### The device and the ports -/

theorem holds_fields (s : State) :
    LaidOut (s.fetchEntry .holds 0) [(4, bytesOf 2 s.holds.console[0].toNat), (6, bytesOf 2 s.holds.console[1].toNat),
      (8, bytesOf 2 s.holds.console[2].toNat), (10, bytesOf 2 s.holds.line.toNat), (12, bytesOf 2 s.holds.start.toNat),
      (14, bytesOf 2 s.holds.union.toNat)] := by
  simp [fetchEntry_eq, State.objectBytes, Holds.bytes, maskBytes, laidOut_cons, laidOut_nil]

theorem clockEntry_eq (s : State) : s.fetchEntry .clock 0 = [1, 0, 7, 0] ++ (bytesOf 2 s.clock.time.day ++
    (bytesOf 4 s.clock.time.ms ++ (bytesOf 2 s.clock.trimInterval ++ ([s.clock.directionByte] ++
    (remainingBytes s.runCount s.clock.trimTimer ++ (stampBytes s.freeCount 4 s.clock.capture ++
    (stampBytes s.freeCount 6 s.clock.armed ++ []))))))) := by
  rw [fetchEntry_eq]
  simp only [State.objectBytes, Clock.bytes, Stamp.bytes, List.append_assoc, List.append_nil]
  rfl

theorem clock_fields (s : State) :
    LaidOut (s.fetchEntry .clock 0) [(4, bytesOf 2 s.clock.time.day), (6, bytesOf 4 s.clock.time.ms),
      (10, bytesOf 2 s.clock.trimInterval), (12, [if s.clock.trimForward then 0x01 else 0xFF]),
      (13, optBytes 4 (s.clock.trimTimer.map fun e => e - s.runCount))] ∧
    ∀ x ∈ [(s.clock.capture, 17), (s.clock.armed, 23)],
      (∀ t, x.1 = some t → LaidOut (s.fetchEntry .clock 0) [(x.2, bytesOf 2 t.day), (x.2 + 2, bytesOf 4 t.ms)]) ∧
      (x.1 = none → field (s.fetchEntry .clock 0) (x.2 + 2) 4 = List.replicate 4 0xFF) := by
  rw [clockEntry_eq]
  refine ⟨?_, ?_⟩
  · simp only [laidOut_cons]
    refine ⟨?_, ?_, ?_, ?_, ?_, laidOut_nil _⟩
    all_goals simp [Clock.directionByte, remainingBytes]
  · simp only [List.mem_cons, List.not_mem_nil, or_false, forall_eq_or_imp, forall_eq, laidOut_cons, laidOut_nil, and_true,
      length_bytesOf]
    refine ⟨?_, ?_⟩
    · simpa using stampBytes_fields s.freeCount 4 s.clock.capture _
    · simpa using stampBytes_fields s.freeCount 6 s.clock.armed []

@[simp] theorem length_tokenBytes (q : Port) (n : Nat) : (q.tokenBytes n).length = 2 := by
  simp only [Port.tokenBytes]
  split <;> simp

theorem portEntry_eq (s : State) (p : PortId) : s.fetchEntry .portStatus p.val = [1, 0, 8, byteOf p.val] ++
    ([byteOf (Role.code (s.port p).role), byteOf (s.port p).silenceTime, if (s.port p).active then 0 else 1] ++
    (remainingBytes s.runCount (s.port p).silenceTimer ++ (flag (s.port p).request.isSome ++
    ((s.port p).tokenBytes s.freeCount ++ (flag (s.port p).reportsEnabled ++ [byteOf (s.port p).reportSequence] ++
      flag (s.port p).attention ++ [byteOf (s.port p).changed.length]))))) := by
  have activity : byteOf (bit (!(s.port p).active) 0) = if (s.port p).active then 0 else 1 := by
    cases (s.port p).active <;> rfl
  rw [fetchEntry_eq, State.objectBytes, indexed_val]
  simp only [Option.map_some, Option.getD_some, Port.statusBytes, activity, List.append_assoc]
  rfl

theorem port_fields (s : State) (p : PortId) {q : Port} (hq : q = s.port p) :
    LaidOut (s.fetchEntry .portStatus p.val)
        [(4, [byteOf (Role.code q.role), byteOf q.silenceTime, if q.active then 0 else 1]),
        (7, optBytes 4 (q.silenceTimer.map fun e => e - s.runCount)), (11, flag q.request.isSome),
        (14, flag q.reportsEnabled ++ [byteOf q.reportSequence] ++ flag q.attention ++ [byteOf q.changed.length])] ∧
      ∀ r, q.request = some r → field (s.fetchEntry .portStatus p.val) 12 2 = bytesOf 2 r.token := by
  rw [portEntry_eq, ← hq]
  refine ⟨?_, fun r hr => ?_⟩
  · simp only [laidOut_cons]
    refine ⟨?_, ?_, ?_, ?_, laidOut_nil _⟩
    all_goals simp [remainingBytes]
  · have token : q.tokenBytes s.freeCount = bytesOf 2 r.token := by simp only [Port.tokenBytes, hr]
    simp [token]

theorem identity_fields (s : State) :
    LaidOut (s.fetchEntry .identity 0) [(4, (s.store.identity ++ List.replicate 16 0).take 16),
      (20, [byteOf (bit s.store.lockOpen 0 + bit s.store.imageFault 1 + bit s.store.saving.isSome 2)])] := by
  have length : ((s.store.identity ++ List.replicate 16 (0 : Byte)).take 16).length = 16 := by simp
  have entry : s.fetchEntry .identity 0 = [1, 0, 9, 0] ++ ((s.store.identity ++ List.replicate 16 0).take 16 ++
      [byteOf (bit s.store.lockOpen 0 + bit s.store.imageFault 1 + bit s.store.saving.isSome 2)]) := rfl
  rw [entry]
  generalize (s.store.identity ++ List.replicate 16 (0 : Byte)).take 16 = text at length
  simp [laidOut_cons, laidOut_nil, length]

/-! ### Sizes -/

theorem numbered_some {n v : Nat} {i : Fin n} (h : numbered n v = some i) : v = number i := by
  simp only [numbered] at h
  split at h
  · split at h
    · cases h
    · cases h
      simp only [number]
      omega
  · cases h

theorem numbered_of_inRange {n v : Nat} (h : (numbered n v).isNone = false) : ∃ i : Fin n, v = number i := by
  obtain ⟨i, hi⟩ := Option.isSome_iff_exists.mp (Option.isNone_eq_false_iff.mp h)
  exact ⟨i, numbered_some hi⟩

theorem length_values_flatten (l : List (Option Nat)) : (l.map fun v => bytesOf 2 (v.getD 0)).flatten.length = 2 * l.length := by
  rw [length_flatten_of (n := 2) (by simp), List.length_map]

/-- R188, R190: the entry of a FETCH with an argument in range has the size of its object. -/
theorem length_fetchEntry {o : FetchObject} {a : Nat} (h : fetchMalformed o a = false) :
    (s.fetchEntry o a).length = s.fetchSize o a := by
  cases o with
  | doorRecord =>
    obtain ⟨i, rfl⟩ := numbered_of_inRange h
    rw [recordEntry_eq, recordBytes_eq]
    simp [State.fetchSize]
  | doorSettings =>
    obtain ⟨i, rfl⟩ := numbered_of_inRange h
    rw [fetchEntry_eq, State.objectBytes, numbered_number, List.length_append]
    exact congrArg (4 + ·) (length_flatten_of (l := (s.door i).settings.values.map (bytesOf 2)) (n := 2) (by simp))
  | doorPending =>
    obtain ⟨i, rfl⟩ := numbered_of_inRange h
    have values := length_values_flatten (s.door i).pending.values
    rw [fetchEntry_eq, State.objectBytes, numbered_number]
    simp only [Option.map_some, Option.getD_some, Door.pendingBytes, List.length_append, values, length_bytesOf, length_flag]
    rfl
  | zoneSummary =>
    obtain ⟨z, rfl⟩ := numbered_of_inRange h
    have doors := length_flatten_of (l := (s.doorsOfZone z).map fun i => (s.door i).summaryBytes i) (n := 4)
      (by simp [Door.summaryBytes])
    rw [zoneEntry_eq, List.append_nil, List.length_append, doors, List.length_map, State.fetchSize, numbered_number]
    rfl
  | unit =>
    obtain ⟨u, rfl⟩ := numbered_of_inRange h
    obtain ⟨pre, length, entry⟩ := unitEntry_list s u
    rw [entry, List.length_append, length, length_entriesBytes, State.fetchSize, numbered_number]
    rfl
  | holds => simp [fetchEntry_eq, State.objectBytes, Holds.bytes, State.fetchSize]
  | clock => simp [fetchEntry_eq, State.objectBytes, Clock.bytes, Stamp.bytes, State.fetchSize]
  | portStatus =>
    have range : a < 3 := by
      simp only [fetchMalformed, ← Bool.not_eq_true, Option.isNone_iff_eq_none, indexed_none_iff] at h
      omega
    obtain ⟨p, rfl⟩ : ∃ p : PortId, a = p.val := ⟨⟨a, range⟩, rfl⟩
    rw [portEntry_eq]
    simp [State.fetchSize]
  | identity => simp [fetchEntry_eq, State.objectBytes, Store.identityBytes, State.fetchSize]

/-- Settles O14: each object by the parts of its entry. -/
theorem fetchEntriesAreLaidOut : Obligations.FetchEntriesAreLaidOut := by
  intro s i z u p
  obtain ⟨clock, clockStamps⟩ := clock_fields s
  refine ⟨fun k n => ⟨length_bytesOf k n, natOf_bytesOf k n⟩, fun o a h => ⟨length_fetchEntry h, rfl⟩, ⟨fun a => ?_, ?_, ?_⟩,
    fun d hd => ?_, zone_fields s z, fun x hx => unit_fields s u hx, holds_fields s, clock, clockStamps,
    fun q hq => port_fields s p hq, identity_fields s⟩
  · simp [State.fetchSize]
  · simp [State.fetchSize]
  · simp [State.fetchSize]
  · obtain ⟨⟨closed, closedNone⟩, ⟨fault, faultNone⟩⟩ := by
      simpa only [List.mem_cons, List.not_mem_nil, or_false, forall_eq_or_imp, forall_eq] using record_stamps s i hd
    exact ⟨record_laidOut s i hd, fun h => record_noStroke s i (hd ▸ h), fun r h => record_stroke s i (hd ▸ h), closed,
      closedNone, fault, faultNone, settings_fields s i hd⟩

end Sys2Proof.Machine
end


section
/-! SUPPORT. Station frames received: discarded, judged, or no frame. -/

namespace Sys2Proof.Machine

variable {s : State} {b : BranchId} {l : List Byte} {f : StationFrame} {x : Exchange}

theorem goodFor_iff (f : StationFrame) (x : Exchange) :
    f.goodFor x = true ↔ f.crcGood = true ∧ f.drop = number x.drop ∧ f.sequence = x.sequence ∧
        f.kind = x.kind.code ∧ f.count < 4096 ∧ f.data.length = (match x.kind with
          | .regular => 0
          | .ident => 8
          | .lampTest => 1) := by
  simp only [StationFrame.goodFor, Bool.and_eq_true, decide_eq_true_eq]
  have length : x.kind.dataLength = (match x.kind with
      | .regular => 0
      | .ident => 8
      | .lampTest => 1) := by cases x.kind <;> rfl
  rw [length]
  tauto

theorem answersBroken_iff (f : StationFrame) (y : Branch) :
    f.answersBroken y = true ↔ f.crcGood = true ∧ ∃ e ∈ y.broken, f.drop = number e.1 ∧ f.sequence = e.2 := by
  simp only [StationFrame.answersBroken, StationFrame.isFor, List.any_eq_true, Bool.and_eq_true, decide_eq_true_eq]
  constructor
  · rintro ⟨e, mem, ⟨crc, drop⟩, sequence⟩
    exact ⟨crc, e, mem, drop, sequence⟩
  · rintro ⟨crc, e, mem, drop, sequence⟩
    exact ⟨e, mem, ⟨crc, drop⟩, sequence⟩

/-- R143, R189: the branch's receiver hunts. -/
def State.huntingOn (s : State) (b : BranchId) : State :=
  { s with branches := s.branches.set b { s.branch b with collecting := false } }

@[simp] theorem branch_huntingOn (s : State) (b : BranchId) :
    (s.huntingOn b).branch b = { s.branch b with collecting := false } :=
  (branch_setBranch s b _ b).trans (if_pos rfl)

theorem exec_stationFrame (hp : s.powered = true) (b : BranchId) (l : List Byte) :
    exec (.stationReplyFrame b l) s = .next (match readStationFrame l with
      | some f => ((s.huntingOn b).takeFrame b f).evalOutputs
      | none => (s.huntingOn b).evalOutputs) := by
  have hunts : s.modBranch b (fun x => { x with collecting := false }) = s.huntingOn b := modBranch_plain rfl
  refine (live_powered hp fun s => (s.stationFrame b l).evalOutputs).trans ?_
  rw [State.stationFrame, hunts]
  cases readStationFrame l <;> rfl

theorem exec_stationFrame_read (hp : s.powered = true) (hl : readStationFrame l = some f) :
    exec (.stationReplyFrame b l) s = .next ((s.huntingOn b).takeFrame b f).evalOutputs := by
  rw [exec_stationFrame hp, hl]

/-- The outputs hold whatever is written of a branch beside its round counter. -/
theorem OutputsHold.of_branches {t : State} (h : s.OutputsHold) (ht : t = { s with branches := t.branches }) :
    t.OutputsHold := by
  have fault : t.faultOut = s.faultOut := by rw [ht]; rfl
  have closure : t.closureOut = s.closureOut := by rw [ht]; rfl
  have allClosed : t.allClosedOut = s.allClosedOut := by rw [ht]; rfl
  rw [State.OutputsHold, fault, closure, allClosed, ← h, ht]

/-- R143, R147: a frame that counts for nothing. -/
theorem takeFrame_discarded (h : (s.branch b).exchange = none ∨
    f.answersBroken (s.branch b) = true ∧ ∀ x, (s.branch b).exchange = some x → f.goodFor x = false) :
    s.takeFrame b f = s.discardBroken b f := by
  simp only [State.takeFrame]
  cases hx : (s.branch b).exchange with
  | none => rfl
  | some x =>
    obtain none | ⟨broken, bad⟩ := h
    · simp [hx] at none
    · simp [broken, bad x hx]

theorem takeFrame_judged (hx : (s.branch b).exchange = some x)
    (h : f.goodFor x = true ∨ f.answersBroken (s.branch b) = false) : s.takeFrame b f = s.frameJudged b x f := by
  simp only [State.takeFrame, hx]
  obtain good | broken := h
  · simp [good]
  · simp [broken]

/-- R143: a bad frame ends the exchange in flight as the passing of its deadline does. -/
theorem frameJudged_bad (h : f.goodFor x = false) :
    s.frameJudged b x f = ((s.clearExchange b).exchangeMissed b x).exchangeEnded b := by
  simp [State.frameJudged, h]

theorem clearExchange_eq (s : State) (b : BranchId) :
    s.clearExchange b = { s with branches := s.branches.set b { s.branch b with exchange := none } } :=
  modBranch_plain rfl

/-- Settles O49: the frame is read, judged against the exchange and the broken ones, and then discarded or a miss. -/
theorem framesEndAnExchangeOrCountForNothing : Obligations.FramesEndAnExchangeOrCountForNothing := by
  intro s b l hp
  refine ⟨fun none hout => ?_, fun f hl => ⟨goodFor_iff f, answersBroken_iff f _, fun hout h => ?_, fun x hx bad broken => ?_⟩⟩
  · rw [exec_stationFrame hp, none]
    exact congrArg _ (evalOutputs_eq_self (OutputsHold.of_branches hout rfl))
  · rw [exec_stationFrame_read hp hl, takeFrame_discarded (by simpa [StationFrame.answersBroken] using h), State.discardBroken,
      modBranch_plain rfl, evalOutputs_eq_self (OutputsHold.of_branches hout rfl), branch_huntingOn, State.huntingOn]
    simp only [Vector.set_set]
    rfl
  · let y : Exchange := { x with deadline := s.runCount }
    let t : State := { s with branches := s.branches.set b { s.branch b with collecting := false, exchange := some y } }
    have exchange : t.branch b = { s.branch b with collecting := false, exchange := some y } :=
      (branch_setBranch s b _ b).trans (if_pos rfl)
    have cleared : t.clearExchange b = (s.huntingOn b).clearExchange b := by
      rw [clearExchange_eq, clearExchange_eq, exchange, branch_huntingOn]
      simp [State.huntingOn, t, Vector.set_set]
    have passed : t.deadlinePassed b = ((t.clearExchange b).exchangeMissed b y).exchangeEnded b := by
      simp only [State.deadlinePassed, exchange]
      exact if_pos (Nat.le_refl _)
    rw [exec_stationFrame_read hp hl, takeFrame_judged (x := x) (by rw [branch_huntingOn]; exact hx) (.inr (by simpa [StationFrame.answersBroken] using broken)),
      frameJudged_bad bad, ← cleared]
    refine (Eq.trans (live_powered (s := t) hp fun s => (s.deadlinePassed b).evalOutputs) ?_).symm
    rw [passed]
    rfl

end Sys2Proof.Machine
end


section
/-! SUPPORT. Rounds: what the going on of a round, the start of a round, and the end of an exchange do to the branch and to
the doors, while no direct exchange is answered. -/

namespace Sys2Proof.Machine

variable {s t u : State} {b : BranchId} {d : DropId} {i : DoorId}

/-! ### Work on one branch that answers no DIRECT -/

/-- Work on a branch and on doors that answers no DIRECT: beside them the marks of R168 alone differ. -/
structure BranchOnly (b : BranchId) (s t : State) : Prop where
  rest : t = { s with doors := t.doors, branches := t.branches, ports := t.ports }
  ports : ∀ p, (s.port p).SameButMarks (t.port p)
  others : OtherBranches b s t

theorem BranchOnly.refl (b : BranchId) (s : State) : BranchOnly b s s :=
  ⟨rfl, fun _ => Port.SameButMarks.refl _, fun _ _ => rfl⟩

theorem BranchOnly.trans (h : BranchOnly b s t) (k : BranchOnly b t u) : BranchOnly b s u :=
  ⟨by rw [k.rest, h.rest], fun p => (h.ports p).trans (k.ports p), fun c hc => (k.others c hc).trans (h.others c hc)⟩

theorem branchOnly_modBranch (s : State) (b : BranchId) (f : Branch → Branch) : BranchOnly b s (s.modBranch b f) := by
  refine ⟨?_, sameButMarks_modBranch s b f, fun c hc => by rw [State.branch_modBranch, if_neg hc]⟩
  refine (onlyLinks_modBranch s b f).rest.trans ?_
  simp

theorem OnlyDoors.branchOnly (h : OnlyDoors s t) (k : DoorOnly i s t) (b : BranchId) : BranchOnly b s t :=
  ⟨by rw [h.rest, k.units], h.ports, fun c _ => h.branch c⟩

theorem BranchOnly.runCount (h : BranchOnly b s t) : t.runCount = s.runCount := by rw [h.rest]

theorem BranchOnly.units (h : BranchOnly b s t) : t.units = s.units := by rw [h.rest]

theorem BranchOnly.holds (h : BranchOnly b s t) : t.holds = s.holds := by rw [h.rest]

/-! ### A poll -/

/-- R52: the poll of a door issues its drive. -/
theorem door_issueDrive (s : State) (i j : DoorId) :
    (s.issueDrive i).door j = if j = i then (s.door i).polled s.runCount else s.door j := by
  by_cases hj : j = i
  · subst hj
    rw [if_pos rfl, State.issueDrive, Door.polled]
    cases (s.door j).state.drive with
    | none => rfl
    | some dir =>
      cases (s.door j).stroke with
      | none => rfl
      | some r =>
        simp only
        split
        · rfl
        · rw [State.door_modDoor_self]
  · rw [if_neg hj, (doorOnly_issueDrive s i).others j hj]

/-- R142: a regular poll. -/
theorem sendRegular_effect (s : State) (b : BranchId) (d : DropId) (i : DoorId) :
    BranchOnly b s (s.sendRegular b d i) ∧
      (s.sendRegular b d i).branch b = (s.branch b).sent s.runCount d .regular (s.driveCommand i) (s.signalCommand i) ∧
      ∀ j, (s.sendRegular b d i).door j = if j = i then (s.door i).polled s.runCount else s.door j := by
  have sent := branchOnly_modBranch s b
    fun x => x.sent s.runCount d .regular (s.driveCommand i) (s.signalCommand i)
  have frame : s.sendRegular b d i =
      (s.modBranch b fun x => x.sent s.runCount d .regular (s.driveCommand i) (s.signalCommand i)).issueDrive i := rfl
  have work := onlyDoors_issueDrive
    (s.modBranch b fun x => x.sent s.runCount d .regular (s.driveCommand i) (s.signalCommand i)) i
  rw [frame]
  refine ⟨sent.trans (work.branchOnly (doorOnly_issueDrive _ i) b), ?_, fun j => ?_⟩
  · rw [work.branch, State.branch_modBranch_self]
  · rw [door_issueDrive]; simp

/-- R52: the first poll of a driven door leaves what its commands are made of. -/
theorem Door.polled_signals (x : Door) (now : Nat) (cause : Option Cause) (held : Bool) :
    (x.polled now).signals cause held = x.signals cause held := by
  rw [Door.polled]
  cases x.state.drive with
  | none => rfl
  | some dir =>
    cases hr : x.stroke with
    | none => rfl
    | some r =>
      simp only
      split
      · rfl
      · simp [Door.signals, Door.sounder, Door.beacon, Door.cutFromStation, hr]

theorem Door.polled_place (x : Door) (now : Nat) : (x.polled now).state = x.state ∧ (x.polled now).zone = x.zone ∧
    (x.polled now).unit = x.unit ∧ (x.polled now).installed = x.installed ∧ (x.polled now).branch = x.branch ∧
    (x.polled now).drop = x.drop := by
  rw [Door.polled]
  cases x.state.drive with
  | none => exact ⟨rfl, rfl, rfl, rfl, rfl, rfl⟩
  | some dir =>
    cases x.stroke with
    | none => exact ⟨rfl, rfl, rfl, rfl, rfl, rfl⟩
    | some r =>
      simp only
      split <;> exact ⟨rfl, rfl, rfl, rfl, rfl, rfl⟩

/-- R52: a door without a drive command is as it was after its poll. -/
theorem Door.polled_undriven {x : Door} (h : x.state.drive = none) (now : Nat) : x.polled now = x := by
  rw [Door.polled, h]

/-- A door's commands are made of the door, of the units' entries, and of the holds. -/
theorem commands_congr (hd : t.door i = s.door i ∨ t.door i = (s.door i).polled s.runCount) (hu : t.units = s.units)
    (hh : t.holds = s.holds) : t.driveCommand i = s.driveCommand i ∧ t.signalCommand i = s.signalCommand i := by
  have held : ∀ z, t.held z = s.held z := fun z => by rw [State.held, hh]; rfl
  have entry : (t.door i).unit = (s.door i).unit → t.entryOf i = s.entryOf i := fun h => by
    rw [State.entryOf, State.entryOf, h, State.unit, hu]; rfl
  obtain hd | hd := hd
  · refine ⟨by rw [State.driveCommand, hd]; rfl, ?_⟩
    rw [State.signalCommand, entry (by rw [hd]), State.doorHeld, hd, held]; rfl
  · obtain ⟨hs, hz, hv, -⟩ := (s.door i).polled_place s.runCount
    refine ⟨by rw [State.driveCommand, hd, hs]; rfl, ?_⟩
    rw [State.signalCommand, entry (by rw [hd, hv]), State.doorHeld, hd, hz, held, Door.polled_signals]; rfl

/-! ### The round goes on -/

theorem claimant_congr (h : ∀ j, (t.door j).installed = (s.door j).installed ∧ (t.door j).branch = (s.door j).branch ∧
    (t.door j).drop = (s.door j).drop) (b : BranchId) (d : DropId) : t.claimant b d = s.claimant b d := by
  rw [State.claimant, State.claimant]
  congr 1
  funext j
  obtain ⟨hi, hb, hd⟩ := h j
  rw [hi, hb, hd]

theorem claimant_of_doors (h : t.doors = s.doors) (b : BranchId) (d : DropId) : t.claimant b d = s.claimant b d :=
  claimant_congr (fun j => by simp [State.door, h]) b d

theorem claimedDrops_of_doors (h : t.doors = s.doors) (b : BranchId) : t.claimedDrops b = s.claimedDrops b := by
  rw [State.claimedDrops, State.claimedDrops]
  congr 1
  funext d
  rw [claimant_of_doors h]

/-- R140: the exchange that a round goes on with is that of the first drop that a door claims. -/
theorem exchangeFrom_eq (s : State) (b : BranchId) (l : List DropId) :
    s.exchangeFrom b l = match l.dropWhile fun d => (s.claimant b d).isNone with
      | [] => none
      | d :: rest => (s.claimant b d).map fun i => (s.modBranch b fun x => { x with members := rest }).beginExchange b d i := by
  induction l with
  | nil => rfl
  | cons d l ih =>
    rw [State.exchangeFrom]
    cases hc : s.claimant b d with
    | none => rw [ih]; simp [hc]
    | some i => simp [hc]

/-- R140: the first of the drops still to be polled is a drop that a door claims. -/
theorem toPoll_claimed {rest : List DropId} (h : s.toPoll b = d :: rest) : ∃ j, s.claimant b d = some j := by
  have hd := List.head?_dropWhile_not (fun d => (s.claimant b d).isNone) (s.branch b).members
  rw [State.toPoll] at h
  rw [h] at hd
  simpa [Option.isSome_iff_exists] using hd

theorem beginExchange_regular {i : DoorId} (h : (s.branch b).NoDirectFor d) : s.beginExchange b d i = s.sendRegular b d i := by
  rw [State.beginExchange]
  split
  · next pd hp => rw [if_neg (h pd hp)]
  · rfl

/-- R140: the round goes on with the poll of its next drop. -/
theorem goOnOrComplete_polls {rest : List DropId} (h : s.toPoll b = d :: rest) (hc : s.claimant b d = some i)
    (hn : (s.branch b).NoDirectFor d) :
    s.goOnOrComplete b = (s.modBranch b fun x => { x with members := rest }).sendRegular b d i := by
  have next : s.exchangeFrom b (s.branch b).members =
      some ((s.modBranch b fun x => { x with members := rest }).beginExchange b d i) := by
    rw [exchangeFrom_eq]
    rw [State.toPoll] at h
    rw [h]
    simp [hc]
  rw [State.goOnOrComplete, next]
  exact beginExchange_regular (by simpa using hn)

/-- R141: a round without a drop left is completed. -/
theorem goOnOrComplete_completes (h : s.toPoll b = []) :
    s.goOnOrComplete b = (s.modBranch b fun x => { x with members := [] }).countRound b := by
  have next : s.exchangeFrom b (s.branch b).members = none := by
    rw [exchangeFrom_eq]
    rw [State.toPoll] at h
    rw [h]
  rw [State.goOnOrComplete, next]

/-! ### The start of a round -/

/-- R140: a branch whose round has started, before its first frame. -/
def Branch.started (x : Branch) (now : Nat) (members : List DropId) : Branch :=
  { x with roundTimer := some (now + x.roundPeriod), members := members }

theorem claimedDrops_claimed {rest : List DropId} (h : s.claimedDrops b = d :: rest) : ∃ j, s.claimant b d = some j := by
  have mem : d ∈ s.claimedDrops b := by rw [h]; exact List.mem_cons_self
  simpa [State.claimedDrops, Option.isSome_iff_exists] using (List.mem_filter.mp mem).2

/-- R140: a round starts with the poll of its first drop. -/
theorem startRound_first {rest : List DropId} (h : s.claimedDrops b = d :: rest) (hc : s.claimant b d = some i) :
    (s.modBranch b fun x => x.started s.runCount (s.claimedDrops b)).toPoll b = d :: rest := by
  rw [State.toPoll, State.branch_modBranch_self, Branch.started, h]
  simp [claimant_of_doors (State.modBranch_doors _ b _), hc]

/-- R140: a round that starts with no drop is completed at its start. -/
theorem startRound_empty (h : s.claimedDrops b = []) :
    BranchOnly b s (s.startRound b) ∧ (s.startRound b).doors = s.doors ∧ (s.startRound b).branch b =
      { (s.branch b).started s.runCount [] with roundCounter := nextRound (s.branch b).roundCounter } := by
  have none : (s.modBranch b fun x => x.started s.runCount (s.claimedDrops b)).toPoll b = [] := by
    rw [State.toPoll, State.branch_modBranch_self, Branch.started, h]; rfl
  have eq : s.startRound b = (s.modBranch b fun x => x.started s.runCount (s.claimedDrops b)).goOnOrComplete b := rfl
  rw [eq, goOnOrComplete_completes none, State.countRound]
  refine ⟨((branchOnly_modBranch ..).trans (branchOnly_modBranch ..)).trans (branchOnly_modBranch ..), by simp, ?_⟩
  simp [Branch.started]

/-- R140: a round that starts polls its first drop. -/
theorem startRound_polls {rest : List DropId} (h : s.claimedDrops b = d :: rest) (hc : s.claimant b d = some i)
    (hn : (s.branch b).NoDirectFor d) :
    BranchOnly b s (s.startRound b) ∧ (s.startRound b).branch b =
        ((s.branch b).started s.runCount rest).sent s.runCount d .regular (s.driveCommand i) (s.signalCommand i) ∧
      ∀ j, (s.startRound b).door j = if j = i then (s.door i).polled s.runCount else s.door j := by
  let x := s.modBranch b fun x => x.started s.runCount (s.claimedDrops b)
  let y := x.modBranch b fun x => { x with members := rest }
  have eq : s.startRound b = y.sendRegular b d i :=
    goOnOrComplete_polls (startRound_first h hc) ((claimant_of_doors (State.modBranch_doors _ b _) b d).trans hc)
      (by simpa [x, Branch.started] using hn)
  have only : BranchOnly b s y := (branchOnly_modBranch ..).trans (branchOnly_modBranch ..)
  have door : ∀ j, y.door j = s.door j := fun j => by simp [y, x]
  obtain ⟨sent, branch, doors⟩ := sendRegular_effect y b d i
  obtain ⟨drive, signal⟩ := commands_congr (i := i) (.inl (door i)) only.units only.holds
  rw [eq]
  refine ⟨only.trans sent, ?_, fun j => ?_⟩
  · rw [branch, drive, signal, only.runCount]
    simp [y, x, Branch.started]
  · rw [doors, only.runCount, door, door]

/-! ### The end of an exchange -/

/-- R140: after the end of its exchange a branch has its next round due exactly where the round has ended late. -/
theorem roundDue_completed (h : s.toPoll b = []) (hx : (s.branch b).exchange = none) :
    (s.goOnOrComplete b).roundDue b = s.roundLate b := by
  rw [goOnOrComplete_completes h, State.countRound]
  simp [State.roundDue, State.roundLate, hx]

/-- R140, R141: the end of an exchange of a branch that waits for no DIRECT of the drop that is polled next. -/
theorem exchangeEnded_effect (hx : (s.branch b).exchange = none)
    (hn : ∀ d, s.nextPoll b = some d → (s.branch b).NoDirectFor d) :
    BranchOnly b s (s.exchangeEnded b) ∧ (∀ j, (s.exchangeEnded b).door j = s.ifPolled b j (s.door j)) ∧
      GoesOn s b (s.branch b) (s.exchangeEnded b) := by
  cases hp : s.toPoll b with
  | cons d rest =>
    have next : s.nextPoll b = some d := by rw [State.nextPoll, hp]
    obtain ⟨i, hc⟩ := toPoll_claimed hp
    let x := s.modBranch b fun x => { x with members := rest }
    have only : BranchOnly b s x := branchOnly_modBranch ..
    have door : ∀ j, x.door j = s.door j := fun j => by simp [x]
    obtain ⟨sent, branch, doors⟩ := sendRegular_effect x b d i
    have due : (x.sendRegular b d i).roundDue b = false := by rw [State.roundDue, branch]; simp [Branch.sent]
    have eq : s.exchangeEnded b = x.sendRegular b d i := by
      rw [State.exchangeEnded, goOnOrComplete_polls hp hc (hn d next), State.nextRoundIfDue]
      simp only [x] at due
      rw [due, if_neg (by decide)]
    have polled : (x.sendRegular b d i).door i = (s.door i).polled s.runCount := by
      rw [doors, if_pos rfl, door, only.runCount]
    obtain ⟨drive, signal⟩ := commands_congr (.inr polled) (only.trans sent).units (only.trans sent).holds
    obtain ⟨drive', signal'⟩ := commands_congr (i := i) (.inl (door i)) only.units only.holds
    rw [eq]
    refine ⟨only.trans sent, fun j => ?_, ?_⟩
    · rw [doors, State.ifPolled, State.polls, next, door, door, only.runCount]
      by_cases hj : j = i
      · simp [hj, hc]
      · simp [hj, hc, Ne.symm hj]
    · simp only [GoesOn, next]
      intro j hj _
      obtain rfl : i = j := by simpa [hc] using hj
      rw [drive, signal, branch, drive', signal', only.runCount, State.wentOn, hp]
      simp [x]
  | nil =>
    let x := s.goOnOrComplete b
    have eq := goOnOrComplete_completes hp
    have only : BranchOnly b s x := by
      simp only [x]
      rw [eq, State.countRound]
      exact (branchOnly_modBranch ..).trans (branchOnly_modBranch ..)
    have door : ∀ j, x.door j = s.door j := fun j => by simp [x, eq, State.countRound]
    have doors : x.doors = s.doors := by simp [x, eq, State.countRound]
    have branch : x.branch b = { s.branch b with members := [], roundCounter := nextRound (s.branch b).roundCounter } := by
      simp [x, eq, State.countRound]
    have ended : s.exchangeEnded b = if s.roundLate b then x.startRound b else x := by
      rw [State.exchangeEnded, State.nextRoundIfDue, roundDue_completed hp hx]
    cases hl : s.roundLate b with
    | false =>
      have next : s.nextPoll b = none := by rw [State.nextPoll, hp, hl]; rfl
      rw [ended, hl, if_neg (by decide)]
      refine ⟨only, fun j => by rw [door, State.ifPolled, State.polls, next]; rfl, ?_⟩
      simp only [GoesOn, next]
      rw [branch, State.wentOn, hp, hl]; rfl
    | true =>
      rw [ended, hl, if_pos rfl]
      have claimed := claimedDrops_of_doors doors b
      cases hd : s.claimedDrops b with
      | nil =>
        have next : s.nextPoll b = none := by rw [State.nextPoll, hp, hl, hd]; rfl
        obtain ⟨only', doors', branch'⟩ := startRound_empty (claimed.trans hd)
        refine ⟨only.trans only', fun j => ?_, ?_⟩
        · rw [State.ifPolled, State.polls, next, State.door, doors', doors]; rfl
        · simp only [GoesOn, next]
          rw [branch', branch, only.runCount, State.wentOn, hp, hl, hd]; rfl
      | cons d rest =>
        have next : s.nextPoll b = some d := by rw [State.nextPoll, hp, hl, hd]; rfl
        obtain ⟨i, hc⟩ := claimedDrops_claimed hd
        obtain ⟨only', branch', doors'⟩ := startRound_polls (claimed.trans hd) ((claimant_of_doors doors b d).trans hc)
          (by rw [branch]; exact hn d next)
        have polled : (x.startRound b).door i = (s.door i).polled s.runCount := by
          rw [doors', if_pos rfl, door, only.runCount]
        obtain ⟨drive, signal⟩ := commands_congr (.inr polled) (only.trans only').units (only.trans only').holds
        obtain ⟨drive', signal'⟩ := commands_congr (i := i) (.inl (door i)) only.units only.holds
        refine ⟨only.trans only', fun j => ?_, ?_⟩
        · rw [doors', State.ifPolled, State.polls, next, door, door, only.runCount]
          by_cases hj : j = i
          · simp [hj, hc]
          · simp [hj, hc, Ne.symm hj]
        · simp only [GoesOn, next]
          intro j hj _
          obtain rfl : i = j := by simpa [hc] using hj
          rw [drive, signal, branch', drive', signal', only.runCount, branch, State.wentOn, hp, hl, hd]; rfl

/-! ### What the next poll depends on -/

/-- Two states in which the round of a branch goes on in the same way. -/
structure SameRound (b : BranchId) (s t : State) : Prop where
  members : (t.branch b).members = (s.branch b).members
  enable : (t.branch b).enable = (s.branch b).enable
  roundTimer : (t.branch b).roundTimer = (s.branch b).roundTimer
  runCount : t.runCount = s.runCount
  claimant : ∀ d, t.claimant b d = s.claimant b d

theorem SameRound.toPoll (h : SameRound b s t) : t.toPoll b = s.toPoll b := by
  rw [State.toPoll, State.toPoll, h.members]
  congr 1
  funext d
  rw [h.claimant]

theorem SameRound.roundLate (h : SameRound b s t) : t.roundLate b = s.roundLate b := by
  rw [State.roundLate, State.roundLate, h.enable, h.roundTimer, h.runCount]

theorem SameRound.claimedDrops (h : SameRound b s t) : t.claimedDrops b = s.claimedDrops b := by
  rw [State.claimedDrops, State.claimedDrops]
  congr 1
  funext d
  rw [h.claimant]

theorem SameRound.nextPoll (h : SameRound b s t) : t.nextPoll b = s.nextPoll b := by
  rw [State.nextPoll, State.nextPoll, h.toPoll, h.roundLate, h.claimedDrops]

theorem SameRound.ifPolled (h : SameRound b s t) (j : DoorId) (x : Door) : t.ifPolled b j x = s.ifPolled b j x := by
  simp only [State.ifPolled, State.polls, h.nextPoll, h.claimant, h.runCount]
  rfl

theorem SameRound.wentOn (h : SameRound b s t) (y : Branch) : t.wentOn b y = s.wentOn b y := by
  rw [State.wentOn, State.wentOn, h.toPoll, h.roundLate, h.claimedDrops, h.runCount]

/-- The going on of a round is told of any state in which it goes on in the same way. -/
theorem GoesOn.congr {y : Branch} (g : GoesOn t b y u) (h : SameRound b s t) : GoesOn s b y u := by
  simpa only [GoesOn, h.nextPoll, h.wentOn, h.claimant, h.runCount] using g

/-- The going on of a round shows in the branch and in the commands of the doors. -/
theorem GoesOn.result {y : Branch} {w : State} (g : GoesOn s b y u) (hb : w.branch b = u.branch b)
    (hc : ∀ j, w.driveCommand j = u.driveCommand j ∧ w.signalCommand j = u.signalCommand j) : GoesOn s b y w := by
  rw [GoesOn] at g ⊢
  split
  · next h => rw [h] at g; rw [hb]; exact g
  · next d h =>
    rw [h] at g
    intro j hj hn
    rw [hb, (hc j).1, (hc j).2]
    exact g j hj hn

end Sys2Proof.Machine
end


section
/-! SUPPORT. Claims: SETs that install a door, remove it, or give it another pair. -/

namespace Sys2Proof.Machine

variable {s t u x : State} {p : PortId} {b : BranchId} {d : DropId} {i : DoorId}

/-! ### SETs that work on branches -/

/-- What the command of an item that works on doors, units and branches leaves: those as `u` has them, the outputs by
their own rule, and the answer, the ports being those of `x` before. -/
structure LinksAnswered (p : PortId) (e : List Byte) (s u x t : State) : Prop where
  doors : t.doors = u.doors
  units : t.units = u.units
  branches : t.branches = u.branches
  rest : t = { s with ports := t.ports, doors := t.doors, units := t.units, branches := t.branches, outputs := t.outputs }
  outputs : t.OutputsHold
  answered : Answered p e x t

namespace LinksAnswered

variable {e : List Byte}

theorem door (h : LinksAnswered p e s u x t) (j : DoorId) : t.door j = u.door j := by
  rw [State.door, h.doors]; rfl

theorem branch (h : LinksAnswered p e s u x t) (c : BranchId) : t.branch c = u.branch c := by
  rw [State.branch, h.branches]; rfl

/-- Work that leaves the units. -/
theorem unitsKept (h : LinksAnswered p e s u x t) (hu : u.units = s.units) :
    t = { s with ports := t.ports, doors := t.doors, branches := t.branches, outputs := t.outputs } := by
  have rest := h.rest
  rw [h.units, hu] at rest
  exact rest

/-- The commands of the doors are those that the work has left. -/
theorem commands (h : LinksAnswered p e s u x t) (hh : u.holds = s.holds) (j : DoorId) :
    t.driveCommand j = u.driveCommand j ∧ t.signalCommand j = u.signalCommand j :=
  commands_congr (.inl (h.door j)) h.units (by rw [h.rest, hh])

end LinksAnswered

/-- A SET of a free port whose owner works on doors, units and branches. -/
theorem set_links {c : Instr} {w : SettingWrite} {g : Target} {r : Result} (hf : s.Free p) (hx : x.Free p)
    (hi : c.item = some (p, .set w g)) (hm : itemMalformed (.set w g) = false)
    (ha : (s.taking p (.set w g)).setting p g w = u.answer r)
    (rest : u = { s with doors := u.doors, units := u.units, branches := u.branches, ports := u.ports })
    (ports : ∀ q, ((x.taking p (.set w g)).port q).SameButMarks (u.port q)) :
    ∃ t, exec c s = .next t ∧ LinksAnswered p (setEntry r) s u x t := by
  have executed : exec c s = .next (u.evalOutputs.endItem p (setEntry r)) := by
    rw [exec_item_live hi hf.1, itemCommand_set hf hm, ha]; rfl
  refine ⟨_, executed, by rw [endItem_rest, State.evalOutputs_doors], by rw [endItem_rest, State.evalOutputs_units],
    by rw [endItem_rest, State.evalOutputs_branches], ?_, outputsHold_endItem (outputsHold_evalOutputs u) p _,
    answered_endItem_of_ports _ hx fun q => (ports q).trans (sameButMarks_evalOutputs u q)⟩
  rw [endItem_rest, evalOutputs_rest, rest]

theorem OnlyLinks.from_taking {it : Item} (h : OnlyLinks (s.taking p it) u) :
    u = { s with doors := u.doors, units := u.units, branches := u.branches, ports := u.ports } := by
  rw [h.rest, taking_rest]

/-- An installation SET of a door that its checks let pass, in a state in which its value is new. -/
theorem setInstallation_writes {w : State} (hc : w.commands p = true) (hl : w.store.lockOpen = true)
    {legal same : DoorId → Bool} (h : legal i = true) (hs : (w.door i).installed = false ∨ (w.door i).state.isRest = true)
    (hn : same i = false) (write : DoorId → State → State) :
    w.setInstallation p (.door (number i)) legal same false write = (write i w).answer .ok := by
  rw [setInstallation_door hc hl, h, hn]
  obtain hs | hs := hs <;> simp [hs]

/-! ### Pairs -/

/-- R149: the release of a pair on which nothing is in flight or pending. -/
theorem releasePair_idle (hx : ∀ y, (s.branch b).exchange = some y → y.drop ≠ d) (hn : (s.branch b).NoDirectFor d) :
    s.releasePair b d = (s.modLink b d fun _ => DropLink.fresh).modBranch b fun y =>
      { y with members := y.members.filter fun e => e ≠ d } := by
  let t := (s.modLink b d fun _ => DropLink.fresh).modBranch b fun y => { y with members := y.members.filter fun e => e ≠ d }
  have branch : t.branch b = { s.branch b with
      drops := (s.branch b).drops.set d DropLink.fresh, members := (s.branch b).members.filter fun e => e ≠ d } := by
    simp [t, State.modLink]
  have direct : t.dropDirect b d .unclaimed = t := by
    rw [State.dropDirect, branch]
    split
    · next pd hp => rw [if_neg (hn pd hp)]
    · rfl
  have eq : s.releasePair b d = match (t.branch b).exchange with
      | some y => if y.drop = d then ((t.breakExchange b .unclaimed).dropDirect b d .unclaimed).exchangeEnded b
        else t.dropDirect b d .unclaimed
      | none => t.dropDirect b d .unclaimed := rfl
  rw [eq, branch]
  split
  · next y hy => rw [if_neg (hx y hy), direct]
  · exact direct

/-- R149: a branch whose regular poll `y` has ended with the release of its pair, before its round goes on. -/
def Branch.released (z : Branch) (y : Exchange) : Branch :=
  { z with
    exchange := none, broken := z.broken ++ [(y.drop, y.sequence)], drops := z.drops.set y.drop DropLink.fresh
    members := z.members.filter fun e => e ≠ y.drop }

/-- R149: the release of a pair whose regular poll is in flight. -/
theorem releasePair_polled {y : Exchange} (hx : (s.branch b).exchange = some y) (hk : y.kind = .regular) (hd : y.drop = d)
    (hn : (s.branch b).NoDirectFor d) :
    ∃ t, s.releasePair b d = t.exchangeEnded b ∧ BranchOnly b s t ∧ t.doors = s.doors ∧
      t.branch b = (s.branch b).released y := by
  let t := (s.modLink b d fun _ => DropLink.fresh).modBranch b fun y => { y with members := y.members.filter fun e => e ≠ d }
  have branch : t.branch b = { s.branch b with
      drops := (s.branch b).drops.set d DropLink.fresh, members := (s.branch b).members.filter fun e => e ≠ d } := by
    simp [t, State.modLink]
  have eq : s.releasePair b d = match (t.branch b).exchange with
      | some y => if y.drop = d then ((t.breakExchange b .unclaimed).dropDirect b d .unclaimed).exchangeEnded b
        else t.dropDirect b d .unclaimed
      | none => t.dropDirect b d .unclaimed := rfl
  let w := t.modBranch b fun z => { z with exchange := none, broken := z.broken ++ [(y.drop, y.sequence)] }
  have broken : t.breakExchange b .unclaimed = w := by
    rw [State.breakExchange, branch]; simp only [hx, hk]; rfl
  have left : w.branch b = (s.branch b).released y := by
    simp [w, branch, Branch.released, hd]
  have direct : w.dropDirect b d .unclaimed = w := by
    rw [State.dropDirect, left]
    split
    · next pd hp => rw [if_neg (hn pd hp)]
    · rfl
  refine ⟨w, ?_, ((branchOnly_modBranch ..).trans (branchOnly_modBranch ..)).trans (branchOnly_modBranch ..),
    by simp [w, t, State.modLink], left⟩
  rw [eq, branch]
  simp only [hx, hd, if_true]
  rw [broken, direct]

end Sys2Proof.Machine
end


section
/-! SUPPORT. Doors are installed and removed. -/

namespace Sys2Proof.Machine

variable {s t u x : State} {p : PortId} {b : BranchId} {d : DropId} {i : DoorId}

/-! ### Doors -/

theorem onlyDoors_raiseBranchOff (s : State) (i : DoorId) : OnlyDoors s (s.raiseBranchOff i) := by
  rw [State.raiseBranchOff]
  split
  · exact onlyDoors_raiseCondition s i _
  · exact .refl s

theorem doorOnly_raiseBranchOff (s : State) (i : DoorId) : DoorOnly i s (s.raiseBranchOff i) := by
  rw [State.raiseBranchOff]
  split
  · exact doorOnly_raiseCondition s i _
  · exact .refl i s

/-- R8, R10: BRANCH_OFF of an installed door that does not carry it. -/
theorem door_raiseBranchOff (hi : (s.door i).installed = true) (hf : hasFault (s.door i).faults .branchOff = false) :
    (s.raiseBranchOff i).door i =
      if (s.branch (s.door i).branch).enable then s.door i else (s.door i).faulted .branchOff s.clock.time := by
  rw [State.raiseBranchOff, hi]
  cases (s.branch (s.door i).branch).enable with
  | true => simp
  | false => simp [State.door_raiseCondition, hf]

/-- A change of doors that leaves their places leaves who claims what. -/
theorem Door.cleared_of_not (x : Door) {k : FaultKind} (hf : removeFault x.faults k = x.faults)
    (hu : removeFault x.unacked k = x.unacked) : x.cleared k = x := by
  rw [Door.cleared, hf, hu]

/-! ### Installing -/

/-- R8: the record of a door that has been installed on a free pair. -/
def Door.placed (x : Door) (enabled : Bool) (now : Stamp) : Door :=
  if enabled then { x.unsettled with installed := true } else { x.unsettled.faulted .branchOff now with installed := true }

theorem install_effect (hu : (s.door i).state = .unknown) (hs : (s.door i).inService = true)
    (hf : (s.door i).faults = 0) (ha : (s.door i).unacked = 0) :
    let w := s.modDoor i fun d => { d with installed := true }
    let c := w.claimPair (s.door i).branch (s.door i).drop
    OnlyDoors c (State.install i s) ∧ DoorOnly i c (State.install i s) ∧
      (State.install i s).door i = (s.door i).placed (s.branch (s.door i).branch).enable s.clock.time := by
  intro w c
  have door : c.door i = { s.door i with installed := true } := by simp [c, w, State.claimPair]
  have branch : ∀ e, (c.branch e).enable = (s.branch e).enable := fun e => by
    simp only [c, State.claimPair, State.modLink, State.branch_modBranch]
    split
    · next h => subst h; simp [w]
    · simp [w]
  have raised : (c.raiseBranchOff i).door i = if (s.branch (s.door i).branch).enable then { s.door i with installed := true }
      else Door.faulted { s.door i with installed := true } .branchOff s.clock.time := by
    rw [door_raiseBranchOff (by rw [door]) (by rw [door]; simp [hasFault, hf]), door, branch]
    simp [c, w, State.claimPair]
  let v := c.raiseBranchOff i
  have unknown : (v.door i).state = .unknown := by
    simp only [v, raised]
    split <;> exact hu
  obtain ⟨only, unsettled⟩ := door_unsettle_rest (s := v) (i := i) (by rw [unknown]; rfl)
  have work : OnlyDoors c (State.install i s) :=
    ((onlyDoors_raiseBranchOff c i).trans (onlyDoors_unsettle v i)).trans (onlyDoors_updateNotControlled _ i)
  refine ⟨work, ((doorOnly_raiseBranchOff c i).trans only).trans (doorOnly_updateNotControlled _ i), ?_⟩
  have left : (v.unsettle i).door i = (s.door i).placed (s.branch (s.door i).branch).enable s.clock.time := by
    rw [unsettled, Door.blanked, if_pos unknown]
    simp only [v, raised, Door.placed]
    split <;> rfl
  have eq : State.install i s = (v.unsettle i).updateNotControlled i := rfl
  rw [eq, door_updateNotControlled_inService left]
  · refine Door.cleared_of_not _ ?_ ?_
    · rw [Door.placed]
      split
      · simp [Door.unsettled, hf, removeFault]
      · simp only [Door.unsettled, Door.faulted, hf]; decide
    · rw [Door.placed]
      split
      · simp [Door.unsettled, ha, removeFault]
      · simp only [Door.unsettled, Door.faulted, ha]; decide
  · rw [Door.placed]
    split <;> exact hs

/-! ### Removing -/

theorem ifPolled_undriven {y : Door} (h : y.state.drive = none) (j : DoorId) : s.ifPolled b j y = y := by
  rw [State.ifPolled, Door.polled_undriven h]
  exact ite_self y

/-- R8: SET of installed to yes, for an uninstalled door whose pair is free. -/
theorem setting_install {w : State} (hc : w.commands p = true) (hl : w.store.lockOpen = true)
    (hi : (w.door i).installed = false) (hp : w.pairTaken i (w.door i).branch (w.door i).drop = false) :
    w.setting p (.door (number i)) (.installed 1) = (State.install i w).answer .ok := by
  rw [State.setting, State.setInstalled, if_pos rfl]
  exact setInstallation_writes hc hl (by simp [hp]) (.inl hi) (by simp [hi]) State.install

/-- R9: SET of installed to no, for an installed door at rest. -/
theorem setting_remove {w : State} (hc : w.commands p = true) (hl : w.store.lockOpen = true)
    (hi : (w.door i).installed = true) (hr : (w.door i).state.isRest = true) :
    w.setting p (.door (number i)) (.installed 0) = (State.remove i w).answer .ok := by
  rw [State.setting, State.setInstalled, if_neg (by decide)]
  exact setInstallation_writes hc hl rfl (.inr hr) (by simp [hi]) State.remove

/-- R9: the ports as an item of a port is taken, and a door leaves the refresh cycles. -/
theorem leaveCycles_taking (s : State) (p : PortId) (it : Item) (i : DoorId) (q : PortId) :
    (((s.leaveCycles i).taking p it).port q).SameButMarks (((s.taking p it).leaveCycles i).port q) := by
  simp only [State.leaveCycles, State.port_mapPorts, State.taking, State.beginRequest, State.port_modPort]
  split <;> rfl

theorem free_leaveCycles (h : s.Free p) (i : DoorId) : (s.leaveCycles i).Free p :=
  ⟨h.1, by simpa [State.leaveCycles] using h.2⟩

/-- R9: what the removal of a door has written before its pair is released. -/
theorem removing (s : State) (p : PortId) (it : Item) (i : DoorId) :
    ∃ w, ((s.taking p it).modDoor i Door.removed).leaveCycles i = w ∧
      w = { s with doors := s.doors.set i (s.door i).removed, ports := w.ports } ∧
      ∀ q, (((s.leaveCycles i).taking p it).port q).SameButMarks (w.port q) := by
  have work := onlyDoors_modDoor (s.taking p it) i Door.removed
  refine ⟨_, rfl, ?_, fun q => (leaveCycles_taking s p it i q).trans ?_⟩
  · rw [State.leaveCycles, work.rest, State.modDoor_units, State.modDoor_doors, taking_rest, State.mapPorts]; rfl
  · have marks := work.ports q
    simp only [State.leaveCycles, State.port_mapPorts]
    rw [Port.SameButMarks] at marks ⊢
    rw [marks]

/-- Settles O36: an installation and a removal write the door, and then claim or release its pair. -/
theorem doorsAreInstalledAndRemoved : Obligations.DoorsAreInstalledAndRemoved := by
  intro s p i h
  refine ⟨fun hi hu hs hf ha free => ?_, fun hi hr hx hn => ?_, fun x b v hb hi hr _ hx hk hd hn hv hnext => ?_⟩
  · let w := s.taking p (.set (.installed 1) (.door (number i)))
    have owner : w.setting p (.door (number i)) (.installed 1) = (State.install i w).answer .ok :=
      setting_install (commands_taking h.1.2 _) (by simpa [w] using h.2) (by simpa [w] using hi) (by simpa [w] using free)
    obtain ⟨work, only, door⟩ := install_effect (s := w) (i := i) (by simpa [w] using hu) (by simpa [w] using hs)
      (by simpa [w] using hf) (by simpa [w] using ha)
    let c := (w.modDoor i fun d => { d with installed := true }).claimPair (w.door i).branch (w.door i).drop
    have claimed : OnlyLinks w c := (onlyDoors_modDoor w i _).links.trans (onlyLinks_claimPair _ _ _)
    have marks : ∀ q, (w.port q).SameButMarks (c.port q) := fun q =>
      ((onlyDoors_modDoor w i _).ports q).trans (sameButMarks_modBranch _ _ _ q)
    obtain ⟨t, ht, a⟩ := set_links (c := .setInstalled p (.door (number i)) 1) h.1.1 h.1.1 rfl (by simp [itemMalformed])
      owner ((claimed.trans work.links).from_taking) fun q => (marks q).trans (work.ports q)
    refine ⟨t, ht, ?_, fun j hj => ?_, ?_, a.unitsKept (only.units.trans ?_), a.outputs, a.answered⟩
    · rw [a.door, door]
      simp only [w, State.door_taking, State.branch_taking, State.taking_clock]; rfl
    · rw [a.door, only.others j hj]
      simp [w, State.claimPair, State.door_modDoor, hj]
    · rw [a.branches, work.branches]
      simp [w, State.claimPair, State.modLink]
    · simp [w, State.claimPair, State.modLink]
  · obtain ⟨w, hw, written, marks⟩ := removing s p (.set (.installed 0) (.door (number i))) i
    have branches : w.branches = s.branches := by rw [written]
    have branch : ∀ e, w.branch e = s.branch e := fun e => by rw [State.branch, branches]; rfl
    have released := releasePair_idle (s := w) (b := (s.door i).branch) (d := (s.door i).drop)
      (by rw [branch]; exact hx) (by rw [branch]; exact hn)
    have only : BranchOnly (s.door i).branch w (w.releasePair (s.door i).branch (s.door i).drop) := by
      rw [released]
      exact (branchOnly_modBranch ..).trans (branchOnly_modBranch ..)
    have owner : (s.taking p (.set (.installed 0) (.door (number i)))).setting p (.door (number i)) (.installed 0) =
        (w.releasePair (s.door i).branch (s.door i).drop).answer .ok := by
      refine (setting_remove (commands_taking h.1.2 _) (by simpa using h.2) (by simpa using hi) (by simpa using hr)).trans ?_
      rw [State.remove, hw, State.door_taking]
    obtain ⟨t, ht, a⟩ := set_links (c := .setInstalled p (.door (number i)) 0) h.1.1 (free_leaveCycles h.1.1 i) rfl
      (by simp [itemMalformed]) owner (by rw [only.rest, written]) fun q => (marks q).trans (only.ports q)
    have doors : t.doors = s.doors.set i (s.door i).removed := by
      rw [a.doors, released]; simp only [State.modLink, State.modBranch_doors]; rw [written]
    refine ⟨t, ht, by simp [State.door, doors], fun j hj => ?_, ?_, a.unitsKept (by rw [only.units, written]), a.outputs,
      a.answered⟩
    · have : i.val ≠ j.val := fun e => hj (Fin.ext e.symm)
      simp [State.door, doors, this]
    · rw [a.branches, released]
      simp only [State.modLink, State.modBranch_branches, State.branch_modBranch_self, branches, branch]
  · subst hb
    obtain ⟨w, hw, written, marks⟩ := removing s p (.set (.installed 0) (.door (number i))) i
    have branches : w.branches = s.branches := by rw [written]
    have branch : ∀ e, w.branch e = s.branch e := fun e => by rw [State.branch, branches]; rfl
    obtain ⟨y, eq, release, doors, left⟩ := releasePair_polled (s := w) (d := (s.door i).drop)
      (by rw [branch]; exact hx) hk hd (by rw [branch, ← hd]; exact hn)
    have doors' : y.doors = s.doors.set i (s.door i).removed := by rw [doors, written]
    have door : ∀ j, y.door j = if j = i then (s.door i).removed else s.door j := fun j => by
      by_cases hj : j = i
      · simp [State.door, doors', hj]
      · have : i.val ≠ j.val := fun e => hj (Fin.ext e.symm)
        simp [State.door, doors', hj, this]
    have vbranch : v.branch (s.door i).branch =
        { s.branch (s.door i).branch with members := (s.branch (s.door i).branch).members.filter fun e => e ≠ x.drop } := by
      simp [hv, State.branch]
    rw [branch] at left
    have same : SameRound (s.door i).branch v y :=
      ⟨by rw [left, vbranch]; rfl, by rw [left, vbranch]; rfl, by rw [left, vbranch]; rfl,
        by rw [release.runCount, written, hv], claimant_of_doors (doors'.trans (by rw [hv])) _⟩
    obtain ⟨ended, polled, goes⟩ := exchangeEnded_effect (s := y) (b := (s.door i).branch) (by rw [left]; rfl)
      fun d hd => by rw [left]; exact hnext d (by rw [← same.nextPoll]; exact hd)
    have owner : (s.taking p (.set (.installed 0) (.door (number i)))).setting p (.door (number i)) (.installed 0) =
        (y.exchangeEnded (s.door i).branch).answer .ok := by
      refine (setting_remove (commands_taking h.1.2 _) (by simpa using h.2) (by simpa using hi) (by simpa using hr)).trans ?_
      rw [State.remove, hw, State.door_taking, eq]
    have only := release.trans ended
    obtain ⟨t, ht, a⟩ := set_links (c := .setInstalled p (.door (number i)) 0) h.1.1 (free_leaveCycles h.1.1 i) rfl
      (by simp [itemMalformed]) owner (by rw [only.rest, written]) fun q => (marks q).trans (only.ports q)
    refine ⟨t, ht, ?_, fun j hj => ?_, fun c hc => ?_, ?_, a.unitsKept (by rw [only.units, written]), a.outputs,
      a.answered⟩
    · rw [a.door, polled, door, if_pos rfl]
      exact ifPolled_undriven rfl i
    · rw [a.door, polled, door, if_neg hj, same.ifPolled]
    · rw [a.branch, only.others c hc]
      exact branch c
    · rw [vbranch]
      rw [left] at goes
      exact (goes.congr same).result (a.branch _) (a.commands (by rw [only.holds, written]))

end Sys2Proof.Machine
end


section
/-! SUPPORT. Doors that take another pair. -/

namespace Sys2Proof.Machine

variable {s t u x : State} {p : PortId} {b nb : BranchId} {d nd : DropId} {i : DoorId}

theorem hasFault_removeFault (f : FaultSet) (k : FaultKind) : hasFault (removeFault f k) k = false := by
  rw [hasFault, removeFault, BitVec.getLsbD_and]
  cases k <;> simp [FaultKind.only, FaultKind.bit]

theorem hasFault_cleared (y : Door) (k : FaultKind) : hasFault (y.cleared k).faults k = false := hasFault_removeFault _ k

/-- R10: the record of a door that has taken the pair. -/
def Door.rehomed (y : Door) (nb : BranchId) (nd : DropId) (enabled : Bool) (now : Stamp) : Door :=
  if enabled then { (y.cleared .linkLost).cleared .branchOff with branch := nb, drop := nd }
  else { ((y.cleared .linkLost).cleared .branchOff).faulted .branchOff now with branch := nb, drop := nd }

theorem Door.rehomed_state (y : Door) (nb : BranchId) (nd : DropId) (enabled : Bool) (now : Stamp) :
    (y.rehomed nb nd enabled now).state = y.state := by
  rw [Door.rehomed]
  split <;> rfl

/-- R10, R149: what an installed door at rest that has a new pair has had written before the old one is released. -/
theorem moved_effect {c : State} (hi : (c.door i).installed = true) (hr : (c.door i).state.isRest = true) :
    ∃ y, (((c.clearFault i .linkLost).clearFault i .branchOff).raiseBranchOff i).unsettle i = y ∧
      OnlyDoors c y ∧ DoorOnly i c y ∧ y.door i = ((c.door i).rehomed (c.door i).branch (c.door i).drop
        (c.branch (c.door i).branch).enable c.clock.time).blanked c.settingsHold := by
  let k := (c.clearFault i .linkLost).clearFault i .branchOff
  have kd : k.door i = ((c.door i).cleared .linkLost).cleared .branchOff := by
    simp only [k, State.door_clearFault, if_true]
  have ck : OnlyDoors c k := (onlyDoors_clearFault c i _).trans (onlyDoors_clearFault _ i _)
  have ck' : DoorOnly i c k := (doorOnly_clearFault c i _).trans (doorOnly_clearFault _ i _)
  have work := ck.trans (onlyDoors_raiseBranchOff k i)
  have rd : (k.raiseBranchOff i).door i = (c.door i).rehomed (c.door i).branch (c.door i).drop
      (c.branch (c.door i).branch).enable c.clock.time := by
    rw [door_raiseBranchOff (by rw [kd]; exact hi) (by rw [kd]; exact hasFault_cleared _ _), ck.branch, ck.clock, kd]
    rfl
  obtain ⟨only, blanked⟩ := door_unsettle_rest (s := k.raiseBranchOff i) (i := i)
    (by rw [rd, Door.rehomed_state]; exact hr)
  exact ⟨_, rfl, work.trans (onlyDoors_unsettle _ i), (ck'.trans (doorOnly_raiseBranchOff k i)).trans only,
    by rw [blanked, rd, work.settingsHold]⟩

/-- R10: what a new pair of an installed door at rest has written before the old one is released. -/
theorem writePair_effect {w : State} {f : Door → Door} (hi : (w.door i).installed = true)
    (hr : (w.door i).state.isRest = true) (hf : f (w.door i) = { w.door i with branch := nb, drop := nd }) :
    ∃ y, w.writePair i f = y.releasePair (w.door i).branch (w.door i).drop ∧ OnlyLinks w y ∧
      (∀ q, (w.port q).SameButMarks (y.port q)) ∧ y.units = w.units ∧
      y.branches = (w.modLink nb nd fun _ => DropLink.fresh).branches ∧
      ∀ j, y.door j = if j = i then
        ((w.door i).rehomed nb nd (w.branch nb).enable w.clock.time).blanked w.settingsHold else w.door j := by
  have md : (w.modDoor i f).door i = { w.door i with branch := nb, drop := nd } := by simp [hf]
  obtain ⟨c, hc⟩ : ∃ c, c = (w.modDoor i f).claimPair nb nd := ⟨_, rfl⟩
  have cd : c.door i = { w.door i with branch := nb, drop := nd } := by rw [← md, hc]; simp [State.claimPair]
  have claimed : OnlyLinks w c := by
    rw [hc]
    exact (onlyDoors_modDoor w i f).links.trans (onlyLinks_claimPair _ nb nd)
  have marks : ∀ q, (w.port q).SameButMarks (c.port q) := fun q => by
    rw [hc]
    exact ((onlyDoors_modDoor w i f).ports q).trans (sameButMarks_modBranch _ _ _ q)
  have branches : c.branches = (w.modLink nb nd fun _ => DropLink.fresh).branches := by
    simp [hc, State.claimPair, State.modLink]
  have enable : (c.branch nb).enable = (w.branch nb).enable := by
    simp [hc, State.claimPair, State.modLink]
  obtain ⟨y, eq, work, only, door⟩ := moved_effect (c := c) (i := i) (by rw [cd]; exact hi) (by rw [cd]; exact hr)
  refine ⟨y, ?_, claimed.trans work.links, fun q => (marks q).trans (work.ports q), ?_, work.branches.trans branches,
    fun j => ?_⟩
  · have moves : w.writePair i f = (w.modDoor i f).moved i (w.door i).branch (w.door i).drop := by
      simp only [State.writePair, hi, if_true]
    rw [moves, State.moved, md, ← eq, hc]
  · rw [only.units, hc]
    simp [State.claimPair]
  · by_cases hj : j = i
    · have hold : c.settingsHold = w.settingsHold := by rw [claimed.rest]
      have clock : c.clock = w.clock := by rw [claimed.rest]
      rw [hj, door, if_pos rfl, cd, hold, clock, ← enable]
      simp only [Door.rehomed]
      split <;> rfl
    · rw [only.others j hj, if_neg hj, hc]
      simp [State.claimPair, State.door_modDoor, hj]

/-- R5, R6: SET of branch or drop to another value, for an uninstalled door or one at rest whose new pair is free. -/
theorem set_pair {c : Instr} (h : s.MayInstall p)
    (hc : c = .setBranch p (.door (number i)) (number nb) ∧ nd = (s.door i).drop ∧ nb ≠ (s.door i).branch ∨
      c = .setDrop p (.door (number i)) (number nd) ∧ nb = (s.door i).branch ∧ nd ≠ (s.door i).drop)
    (hi : (s.door i).installed = false ∨ (s.door i).state.isRest = true ∧ s.pairTaken i nb nd = false) :
    ∃ w f, c.item = some (p, .set w (.door (number i))) ∧ f (s.door i) = { s.door i with branch := nb, drop := nd } ∧
      (s.taking p (.set w (.door (number i)))).setting p (.door (number i)) w =
        ((s.taking p (.set w (.door (number i)))).writePair i f).answer .ok := by
  have rest : ∀ it, ((s.taking p it).door i).installed = false ∨ ((s.taking p it).door i).state.isRest = true := fun it => by
    rw [State.door_taking]; exact hi.imp_right And.left
  have free : ∀ it, (s.taking p it).pairFree i nb nd = true := fun it => by
    rw [State.pairFree, State.door_taking, pairTaken_taking]
    obtain hi | hi := hi <;> simp [hi]
  have unlocked : ∀ it, (s.taking p it).store.lockOpen = true := fun it => by rw [State.taking_store]; exact h.2
  obtain ⟨rfl, rfl, hne⟩ | ⟨rfl, rfl, hne⟩ := hc
  · refine ⟨.branch (number nb), fun d => { d with branch := nb }, rfl, rfl, ?_⟩
    rw [State.setting, State.setBranch, numbered_number]
    refine setInstallation_writes (commands_taking h.1.2 _) (unlocked _) ?_ (rest _) ?_
      fun i s => s.writePair i fun d => { d with branch := nb }
    · simpa only [State.door_taking] using free _
    · simpa only [State.door_taking, decide_eq_false_iff_not] using Ne.symm hne
  · refine ⟨.drop (number nd), fun d => { d with drop := nd }, rfl, rfl, ?_⟩
    rw [State.setting, State.setDrop, numbered_number]
    refine setInstallation_writes (commands_taking h.1.2 _) (unlocked _) ?_ (rest _) ?_
      fun i s => s.writePair i fun d => { d with drop := nd }
    · simpa only [State.door_taking] using free _
    · simpa only [State.door_taking, decide_eq_false_iff_not] using Ne.symm hne

/-- R10: the state that a SET of branch or drop of an installed door at rest has led to before the old pair is
released. -/
theorem set_pair_installed {c : Instr} (h : s.MayInstall p)
    (hc : c = .setBranch p (.door (number i)) (number nb) ∧ nd = (s.door i).drop ∧ nb ≠ (s.door i).branch ∨
      c = .setDrop p (.door (number i)) (number nd) ∧ nb = (s.door i).branch ∧ nd ≠ (s.door i).drop)
    (hi : (s.door i).installed = true) (hr : (s.door i).state.isRest = true) (hp : s.pairTaken i nb nd = false) :
    ∃ (w : SettingWrite) (y : State), c.item = some (p, .set w (.door (number i))) ∧
      (s.taking p (.set w (.door (number i)))).setting p (.door (number i)) w =
        (y.releasePair (s.door i).branch (s.door i).drop).answer .ok ∧
      y = { s with doors := y.doors, branches := y.branches, ports := y.ports } ∧
      (∀ q, ((s.taking p (.set w (.door (number i)))).port q).SameButMarks (y.port q)) ∧
      y.branches = (s.modLink nb nd fun _ => DropLink.fresh).branches ∧
      ∀ j, y.door j = if j = i then
        ((s.door i).rehomed nb nd (s.branch nb).enable s.clock.time).blanked s.settingsHold else s.door j := by
  obtain ⟨w, f, item, written, owner⟩ := set_pair h hc (.inr ⟨hr, hp⟩)
  obtain ⟨y, eq, work, marks, units, branches, door⟩ := writePair_effect
    (w := s.taking p (.set w (.door (number i)))) (i := i) (f := f) (by rw [State.door_taking]; exact hi)
    (by rw [State.door_taking]; exact hr) (by rw [State.door_taking]; exact written)
  refine ⟨w, y, item, by rw [owner, eq, State.door_taking], ?_, marks, ?_, fun j => ?_⟩
  · have frame := work.from_taking
    rw [units, State.taking_units] at frame
    exact frame
  · rw [branches]
    simp [State.modLink]
  · rw [door]
    simp only [State.door_taking, State.branch_taking, State.taking_clock, State.taking_settingsHold]

end Sys2Proof.Machine
end


section
/-! SUPPORT. SETs of branch and drop. -/

namespace Sys2Proof.Machine

variable {s t u x : State} {p : PortId} {b nb : BranchId} {d nd : DropId} {i : DoorId}

theorem branches_modBranch (h : t.branches = s.branches) (b : BranchId) (f : Branch → Branch) :
    (t.modBranch b f).branches = (s.modBranch b f).branches := by
  simp only [State.modBranch_branches, State.branch, h]

theorem branch_of_branches (h : t.branches = s.branches) (c : BranchId) : t.branch c = s.branch c := by
  rw [State.branch, h]; rfl

/-- The claim of a pair leaves everything of a branch but its pairs. -/
theorem branch_modLink (s : State) (nb c : BranchId) (nd : DropId) (f : DropLink → DropLink) :
    (s.modLink nb nd f).branch c = { s.branch c with drops := ((s.modLink nb nd f).branch c).drops } := by
  simp only [State.modLink, State.branch_modBranch]
  split
  · next h => rw [h]
  · rfl

/-- R45: an unsettled door at rest has no drive command. -/
theorem Door.drive_blanked (y : Door) (hold : Bool) : (y.blanked hold).state.drive = none := by
  rw [Door.blanked]
  split
  · next hu => simp only [Door.unsettled, hu]; rfl
  · rfl

/-- Settles O37: the SET writes the new pair, claims it and unsettles the door, and then releases the old pair. -/
theorem movedDoorsTakeTheNewPair : Obligations.MovedDoorsTakeTheNewPair := by
  intro s p i c nb nd h hc
  refine ⟨fun hi hr hp hx hn => ?_, fun x b d v hb hi hr hp _ hx hk hd hn hD hv hnext => ?_, fun hi => ?_⟩
  · obtain ⟨w, y, item, owner, frame, marks, branches, door⟩ := set_pair_installed h hc hi hr hp
    have branch : y.branch (s.door i).branch = { s.branch (s.door i).branch with drops := (y.branch (s.door i).branch).drops } := by
      rw [branch_of_branches branches]
      exact branch_modLink s nb _ nd _
    have released := releasePair_idle (s := y) (b := (s.door i).branch) (d := (s.door i).drop)
      (by rw [branch]; exact hx) (by rw [branch]; exact hn)
    have only : BranchOnly (s.door i).branch y (y.releasePair (s.door i).branch (s.door i).drop) := by
      rw [released]
      exact (branchOnly_modBranch ..).trans (branchOnly_modBranch ..)
    obtain ⟨t, ht, a⟩ := set_links h.1.1 h.1.1 item (by simp [itemMalformed]) owner (by rw [only.rest, frame])
      fun q => (marks q).trans (only.ports q)
    have kept : ∀ j, t.door j = y.door j := fun j => by rw [a.door, released]; simp
    refine ⟨t, ht, ?_, fun j hj => ?_, ?_, a.unitsKept (by rw [only.units, frame]), a.outputs, a.answered⟩
    · rw [kept, door, if_pos rfl, Door.rehomed]
    · rw [kept, door, if_neg hj]
    · rw [a.branches, released]
      exact branches_modBranch (branches_modBranch branches _ _) _ _
  · subst hb
    obtain ⟨w, y, item, owner, frame, marks, branches, door⟩ := set_pair_installed h hc hi hr hp
    have branch : y.branch (s.door i).branch = { s.branch (s.door i).branch with drops := (y.branch (s.door i).branch).drops } := by
      rw [branch_of_branches branches]
      exact branch_modLink s nb _ nd _
    obtain ⟨z, eq, release, doors, left⟩ := releasePair_polled (s := y) (d := (s.door i).drop) (y := x)
      (by rw [branch]; exact hx) hk hd (by rw [branch, ← hd]; exact hn)
    have zdoor : ∀ j, z.door j = if j = i then d else s.door j := fun j => by
      rw [State.door, doors]
      exact (door j).trans (by rw [hD, Door.rehomed])
    have vdoor : ∀ j, v.door j = if j = i then d else s.door j := fun j => by
      by_cases hj : j = i
      · simp [hv, State.door, hj]
      · have : i.val ≠ j.val := fun e => hj (Fin.ext e.symm)
        simp [hv, State.door, hj, this]
    have vbranch : ∀ c, v.branch c = if c = (s.door i).branch then
        { y.branch c with
          drops := (y.branch c).drops.set x.drop DropLink.fresh
          members := (s.branch c).members.filter fun e => e ≠ x.drop }
        else y.branch c := fun c => by
      have eq : v.branch c = (((s.modLink nb nd fun _ => DropLink.fresh).modLink (s.door i).branch x.drop fun _ =>
          DropLink.fresh).modBranch (s.door i).branch fun y =>
            { y with members := y.members.filter fun e => e ≠ x.drop }).branch c := by rw [hv]; rfl
      rw [eq, State.modLink, State.branch_modBranch, State.branch_modBranch, State.branch_modBranch]
      split
      · next h => subst h; rw [if_pos rfl, branch_of_branches branches, branch_modLink s]
      · rw [branch_of_branches branches]
    have zbranch : z.branch (s.door i).branch = (y.branch (s.door i).branch).released x := left
    have yv : (y.branch (s.door i).branch).released x = { v.branch (s.door i).branch with
        exchange := none, broken := (s.branch (s.door i).branch).broken ++ [(x.drop, x.sequence)] } := by
      rw [vbranch, if_pos rfl, Branch.released, branch]
    have same : SameRound (s.door i).branch v z :=
      ⟨by rw [zbranch, yv], by rw [zbranch, yv], by rw [zbranch, yv], by rw [release.runCount, frame, hv],
        claimant_congr (fun j => by rw [zdoor, vdoor]; exact ⟨rfl, rfl, rfl⟩) _⟩
    obtain ⟨ended, polled, goes⟩ := exchangeEnded_effect (s := z) (b := (s.door i).branch) (by rw [zbranch]; rfl)
      fun e he => by
        rw [zbranch, Branch.released, branch]
        exact hnext e (by rw [← same.nextPoll]; exact he)
    have only := release.trans ended
    obtain ⟨t, ht, a⟩ := set_links h.1.1 h.1.1 item (by simp [itemMalformed]) (owner.trans (by rw [eq]))
      (by rw [only.rest, frame]) fun q => (marks q).trans (only.ports q)
    have still : d.state.drive = none := by rw [hD]; exact Door.drive_blanked _ _
    refine ⟨t, ht, ?_, fun j hj => ?_, fun c hc => ?_, ?_, a.unitsKept (by rw [only.units, frame]), a.outputs, a.answered⟩
    · rw [a.door, polled, zdoor, if_pos rfl]
      exact ifPolled_undriven still i
    · rw [a.door, polled, zdoor, if_neg hj, same.ifPolled]
    · rw [a.branch, only.others c hc, vbranch, if_neg hc]
    · rw [zbranch, yv] at goes
      exact (goes.congr same).result (a.branch _) (a.commands (by rw [only.holds, frame]))
  · obtain ⟨w, f, item, written, owner⟩ := set_pair h hc (.inl hi)
    have write : (s.taking p (.set w (.door (number i)))).writePair i f = (s.taking p (.set w (.door (number i)))).modDoor i f := by
      simp only [State.writePair, State.door_taking, hi, Bool.false_eq_true, if_false]
    rw [write] at owner
    obtain ⟨t, ht, a⟩ := set_doors h.1.1 item (by simp [itemMalformed]) owner (onlyDoors_modDoor _ i f)
    refine ⟨t, ht, ?_, fun j hj => ?_, a.onlyDoors (by simp), a.outputs, a.answered⟩
    · rw [a.door, State.door_modDoor_self, State.door_taking, written]
    · rw [a.door, State.door_modDoor, if_neg hj, State.door_taking]

end Sys2Proof.Machine
end


section
/-! SUPPORT. Branches are disabled and enabled. -/

namespace Sys2Proof.Machine

variable {s t u x : State} {p : PortId} {b : BranchId} {d : DropId} {i : DoorId}

/-! ### Doors that lose their indication -/

/-- R70: the end of what a door in no list has in flight changes its stroke record and drive-off instant alone. -/
theorem door_endWork_unlisted (hu : s.Unlisted i) :
    (s.endWork i).door i = { s.door i with
      stroke := ((s.endWork i).door i).stroke, driveOff := ((s.endWork i).door i).driveOff } := by
  obtain ⟨stroke, -, -⟩ := door_endStroke_self hu
  simp only [State.endWork]
  split
  · rw [(unitOnly_leaveList s i).door]
  · rw [stroke]; rfl
  · rw [stroke]; rfl
  · rw [stroke]; rfl
  · rfl

/-- R36, R54, R70: an unsettled door in no list becomes UNKNOWN. -/
theorem door_unsettle_unlisted (hu : s.Unlisted i) :
    ((s.unsettle i).door i).state = .unknown ∧ ((s.unsettle i).door i).indication = .unknown ∧
      ((s.unsettle i).door i).phase = .awaiting ∧ ((s.unsettle i).door i).faults = (s.door i).faults ∧
      (s.unsettle i).Unlisted i := by
  let t := s.modDoor i Door.unsettled
  have door : t.door i = (s.door i).unsettled := State.door_modDoor_self ..
  have unlisted : t.Unlisted i := (doorOnly_modDoor s i _).unlisted hu
  by_cases hr : (s.door i).state.isRest = true
  · obtain ⟨only, blanked⟩ := door_unsettle_rest hr
    rw [blanked, Door.blanked]
    refine ⟨?_, ?_, ?_, ?_, only.unlisted hu⟩
    · split
      · next h => exact h
      · rfl
    all_goals split <;> rfl
  · have eq : s.unsettle i = t.stopToRest i := by
      have moving : ¬ (t.door i).state.isRest = true := by rw [door]; exact hr
      have lost : (t.door i).indication = .unknown := by rw [door]; rfl
      rw [State.unsettle, State.takeIndication, if_neg moving, if_pos lost]
    have ended := door_endWork_unlisted unlisted
    have stands : (t.stopToRest i).door i = ((t.endWork i).door i).rested .unknown (t.endWork i).settingsHold := by
      have indication : ((t.endWork i).door i).indication = .unknown := by rw [ended, door]; rfl
      rw [State.stopToRest, door_enterIndicated_self, indication]
      exact Door.demandTaken_state ⟨by simp [Door.rested, Indication.restState],
        by simp [Door.rested, Indication.restState]⟩ _ _
    rw [eq, stands, ended, door]
    exact ⟨rfl, rfl, rfl, rfl, (doorOnly_enterIndicated _ i).unlisted (unlisted_endWork unlisted)⟩

/-- R147: a door of a branch that is disabled. -/
theorem onlyDoors_doorBranchOff (i : DoorId) (s : State) : OnlyDoors s (State.doorBranchOff i s) :=
  ((onlyDoors_clearFault s i _).trans (onlyDoors_raiseCondition _ i _)).trans (onlyDoors_unsettle _ i)

theorem spares_doorBranchOff (j : DoorId) (s : State) (hj : j ≠ i) : Spares i s (State.doorBranchOff j s) :=
  (((doorOnly_clearFault s j _).trans (doorOnly_raiseCondition _ j _)).spares hj).trans (spares_unsettle _ hj)

/-- R147: a door as a disabled branch leaves it, before it is unsettled. -/
def Door.cutOffBranch (y : Door) (now : Stamp) : Door :=
  if hasFault y.faults .branchOff then y.cleared .linkLost else (y.cleared .linkLost).faulted .branchOff now

theorem hasFault_branchOff_cleared (y : Door) :
    hasFault (y.cleared .linkLost).faults .branchOff = hasFault y.faults .branchOff := by
  rw [Door.cleared, hasFault, removeFault, BitVec.getLsbD_and]
  simp [FaultKind.only, FaultKind.bit, hasFault]

theorem door_cutting (s : State) (i : DoorId) :
    ((s.clearFault i .linkLost).raiseCondition i .branchOff).door i = (s.door i).cutOffBranch s.clock.time := by
  have cleared : (s.clearFault i .linkLost).door i = (s.door i).cleared .linkLost := by
    rw [State.door_clearFault, if_pos rfl]
  rw [State.door_raiseCondition, cleared, hasFault_branchOff_cleared, Door.cutOffBranch, (onlyDoors_clearFault s i _).clock]
  cases hasFault (s.door i).faults .branchOff <;> simp

theorem hasFault_cutOffBranch (y : Door) (now : Stamp) : hasFault (y.cutOffBranch now).faults .branchOff = true ∧
    hasFault (y.cutOffBranch now).faults .linkLost = false := by
  rw [Door.cutOffBranch]
  split
  · next h => exact ⟨by rw [hasFault_branchOff_cleared]; exact h, hasFault_cleared y _⟩
  · have other : hasFault (addFault (removeFault y.faults .linkLost) .branchOff) .linkLost = false := by
      rw [hasFault_addFault, hasFault_removeFault]; rfl
    exact ⟨by simp [Door.faulted, hasFault_addFault], other⟩

theorem Door.cutOffBranch_state (y : Door) (now : Stamp) : (y.cutOffBranch now).state = y.state := by
  rw [Door.cutOffBranch]
  split <;> rfl

/-- R147: a door of a disabled branch that waits in no list. -/
theorem door_doorBranchOff_unlisted (hu : s.Unlisted i) :
    ((State.doorBranchOff i s).door i).state = .unknown ∧ ((State.doorBranchOff i s).door i).indication = .unknown ∧
      ((State.doorBranchOff i s).door i).phase = .awaiting ∧
      hasFault ((State.doorBranchOff i s).door i).faults .branchOff = true ∧
      hasFault ((State.doorBranchOff i s).door i).faults .linkLost = false ∧ (State.doorBranchOff i s).Unlisted i := by
  have only := (doorOnly_clearFault s i .linkLost).trans (doorOnly_raiseCondition _ i .branchOff)
  obtain ⟨state, indication, phase, faults, unlisted⟩ := door_unsettle_unlisted (only.unlisted hu)
  obtain ⟨raised, left⟩ := hasFault_cutOffBranch (s.door i) s.clock.time
  rw [door_cutting] at faults
  exact ⟨state, indication, phase, by rw [State.doorBranchOff, faults]; exact raised,
    by rw [State.doorBranchOff, faults]; exact left, unlisted⟩

/-- R147: a door of a disabled branch at rest. -/
theorem makes_doorBranchOff (hr : (s.door i).state.isRest = true) :
    s.Makes i (State.doorBranchOff i) (((s.door i).cutOffBranch s.clock.time).blanked s.settingsHold) := by
  have taken : ∀ t, s.Untaken i t → DoorOnly i t (State.doorBranchOff i t) ∧
      (State.doorBranchOff i t).door i = ((s.door i).cutOffBranch s.clock.time).blanked s.settingsHold := fun t ht => by
    have door : ((t.clearFault i .linkLost).raiseCondition i .branchOff).door i = (s.door i).cutOffBranch s.clock.time := by
      rw [door_cutting, ht.door, ht.rest.clock]
    have work := (onlyDoors_clearFault t i .linkLost).trans (onlyDoors_raiseCondition _ i .branchOff)
    obtain ⟨only, blanked⟩ := door_unsettle_rest (s := (t.clearFault i .linkLost).raiseCondition i .branchOff) (i := i)
      (by rw [door, Door.cutOffBranch_state]; exact hr)
    exact ⟨((doorOnly_clearFault t i _).trans (doorOnly_raiseCondition _ i _)).trans only,
      by rw [State.doorBranchOff, blanked, door, work.settingsHold, ht.rest.settingsHold]⟩
  exact ⟨fun t ht => (taken t ht).1, fun t _ => onlyDoors_doorBranchOff i t, fun t ht => (taken t ht).2⟩

/-! ### Disabling -/

theorem answerDirect_none (h : (s.branch b).pendingDirect = none) (r : Result) (data : List Byte) :
    s.answerDirect b r data = s := by
  rw [State.answerDirect, h]

/-- R147: an exchange in flight of a branch without a pending direct exchange is broken off. -/
theorem breakExchange_eq (h : (s.branch b).pendingDirect = none) (r : Result) :
    BranchOnly b s (s.breakExchange b r) ∧ (s.breakExchange b r).doors = s.doors ∧
      (s.breakExchange b r).branch b = { s.branch b with
        exchange := none
        broken := (s.branch b).broken ++ ((s.branch b).exchange.map fun x => (x.drop, x.sequence)).toList } := by
  cases hx : (s.branch b).exchange with
  | none =>
    have kept : s.breakExchange b r = s := by rw [State.breakExchange, hx]
    have same : s.branch b = { s.branch b with exchange := none, broken := (s.branch b).broken ++ [] } := by
      rw [← hx, List.append_nil]
    rw [kept]
    exact ⟨.refl b s, rfl, same⟩
  | some y =>
    let t := s.modBranch b fun z => { z with exchange := none, broken := z.broken ++ [(y.drop, y.sequence)] }
    have direct : t.answerDirect b r [] = t := answerDirect_none (by simpa [t] using h) r []
    have broke : s.breakExchange b r = t := by
      simp only [State.breakExchange, hx]
      split
      · rfl
      · exact direct
    rw [broke]
    exact ⟨branchOnly_modBranch .., by simp [t], by simp [t]⟩

theorem doorsOfBranch_of_doors (h : t.doors = s.doors) (b : BranchId) : t.doorsOfBranch b = s.doorsOfBranch b := by
  simp only [State.doorsOfBranch, State.doorsWhere, State.door, h]
  rfl

/-- R147: what a disabled branch becomes. -/
def Branch.disabled (y : Branch) : Branch :=
  { y with
    enable := false, exchange := none, members := [], roundTimer := none, roundCounter := 0
    drops := Vector.replicate 12 DropLink.fresh
    broken := y.broken ++ (y.exchange.map fun x => (x.drop, x.sequence)).toList }

/-- R147: a branch without a pending direct exchange is disabled, and then its doors are taken. -/
theorem disableBranch_eq (h : (s.branch b).pendingDirect = none) :
    ∃ v, s.disableBranch b = v.forDoors (s.doorsOfBranch b) State.doorBranchOff ∧ BranchOnly b s v ∧ v.doors = s.doors ∧
      v.branch b = (s.branch b).disabled := by
  obtain ⟨e, he⟩ : ∃ e, e = s.modBranch b fun x => { x with enable := false } := ⟨_, rfl⟩
  have enabled : e.branch b = { s.branch b with enable := false } := by rw [he, State.branch_modBranch_self]
  obtain ⟨broken, doors, branch⟩ := breakExchange_eq (s := e) (b := b) (by rw [enabled]; exact h) .branchOff
  obtain ⟨v, hv⟩ : ∃ v, v = (e.breakExchange b .branchOff).modBranch b fun x =>
    { x with members := [], roundTimer := none, roundCounter := 0, drops := Vector.replicate 12 DropLink.fresh } := ⟨_, rfl⟩
  have left : v.branch b = (s.branch b).disabled := by
    rw [hv, State.branch_modBranch_self, branch, enabled]; rfl
  have same : v.doors = s.doors := by rw [hv, State.modBranch_doors, doors, he, State.modBranch_doors]
  have eq : s.disableBranch b = (v.answerDirect b .branchOff []).forDoors
      ((v.answerDirect b .branchOff []).doorsOfBranch b) State.doorBranchOff := by rw [hv, he]; rfl
  refine ⟨v, ?_, ?_, same, left⟩
  · rw [eq, answerDirect_none (by rw [left]; exact h), doorsOfBranch_of_doors same]
  · have first : BranchOnly b s e := by rw [he]; exact branchOnly_modBranch ..
    have last : BranchOnly b (e.breakExchange b .branchOff) v := by rw [hv]; exact branchOnly_modBranch ..
    exact (first.trans broken).trans last

/-! ### Enabling -/

theorem makes_clearFault (s : State) (i : DoorId) (k : FaultKind) :
    s.Makes i (fun t => t.clearFault i k) ((s.door i).cleared k) :=
  ⟨fun t _ => doorOnly_clearFault t i k, fun t _ => onlyDoors_clearFault t i k,
    fun t ht => by rw [State.door_clearFault, if_pos rfl, ht.door]⟩

/-- R148: the doors of a branch that is enabled, before its round starts. -/
theorem enableBranch_eq (s : State) (b : BranchId) :
    ∃ v, s.enableBranch b = v.startRound b ∧ BranchOnly b s v ∧ v.branch b = { s.branch b with enable := true } ∧
      ∀ j, v.door j = if (s.door j).installed ∧ (s.door j).branch = b then (s.door j).cleared .branchOff else s.door j := by
  obtain ⟨e, he⟩ : ∃ e, e = s.modBranch b fun x => { x with enable := true } := ⟨_, rfl⟩
  have first : BranchOnly b s e := by rw [he]; exact branchOnly_modBranch ..
  have door : ∀ j, e.door j = s.door j := fun j => by rw [he]; simp
  obtain ⟨work, units, doors⟩ := forDoors_effect (s := e) (f := fun i t => t.clearFault i .branchOff)
    (l := e.doorsOfBranch b) e (fun i _ => makes_clearFault e i .branchOff) (.refl e) rfl (fun _ _ => rfl) (doorsWhere_nodup e _)
  refine ⟨_, by rw [State.enableBranch, ← he], first.trans ⟨?_, work.ports, fun c _ => work.branch c⟩, ?_, fun j => ?_⟩
  · rw [work.rest, units]
  · rw [work.branch, he, State.branch_modBranch_self]
  · rw [doors]
    simp only [State.doorsOfBranch, mem_doorsWhere, door, decide_eq_true_eq]

theorem setting_disable (h : s.MayInstall p) (he : (s.branch b).enable = true) (it : Item) :
    (s.taking p it).setting p (.branch (number b)) (.enable 0) = ((s.taking p it).disableBranch b).answer .ok := by
  rw [State.setting, State.setEnable, setBranchSetting_legal h it b (decide_eq_true (by omega)), State.branch_taking, he]
  rfl

theorem setting_enable (h : s.MayInstall p) (he : (s.branch b).enable = false) (it : Item) :
    (s.taking p it).setting p (.branch (number b)) (.enable 1) = ((s.taking p it).enableBranch b).answer .ok := by
  rw [State.setting, State.setEnable, setBranchSetting_legal h it b (decide_eq_true (by omega)), State.branch_taking, he]
  rfl

/-- R138: the value of enable that a branch already holds. -/
theorem setting_enable_same {v : Nat} (h : s.MayInstall p)
    (hv : v = 0 ∧ (s.branch b).enable = false ∨ v = 1 ∧ (s.branch b).enable = true) (it : Item) :
    (s.taking p it).setting p (.branch (number b)) (.enable v) = (s.taking p it).answer .ok := by
  obtain ⟨rfl, he⟩ | ⟨rfl, he⟩ := hv <;>
    (rw [State.setting, State.setEnable, setBranchSetting_legal h it b (decide_eq_true (by omega)), State.branch_taking, he]
     rfl)

theorem BranchOnly.from_taking {it : Item} (h : BranchOnly b (s.taking p it) u) :
    u = { s with doors := u.doors, branches := u.branches, ports := u.ports } := by
  rw [h.rest, taking_rest]

/-- R51: a door at rest has no drive command. -/
theorem DoorState.drive_rest {st : DoorState} (h : st.isRest = true) : st.drive = none := by
  cases st <;> simp_all [DoorState.isRest, DoorState.drive]

/-- Settles O42: a disable ends the exchange and takes each door of the branch, an enable takes the doors and starts a
round. -/
theorem branchesAreDisabledAndEnabled : Obligations.BranchesAreDisabledAndEnabled := by
  intro s p b h hn
  refine ⟨fun he => ?_, fun he hr => ?_, fun v hv hout => ?_⟩
  · let w := s.taking p (.set (.enable 0) (.branch (number b)))
    have owner : _ = (w.disableBranch b).answer .ok := setting_disable h he _
    obtain ⟨v, eq, only, doors, branch⟩ := disableBranch_eq (s := w) (b := b) (by simpa [w] using hn)
    have door : ∀ j, v.door j = s.door j := fun j => by rw [State.door, doors, State.taking_doors]; rfl
    rw [eq, ← doorsOfBranch_of_doors doors] at owner
    have member : ∀ j, j ∈ v.doorsOfBranch b ↔ (s.door j).installed = true ∧ (s.door j).branch = b := fun j => by
      simp only [State.doorsOfBranch, mem_doorsWhere, door, decide_eq_true_eq]
    have nodup : (v.doorsOfBranch b).Nodup := doorsWhere_nodup v _
    have work := onlyDoors_forDoors v (v.doorsOfBranch b) State.doorBranchOff onlyDoors_doorBranchOff
    have frame := only.from_taking
    obtain ⟨t, ht, a⟩ := set_links (c := .setEnable p (.branch (number b)) 0) h.1.1 h.1.1 rfl rfl
      owner (by rw [work.rest, frame]) fun q => (only.ports q).trans (work.ports q)
    refine ⟨t, ht, ?_, fun c hc => ?_, fun j hu hi hb => ?_, a.rest, a.outputs, a.answered, fun hr => ?_⟩
    · rw [a.branch, work.branch, branch, State.branch_taking, Branch.disabled]
    · rw [a.branch, work.branch, only.others c hc, State.branch_taking]
    · have unlisted : v.Unlisted j := fun u => by
        rw [State.unit, only.units, State.taking_units]; exact hu u
      obtain ⟨x, -, waits, -, -, spared⟩ := forDoors_at nodup ((member j).mpr ⟨hi, hb⟩) spares_doorBranchOff
        onlyDoors_doorBranchOff unlisted
      obtain ⟨state, indication, phase, raised, left, still⟩ := door_doorBranchOff_unlisted waits
      rw [a.door, (spared still).1]
      exact ⟨state, indication, phase, raised, left⟩
    · obtain ⟨-, units, taken⟩ := forDoors_effect (s := v) (f := State.doorBranchOff) v
        (fun i hi => makes_doorBranchOff (by rw [door]; exact hr i ((member i).mp hi).1 ((member i).mp hi).2)) (.refl v) rfl
        (fun _ _ => rfl) nodup
      refine ⟨by rw [a.units, units, only.units, State.taking_units], fun j => ?_⟩
      have clock : v.clock = s.clock := by rw [frame]
      have hold : v.settingsHold = s.settingsHold := by rw [frame]
      rw [a.door, taken, door, clock, hold]
      simp only [member, Door.cutOffBranch]
  · let w := s.taking p (.set (.enable 1) (.branch (number b)))
    have owner : _ = (w.enableBranch b).answer .ok := setting_enable h he _
    obtain ⟨v, eq, only, branch, door⟩ := enableBranch_eq w b
    rw [eq] at owner
    simp only [w, State.door_taking] at door
    have still : ∀ j, v.door j = if (s.door j).installed ∧ (s.door j).branch = b then (s.door j).cleared .branchOff
      else s.door j := door
    have claimant : ∀ d, v.claimant b d = s.claimant b d := claimant_congr (fun j => by
      rw [still]
      split <;> exact ⟨rfl, rfl, rfl⟩) b
    have claimed : v.claimedDrops b = s.claimedDrops b := by
      simp only [State.claimedDrops, claimant]
    have run : v.runCount = s.runCount := by rw [only.runCount, State.taking_runCount]
    rw [State.branch_taking] at branch
    -- what the start of the round makes of the branch, the doors and the rest
    have started : BranchOnly b v (v.startRound b) ∧ (∀ j, (v.startRound b).door j = v.door j) ∧
        (s.claimedDrops b = [] → (v.startRound b).branch b =
          { (v.branch b).started v.runCount [] with roundCounter := nextRound (v.branch b).roundCounter }) ∧
        ∀ d rest i, s.claimedDrops b = d :: rest → s.claimant b d = some i → (v.startRound b).branch b =
          ((v.branch b).started v.runCount rest).sent v.runCount d .regular none (v.signalCommand i) := by
      cases hd : s.claimedDrops b with
      | nil =>
        obtain ⟨round, doors, counted⟩ := startRound_empty (claimed.trans hd)
        exact ⟨round, fun j => by rw [State.door, doors]; rfl, fun _ => counted, fun _ _ _ hc => absurd hc (by simp)⟩
      | cons d rest =>
        obtain ⟨i, hc⟩ := claimedDrops_claimed hd
        obtain ⟨installed, ofBranch⟩ : (s.door i).installed = true ∧ (s.door i).branch = b := by
          have found := List.find?_some hc
          simp only [Bool.and_eq_true, decide_eq_true_eq] at found
          exact found.1
        have undriven : (v.door i).state.drive = none := by
          rw [still, if_pos ⟨installed, ofBranch⟩]
          exact DoorState.drive_rest (hr i installed ofBranch)
        obtain ⟨round, sent, polled⟩ := startRound_polls (claimed.trans hd) ((claimant d).trans hc)
          (by rw [branch]; exact fun y hy => nomatch hn.symm.trans hy)
        refine ⟨round, fun j => ?_, fun (he : d :: rest = []) => absurd he (by simp), fun d' rest' i' hd' hc' => ?_⟩
        · rw [polled]
          split
          · next hj => rw [hj, Door.polled_undriven undriven]
          · rfl
        · obtain ⟨rfl, rfl⟩ := List.cons.inj hd'
          obtain rfl : i = i' := Option.some.inj (hc.symm.trans hc')
          have drive : v.driveCommand i = none := undriven
          rw [sent, drive]
    obtain ⟨round, doors, counted, sent⟩ := started
    have frame := only.from_taking
    obtain ⟨t, ht, a⟩ := set_links (c := .setEnable p (.branch (number b)) 1) h.1.1 h.1.1 rfl rfl
      owner (by rw [round.rest, frame]) fun q => (only.ports q).trans (round.ports q)
    refine ⟨t, ht, fun c hc => ?_, fun hd => ?_, fun d rest i hd hc => ?_, fun j => ?_,
      a.unitsKept (by rw [round.units, frame]), a.outputs, a.answered⟩
    · rw [a.branch, round.others c hc, only.others c hc, State.branch_taking]
    · rw [a.branch, counted hd, branch, run, Branch.started]
    · have signal := (commands_congr (s := v) (t := t) (i := i) (.inl (by rw [a.door, doors]))
        (by rw [a.units, round.units]) (by rw [a.rest, frame])).2
      rw [a.branch, sent d rest i hd hc, branch, run, signal, Branch.started]
    · rw [a.door, doors, still]
  · exact set_unchanged h.1.1 hout rfl rfl (setting_enable_same h hv _)

end Sys2Proof.Machine
end


section
/-! SUPPORT. The rounds that a power-on and a warm restart start, when no door drives. -/

namespace Sys2Proof.Machine

variable {s t u v : State} {p q : PortId} {b c : BranchId} {d : DropId} {i : DoorId}

/-- R140: a branch whose round starts with every door at rest: a pending direct exchange of its first drop goes out in
place of the poll, and a round with no drop is counted. -/
def State.roundBegun (s : State) (b : BranchId) : Branch :=
  match s.claimedDrops b with
  | [] => { (s.branch b).started s.runCount [] with roundCounter := nextRound (s.branch b).roundCounter }
  | d :: rest =>
    ((s.branch b).started s.runCount rest).sent s.runCount d
      ((((s.branch b).pendingDirect.filter fun y => y.drop = d).map fun y => y.kind).getD .regular) none
      (((s.claimant b d).map s.signalCommand).getD { sounder := false, beacon := .off, lamp := false })

/-- A branch written twice, its round counter kept by the second write, is written once. -/
theorem modBranch_modBranch (s : State) (b : BranchId) {f g : Branch → Branch}
    (h : (g (f (s.branch b))).roundCounter = (f (s.branch b)).roundCounter) :
    (s.modBranch b f).modBranch b g = s.modBranch b fun x => g (f x) := by
  have second : (s.modBranch b f).modBranch b g =
      { s.modBranch b f with branches := s.branches.set b (g (f (s.branch b))) } := by
    rw [modBranch_plain (by rw [State.branch_modBranch_self]; exact h), State.branch_modBranch_self,
      State.modBranch_branches, Vector.set_set]
  rw [second]
  simp only [State.modBranch, h, State.touchIf]
  split <;> rfl

theorem modBranch_modBranch_before (s : State) (b : BranchId) {f g : Branch → Branch}
    (h : (f (s.branch b)).roundCounter = (s.branch b).roundCounter) :
    (s.modBranch b f).modBranch b g = s.modBranch b fun x => g (f x) := by
  have written : ({ s with branches := s.branches.set b (f (s.branch b)) } : State).branch b = f (s.branch b) := by
    rw [branch_setBranch, if_pos rfl]
  rw [modBranch_plain h]
  simp only [State.modBranch, written, h, Vector.set_set]

theorem modBranch_congr (s : State) (b : BranchId) {f g : Branch → Branch} (h : f (s.branch b) = g (s.branch b)) :
    s.modBranch b f = s.modBranch b g := by
  simp only [State.modBranch, h]

theorem issueDrive_undriven (h : (s.door i).state.drive = none) : s.issueDrive i = s := by
  rw [State.issueDrive, h]

/-- R151: the exchange with a drop whose door is at rest. -/
theorem beginExchange_rest (hr : (s.door i).state.isRest = true) :
    s.beginExchange b d i = s.sendFrame b d
      ((((s.branch b).pendingDirect.filter fun y => y.drop = d).map fun y => y.kind).getD .regular) none
      (s.signalCommand i) := by
  have still : (s.door i).state.drive = none := DoorState.drive_rest hr
  have regular : s.sendRegular b d i = s.sendFrame b d .regular none (s.signalCommand i) := by
    rw [State.sendRegular, State.driveCommand, still]
    exact issueDrive_undriven (by simpa [State.sendFrame] using still)
  rw [State.beginExchange]
  cases hp : (s.branch b).pendingDirect with
  | none => rw [regular]; rfl
  | some y =>
    by_cases hd : y.drop = d
    · simp [Option.filter, hd, hr, State.sendDirect]
    · simp [Option.filter, hd, regular]

/-- R149: the door that claims a pair is installed and has it. -/
theorem claimant_spec (h : s.claimant b d = some i) :
    (s.door i).installed = true ∧ (s.door i).branch = b ∧ (s.door i).drop = d := by
  have found := List.find?_some h
  simp only [Bool.and_eq_true, decide_eq_true_eq] at found
  exact ⟨found.1.1, found.1.2, found.2⟩

/-- R140: a round starts at a branch whose doors are at rest. -/
theorem startRound_rest (hr : ∀ i, (s.door i).installed = true → (s.door i).state.isRest = true) :
    s.startRound b = s.modBranch b fun _ => s.roundBegun b := by
  have start : s.startRound b = (s.modBranch b fun x => x.started s.runCount (s.claimedDrops b)).goOnOrComplete b := rfl
  cases hd : s.claimedDrops b with
  | nil =>
    have none : (s.modBranch b fun x => x.started s.runCount (s.claimedDrops b)).toPoll b = [] := by
      rw [State.toPoll, State.branch_modBranch_self, Branch.started, hd]; rfl
    rw [start, goOnOrComplete_completes none, State.countRound, modBranch_modBranch_before _ _ rfl,
      modBranch_modBranch_before _ _ rfl]
    exact modBranch_congr s b (by rw [State.roundBegun, hd]; rfl)
  | cons d rest =>
    obtain ⟨i, hc⟩ := claimedDrops_claimed hd
    obtain ⟨m, hm⟩ : ∃ m, m = s.modBranch b fun x => x.started s.runCount (s.claimedDrops b) := ⟨_, rfl⟩
    have claimant : m.claimant b d = some i := by rw [hm, claimant_of_doors (State.modBranch_doors _ b _), hc]
    have poll : m.toPoll b = d :: rest := by rw [hm]; exact startRound_first hd hc
    have next : m.exchangeFrom b (m.branch b).members =
        some ((m.modBranch b fun x => { x with members := rest }).beginExchange b d i) := by
      rw [State.toPoll] at poll
      rw [exchangeFrom_eq, poll]
      simp [claimant]
    have began : m.goOnOrComplete b = (m.modBranch b fun x => { x with members := rest }).beginExchange b d i := by
      rw [State.goOnOrComplete, next]
    have here : m.modBranch b (fun x => { x with members := rest }) = s.modBranch b fun x => x.started s.runCount rest := by
      rw [hm, modBranch_modBranch_before _ _ rfl]
      rfl
    have signal : (s.modBranch b fun x => x.started s.runCount rest).signalCommand i = s.signalCommand i :=
      (commands_congr (.inl (by simp)) (by simp) (by simp)).2
    rw [start, ← hm, began, here, beginExchange_rest (by simpa using hr i (claimant_spec hc).1), State.sendFrame,
      modBranch_modBranch _ _ rfl, signal]
    refine modBranch_congr s b ?_
    rw [State.roundBegun, hd]
    simp [Branch.started, Branch.sent, hc]

/-! ### Every enabled branch -/

theorem nextRound_ne (n : Nat) : nextRound n ≠ n := by
  rw [nextRound]
  split <;> omega

/-- R141: a round that starts is counted at once exactly where the branch has no drop. -/
theorem roundCounter_roundBegun (s : State) (b : BranchId) :
    (s.roundBegun b).roundCounter ≠ (s.branch b).roundCounter ↔ s.claimedDrops b = [] := by
  rw [State.roundBegun]
  split
  · next h => simp [h, nextRound_ne]
  · next h => simp [h, Branch.started, Branch.sent]

theorem roundBegun_congr (h : t = { s with branches := t.branches, ports := t.ports }) (hb : t.branch b = s.branch b) :
    t.roundBegun b = s.roundBegun b := by
  have doors : t.doors = s.doors := by rw [h]
  have signal : ∀ i, t.signalCommand i = s.signalCommand i := fun i =>
    (commands_congr (.inl (by rw [State.door, doors]; rfl)) (by rw [h]) (by rw [h])).2
  have run : t.runCount = s.runCount := by rw [h]
  have signals : t.signalCommand = s.signalCommand := funext signal
  simp only [State.roundBegun, claimedDrops_of_doors doors, hb, run, claimant_of_doors doors, signals]

/-- R168: what the rounds that start change of the ports. -/
structure RoundsBegun (l : List BranchId) (s t : State) : Prop where
  rest : t = { s with branches := t.branches, ports := t.ports }
  branch : ∀ b, t.branch b = if b ∈ l ∧ (s.branch b).enable = true then s.roundBegun b else s.branch b
  port : ∀ q, t.port q = { s.port q with summaryChanged := (t.port q).summaryChanged }
  summary : ∀ q, (t.port q).summaryChanged = true ↔
    (s.port q).summaryChanged = true ∨ ∃ b ∈ l, (s.branch b).enable = true ∧ s.claimedDrops b = []

/-- A branch whose round starts. -/
theorem roundsBegun_one (hr : ∀ i, (s.door i).installed = true → (s.door i).state.isRest = true) (b : BranchId) :
    RoundsBegun [b] s (if (s.branch b).enable then s.startRound b else s) := by
  cases he : (s.branch b).enable with
  | false =>
    refine ⟨by simp, fun c => ?_, fun q => by simp, fun q => ?_⟩
    · rw [if_neg (by decide), if_neg]
      rintro ⟨hc, hn⟩
      rw [List.mem_singleton.mp hc, he] at hn
      cases hn
    · simp [he]
  | true =>
    rw [if_pos rfl, startRound_rest hr]
    refine ⟨?_, fun c => ?_, fun q => ?_, fun q => ?_⟩
    · rw [State.modBranch, State.touchIf]
      split <;> rfl
    · rw [State.branch_modBranch]
      by_cases hc : c = b
      · simp [hc, he]
      · simp [hc]
    · rw [State.modBranch, State.port_touchIf]
      rfl
    · rw [State.modBranch, State.port_touchIf]
      have counted := roundCounter_roundBegun s b
      simp only [Bool.or_eq_true, bne_iff_ne, List.mem_singleton, exists_eq_left, he, true_and]
      rw [← counted, ne_comm]
      exact or_comm

theorem RoundsBegun.trans {l m : List BranchId} (h : RoundsBegun l s t) (k : RoundsBegun m t u)
    (hd : ∀ b ∈ m, b ∉ l) : RoundsBegun (l ++ m) s u := by
  have kept : ∀ b ∈ m, t.branch b = s.branch b := fun b hb => by
    rw [h.branch, if_neg fun e => hd b hb e.1]
  have doors : t.doors = s.doors := by rw [h.rest]
  refine ⟨by rw [k.rest, h.rest], fun b => ?_, fun q => by rw [k.port, h.port], fun q => ?_⟩
  · rw [k.branch]
    by_cases hb : b ∈ m
    · rw [roundBegun_congr h.rest (kept b hb), kept b hb]
      simp [hb]
    · rw [if_neg fun e => hb e.1, h.branch]
      simp [hb]
  · rw [k.summary, h.summary, or_assoc]
    refine or_congr_right ?_
    simp only [List.mem_append, or_and_right, exists_or]
    refine or_congr_right (exists_congr fun b => and_congr_right fun hb => ?_)
    rw [kept b hb, claimedDrops_of_doors doors]

/-- R153: each enabled branch starts a round, every door being at rest. -/
theorem startRounds_rest (hr : ∀ i, (s.door i).installed = true → (s.door i).state.isRest = true) :
    RoundsBegun branchIds s s.startRounds := by
  have each : ∀ (l : List BranchId), l.Nodup → ∀ t : State,
      (∀ i, (t.door i).installed = true → (t.door i).state.isRest = true) →
      RoundsBegun l t (l.foldl (fun t b => if (t.branch b).enable then t.startRound b else t) t) := fun l => by
    induction l with
    | nil => exact fun _ t _ => ⟨by simp, by simp, by simp, by simp⟩
    | cons b l ih =>
      intro nodup t ht
      obtain ⟨hb, hl⟩ := List.nodup_cons.mp nodup
      have one := roundsBegun_one ht b
      have doors : (if (t.branch b).enable then t.startRound b else t).doors = t.doors := by rw [one.rest]
      refine one.trans (ih hl _ fun i => ?_) fun c hc e => hb (List.mem_singleton.mp e ▸ hc)
      rw [State.door, doors]
      exact ht i
  exact each branchIds (List.nodup_finRange 4) s hr

end Sys2Proof.Machine
end


section
/-! SUPPORT. Power-on. -/

namespace Sys2Proof.Machine

variable {s t u v : State} {p q : PortId} {b c : BranchId} {d : DropId} {i : DoorId}

/-! ### BRANCH_OFF at a reset -/

/-- A door joins an ascending list behind its doors. -/
theorem insertDoor_last {l : List DoorId} (h : ∀ j ∈ l, j < i) : insertDoor i l = l ++ [i] := by
  induction l with
  | nil => rfl
  | cons j l ih =>
    have hj := h j List.mem_cons_self
    rw [insertDoor, if_neg (lt_asymm hj), if_neg (Ne.symm (Fin.ne_of_lt hj)),
      ih fun k hk => h k (List.mem_cons_of_mem _ hk)]
    rfl

/-- R168: the raising of BRANCH_OFF marks the door at every port. -/
theorem port_raiseBranchOff (hf : hasFault (s.door i).faults .branchOff = false) (q : PortId) :
    (s.raiseBranchOff i).port q =
      if (s.door i).installed && !(s.branch (s.door i).branch).enable then
        { s.port q with changed := insertDoor i (s.port q).changed }
      else s.port q := by
  rw [State.raiseBranchOff]
  split
  · next h =>
    have raised : addFault (s.door i).faults .branchOff ≠ (s.door i).faults := fun e => by
      have := hasFault_addFault (s.door i).faults .branchOff .branchOff
      rw [e, hf] at this
      simp at this
    have moved : (s.door i).sameReport ((s.door i).faulted .branchOff s.clock.time) = false := by
      simp [Door.sameReport, Door.faulted, Ne.symm raised]
    have installed : (s.door i).installed = true := (Bool.and_eq_true_iff.mp h).1
    have counts : (s.door i).counts (s.port q).lastReported[i] ((s.door i).faulted .branchOff s.clock.time) = true := by
      simp [Door.counts, installed, moved]
    rw [State.raiseCondition, hf, if_neg (by decide), State.raiseFault, port_modDoor]
    exact if_pos counts
  · rfl

/-- The doors for which BRANCH_OFF is raised at a reset. -/
def State.unreached (s : State) (i : DoorId) : Bool := (s.door i).installed && !(s.branch (s.door i).branch).enable

theorem makes_raiseBranchOff (hf : hasFault (s.door i).faults .branchOff = false) :
    s.Makes i (fun t => t.raiseBranchOff i)
      (if s.unreached i then (s.door i).faulted .branchOff s.clock.time else s.door i) := by
  refine ⟨fun t _ => doorOnly_raiseBranchOff t i, fun t _ => onlyDoors_raiseBranchOff t i, fun t ht => ?_⟩
  rw [State.raiseBranchOff, ht.door, ht.rest.branch, State.unreached]
  split
  · rw [State.door_raiseCondition, ht.door, ht.rest.clock, if_pos ⟨rfl, hf⟩]
  · exact ht.door

/-- R168: BRANCH_OFF raised for doors of an ascending list, at ports whose changed doors all stand before it. -/
theorem port_forDoors_raiseBranchOff {l : List DoorId} (q : PortId) :
    ∀ t, OnlyDoors s t → t.units = s.units → (∀ j ∈ l, t.door j = s.door j) →
      (∀ j ∈ l, hasFault (s.door j).faults .branchOff = false) → l.Pairwise (· < ·) →
      (∀ k ∈ (t.port q).changed, ∀ j ∈ l, k < j) →
      (t.forDoors l fun i t => t.raiseBranchOff i).port q =
        { t.port q with changed := (t.port q).changed ++ l.filter s.unreached } := by
  induction l with
  | nil => intro t _ _ _ _ _ _; simp [State.forDoors]
  | cons i l ih =>
    intro t ht hu hd hf hl hc
    obtain ⟨first, sorted⟩ := List.pairwise_cons.mp hl
    have here : s.Untaken i t := ⟨ht, hu, hd i List.mem_cons_self⟩
    have makes := makes_raiseBranchOff (hf i List.mem_cons_self)
    have port : (t.raiseBranchOff i).port q = if s.unreached i then
        { t.port q with changed := (t.port q).changed ++ [i] } else t.port q := by
      rw [port_raiseBranchOff (by rw [here.door]; exact hf i List.mem_cons_self),
        insertDoor_last fun k hk => hc k hk i List.mem_cons_self, here.door, ht.branch, State.unreached]
    rw [forDoors_cons, ih (t.raiseBranchOff i) (ht.trans (makes.work t here)) ((makes.only t here).units.trans hu)
      (fun j hj => (makes.untaken (fun e => absurd (first j hj) (e ▸ lt_irrefl _)) here
        ⟨ht, hu, hd j (List.mem_cons_of_mem _ hj)⟩).door)
      (fun j hj => hf j (List.mem_cons_of_mem _ hj)) sorted (fun k hk j hj => ?_), port]
    · cases hi : s.unreached i <;> simp [hi]
    · rw [port] at hk
      cases hi : s.unreached i with
      | false => rw [hi] at hk; exact hc k hk j (List.mem_cons_of_mem _ hj)
      | true =>
        rw [hi, if_pos rfl, List.mem_append, List.mem_singleton] at hk
        obtain hk | rfl := hk
        · exact hc k hk j (List.mem_cons_of_mem _ hj)
        · exact first j hj

/-- R184, R185, step 5: BRANCH_OFF is raised for the doors of disabled branches, in a state in which no door has it. -/
theorem raiseBranchFaults_effect
    (hf : ∀ i, (s.door i).installed = true → hasFault (s.door i).faults .branchOff = false) :
    OnlyDoors s s.raiseBranchFaults ∧ s.raiseBranchFaults.units = s.units ∧
      (∀ j, s.raiseBranchFaults.door j =
        if s.unreached j then (s.door j).faulted .branchOff s.clock.time else s.door j) ∧
      ∀ q, (s.port q).changed = [] →
        s.raiseBranchFaults.port q = { s.port q with changed := s.installedDoors.filter s.unreached } := by
  obtain ⟨work, units, doors⟩ := forDoors_effect (s := s) (f := fun i t => t.raiseBranchOff i) (l := s.installedDoors) s
    (fun i hi => makes_raiseBranchOff (hf i ((mem_installedDoors s i).mp hi))) (.refl s) rfl (fun _ _ => rfl) ((installedDoors_sorted s).imp Fin.ne_of_lt)
  refine ⟨work, units, fun j => (doors j).trans ?_, fun q hq => ?_⟩
  · simp only [mem_installedDoors]
    split
    · rfl
    · next h => simp [State.unreached, h]
  · have marked := port_forDoors_raiseBranchOff (s := s) (l := s.installedDoors) q s (.refl s) rfl (fun _ _ => rfl)
      (fun j hj => hf j ((mem_installedDoors s j).mp hj))
      (installedDoors_sorted s) (by rw [hq]; exact fun _ h => nomatch h)
    rw [State.raiseBranchFaults, marked, hq, List.nil_append]

/-! ### The state behind the first rounds -/

theorem RoundsBegun.outputsHold {l : List BranchId} (h : RoundsBegun l s t) (hs : s.OutputsHold) : t.OutputsHold := by
  have branches : ({ s with branches := t.branches } : State).OutputsHold := OutputsHold.of_branches hs rfl
  exact OutputsHold.of_ports branches h.rest fun q => by
    rw [h.port]
    exact ⟨rfl, rfl⟩

/-- R168: the evaluation of the outputs sets the summary changed flags exactly where it changes one. -/
theorem summaryChanged_evalOutputs (s : State) (q : PortId) :
    (s.evalOutputs.port q).summaryChanged = true ↔ (s.port q).summaryChanged = true ∨ s.evalOutputs.outputs ≠ s.outputs := by
  simp only [State.evalOutputs, State.port_touchIf, State.touchIf_outputs, Bool.or_eq_true, bne_iff_ne]
  rw [or_comm, ne_comm]
  rfl

/-- Settles O60: what each of the steps of a power-on leaves of each block. -/
theorem powerOnLoadsTheImage : Obligations.PowerOnLoadsTheImage := by
  intro s k a o y l image m himage hm
  obtain ⟨x, hx⟩ : ∃ x, x = if s.powered then s.supplyLost else s := ⟨_, rfl⟩
  have stored : x.store.image = image := by
    rw [hx, himage]
    cases s.powered with
    | false => simp
    | true => cases hs : s.store.saving <;> simp [State.supplyLost, hs]
  have counters : x.pending = s.pending ∧ x.freeCount = s.freeCount ∧ x.schedule = s.schedule := by
    rw [hx]
    split <;> exact ⟨rfl, rfl, rfl⟩
  let lines : Lines := { key := k, closeAll := a, cutoff := o, pressLow := l, sync := y }
  obtain ⟨v, hv⟩ : ∃ v, v = x.built m lines := ⟨_, rfl⟩
  obtain ⟨e, he⟩ : ∃ e, e = v.raiseBranchFaults.evalOutputs := ⟨_, rfl⟩
  have door : ∀ j, v.door j = Door.powerOn m.doors[j] := fun j => by rw [hv]; exact State.door_built x m lines j
  have branch : ∀ b, v.branch b = Branch.powerOn m.branches[b] := fun b => by rw [hv]; exact State.branch_built x m lines b
  have port : ∀ q, v.port q = Port.powerOn m.roles[q] := fun q => by rw [hv]; exact State.port_built x m lines q
  have unreached : ∀ j, v.unreached j = (m.doors[j].installed && !m.branches[m.doors[j].branch].enable) := fun j => by
    rw [State.unreached, door, branch]; rfl
  obtain ⟨work, units, raised, marked⟩ := raiseBranchFaults_effect (s := v) fun i _ => by rw [door]; simp [Door.powerOn, hasFault]
  have written : ∀ j, e.door j = if m.doors[j].installed ∧ m.branches[m.doors[j].branch].enable = false then
      (Door.powerOn m.doors[j]).faulted .branchOff { day := 0, ms := 0 } else Door.powerOn m.doors[j] := fun j => by
    have clock : v.clock.time = { day := 0, ms := 0 } := by rw [hv]; rfl
    rw [he, State.door_evalOutputs, raised, unreached, door, clock]
    simp only [Bool.and_eq_true, Bool.not_eq_true']
  have rest : ∀ j, (e.door j).state.isRest = true := fun j => by
    rw [written]
    split <;> rfl
  have begun := startRounds_rest fun i _ => rest i
  obtain ⟨t, ht⟩ : ∃ t, t = e.startRounds := ⟨_, rfl⟩
  rw [← ht] at begun
  have executed : exec (.powerOn k a o l y) s = .next t := by
    change execPowerOn k a o l y s = _
    rw [execPowerOn, ← hx, State.powerOn, stored, ← hm, ← hv, ← he, ← ht]
  have eframe : e = { v with doors := e.doors, ports := e.ports, outputs := e.outputs } := by
    have frame := work.outputs
    rw [units, ← State.evalOutputs_doors, ← he] at frame
    exact frame
  have frame : t = { v with doors := t.doors, branches := t.branches, ports := t.ports, outputs := t.outputs } := by
    rw [begun.rest, eframe]
  have doors : t.doors = e.doors := by rw [begun.rest]
  have ebranch : ∀ b, e.branch b = Branch.powerOn m.branches[b] := fun b => by
    rw [← branch, State.branch, eframe]; rfl
  have run : e.runCount = 0 := by rw [eframe, hv]; rfl
  have claimed := fun b => claimedDrops_of_doors doors b
  have unchanged : ∀ q, (v.raiseBranchFaults.port q).summaryChanged = false := fun q => by
    rw [marked q (by rw [port]; rfl), port]; rfl
  have eport : ∀ q, e.port q = { v.raiseBranchFaults.port q with summaryChanged := (e.port q).summaryChanged } := fun q => by
    rw [he]
    exact (port_evalOutputs _ q).1
  refine ⟨t, executed, by rw [frame, hv]; rfl, by rw [frame, hv]; rfl, fun j => ?_, by rw [frame, hv]; rfl,
    by rw [frame, hv]; rfl, fun u => ?_, fun b z hz => ?_, fun q => ⟨?_, ?_, ?_⟩, by rw [frame, hv]; rfl,
    by rw [frame, hv, ← stored]; rfl, by rw [frame, hv]; rfl, by rw [frame, hv]; rfl, by rw [frame, hv]; rfl,
    by rw [frame, hv]; rfl, begun.outputsHold (by rw [he]; exact outputsHold_evalOutputs _),
    by rw [frame, hv]; exact counters.1, by rw [frame, hv]; exact counters.2.1, by rw [frame, hv]; exact counters.2.2⟩
  · rw [State.door, doors]
    exact written j
  · rw [State.unit, frame]
    have built := State.unit_built x m lines u
    rw [← hv] at built
    exact built
  · have powered : Branch.powerOn m.branches[b] = z := by rw [hz]; rfl
    have enable : (e.branch b).enable = z.enable := by rw [ebranch, powered]
    have here := begun.branch b
    simp only [branchIds, List.mem_finRange, true_and, ebranch, powered] at here
    refine ⟨fun hz' => by rw [here, hz', if_neg (by decide)], fun hz' => ⟨fun hd => ?_, fun d drops i hd hc => ?_⟩⟩
    · rw [claimed] at hd
      rw [here, if_pos hz', State.roundBegun, hd, ebranch, powered, run, hz]
      simp [Branch.started, nextRound]
    · have signal : t.signalCommand i = e.signalCommand i :=
        (commands_congr (.inl (by rw [State.door, doors]; rfl)) (by rw [begun.rest]) (by rw [begun.rest])).2
      rw [claimed] at hd
      rw [claimant_of_doors doors] at hc
      rw [here, if_pos hz']
      simp only [State.roundBegun, hd, hc, ebranch, powered, run, signal, hz]
      simp [Branch.started]
  · rw [begun.port, eport, marked q (by rw [port]; rfl), port]; rfl
  · rw [begun.port, eport, marked q (by rw [port]; rfl)]
    simp only [State.installedDoors, State.doorsWhere, List.filter_filter, unreached, door, Door.powerOn]
    congr 1
    funext j
    cases m.doors[j].installed <;> simp
  · have outputs : t.outputs = e.outputs := by rw [begun.rest]
    have dark : v.raiseBranchFaults.outputs = { fault := false, closure := false, allClosed := false } := by
      rw [work.rest, hv]; rfl
    have flagged := summaryChanged_evalOutputs v.raiseBranchFaults q
    rw [← he, unchanged, dark, ← outputs] at flagged
    rw [begun.summary, flagged]
    simp only [Bool.false_eq_true, false_or, branchIds, List.mem_finRange, true_and]
    refine or_congr_right (exists_congr fun b => ?_)
    have counted := roundCounter_roundBegun e b
    have zero : (e.branch b).roundCounter = 0 := by rw [ebranch]; rfl
    rw [begun.branch]
    simp only [branchIds, List.mem_finRange, true_and]
    cases (e.branch b).enable with
    | false => simp [zero]
    | true => rw [← counted, zero]; simp

end Sys2Proof.Machine
end


section
/-! SUPPORT. What the steps of a warm restart leave of the doors, the units and the branches. -/

namespace Sys2Proof.Machine

variable {s t u v : State} {p q : PortId} {b c : BranchId} {d : DropId} {i : DoorId}

/-! ### Work that answers no DIRECT -/

/-- Work on doors, units and branches that answers no DIRECT: beside them the marks of R168 alone differ. -/
structure LinkWork (s t : State) : Prop where
  rest : t = { s with doors := t.doors, units := t.units, branches := t.branches, ports := t.ports }
  ports : ∀ p, (s.port p).SameButMarks (t.port p)

theorem LinkWork.refl (s : State) : LinkWork s s := ⟨rfl, fun _ => Port.SameButMarks.refl _⟩

theorem LinkWork.trans (h : LinkWork s t) (k : LinkWork t u) : LinkWork s u :=
  ⟨by rw [k.rest, h.rest], fun p => (h.ports p).trans (k.ports p)⟩

theorem OnlyDoors.linkWork (h : OnlyDoors s t) : LinkWork s t := ⟨by rw [h.rest], h.ports⟩

theorem BranchOnly.linkWork (h : BranchOnly b s t) : LinkWork s t := ⟨by rw [h.rest], h.ports⟩

/-! ### Motion ends -/

/-- R78, R102: a door whose motion and timers a warm restart has ended. -/
def Door.motionless (y : Door) (now : Nat) : Door :=
  { y.undriven now with stroke := none, reclose := none, leadIn := none, tail := none, test := none }

theorem makes_endMotion (s : State) (i : DoorId) :
    s.Makes i (fun t => t.endMotion i) ((s.door i).motionless s.runCount) :=
  ⟨fun t _ => (doorOnly_driveOffNow t i).trans (doorOnly_modDoor _ i _),
    fun t _ => (onlyDoors_driveOffNow t i).trans (onlyDoors_modDoor _ i _), fun t ht => by
      rw [State.endMotion, State.door_modDoor_self, door_driveOffNow_self, ht.door, ht.rest.runCount]; rfl⟩

/-- R137: units written one after another. -/
theorem foldl_modUnit (f : PowerUnit → PowerUnit) {l : List UnitId} (hl : l.Nodup) : ∀ s : State,
    OnlyDoors s (l.foldl (fun t u => t.modUnit u f) s) ∧ (l.foldl (fun t u => t.modUnit u f) s).doors = s.doors ∧
      ∀ v, (l.foldl (fun t u => t.modUnit u f) s).unit v = if v ∈ l then f (s.unit v) else s.unit v := by
  induction l with
  | nil => exact fun s => ⟨.refl s, rfl, fun v => by simp⟩
  | cons u l ih =>
    obtain ⟨hu, hl⟩ := List.nodup_cons.mp hl
    intro s
    obtain ⟨work, doors, units⟩ := ih hl (s.modUnit u f)
    refine ⟨(onlyDoors_modUnit s u f).trans work, doors.trans (by simp), fun v => (units v).trans ?_⟩
    by_cases hv : v = u
    · subst hv
      simp [hu]
    · have other : (s.modUnit u f).unit v = s.unit v := by rw [State.unit_modUnit, if_neg hv]
      simp [hv, other]

/-- R153: a branch that a warm restart has taken, before its new round. -/
def Branch.restarted (y : Branch) : Branch :=
  { y with
    exchange := none, broken := y.broken ++ (y.exchange.map fun x => (x.drop, x.sequence)).toList
    roundCounter := 0, roundTimer := none, members := [], drops := Vector.replicate 12 DropLink.fresh }

/-- R147, R149: a regular poll in flight is broken off. -/
theorem breakExchange_regular (h : ∀ x, (s.branch b).exchange = some x → x.kind = .regular) (r : Result) :
    BranchOnly b s (s.breakExchange b r) ∧ (s.breakExchange b r).doors = s.doors ∧
      (s.breakExchange b r).branch b = { s.branch b with
        exchange := none
        broken := (s.branch b).broken ++ ((s.branch b).exchange.map fun x => (x.drop, x.sequence)).toList } := by
  cases hx : (s.branch b).exchange with
  | none =>
    have kept : s.breakExchange b r = s := by rw [State.breakExchange, hx]
    have same : s.branch b = { s.branch b with exchange := none, broken := (s.branch b).broken ++ [] } := by
      rw [← hx, List.append_nil]
    rw [kept]
    exact ⟨.refl b s, rfl, same⟩
  | some y =>
    have broke : s.breakExchange b r =
        s.modBranch b fun z => { z with exchange := none, broken := z.broken ++ [(y.drop, y.sequence)] } := by
      simp only [State.breakExchange, hx, h y hx]
    rw [broke]
    exact ⟨branchOnly_modBranch .., by simp, by simp⟩

theorem restartBranch_effect (h : ∀ x, (s.branch b).exchange = some x → x.kind = .regular) :
    BranchOnly b s (s.restartBranch b) ∧ (s.restartBranch b).doors = s.doors ∧
      (s.restartBranch b).branch b = (s.branch b).restarted := by
  obtain ⟨only, doors, branch⟩ := breakExchange_regular h .timeout
  refine ⟨only.trans (branchOnly_modBranch ..), ?_, ?_⟩
  · rw [State.restartBranch, State.modBranch_doors, doors]
  · rw [State.restartBranch, State.branch_modBranch_self, branch]; rfl

theorem foldl_restartBranch {l : List BranchId} (hl : l.Nodup) : ∀ s : State,
    (∀ b x, (s.branch b).exchange = some x → x.kind = .regular) →
    LinkWork s (l.foldl (fun t b => t.restartBranch b) s) ∧ (l.foldl (fun t b => t.restartBranch b) s).doors = s.doors ∧
      (l.foldl (fun t b => t.restartBranch b) s).units = s.units ∧
      ∀ c, (l.foldl (fun t b => t.restartBranch b) s).branch c =
        if c ∈ l then (s.branch c).restarted else s.branch c := by
  induction l with
  | nil => exact fun s _ => ⟨.refl s, rfl, rfl, fun c => by simp⟩
  | cons b l ih =>
    obtain ⟨hb, hl⟩ := List.nodup_cons.mp hl
    intro s h
    obtain ⟨only, doors, branch⟩ := restartBranch_effect (h b)
    obtain ⟨work, doors', units', branches⟩ := ih hl (s.restartBranch b) fun c x hx => by
      by_cases hc : c = b
      · rw [hc, branch] at hx; exact nomatch hx
      · rw [only.others c hc] at hx; exact h c x hx
    refine ⟨only.linkWork.trans work, doors'.trans doors, units'.trans only.units, fun c => (branches c).trans ?_⟩
    by_cases hc : c = b
    · subst hc
      simp [hb, branch]
    · simp [hc, only.others c hc]

/-- R185, steps 1 to 3: motion ends, the units stop, and the branches start again. -/
theorem restartWork_effect (h : ∀ b x, (s.branch b).exchange = some x → x.kind = .regular) :
    LinkWork s s.restartWork ∧ (∀ j, s.restartWork.door j = (s.door j).motionless s.runCount) ∧
      (∀ u, s.restartWork.unit u = (s.unit u).restarted) ∧ ∀ b, s.restartWork.branch b = (s.branch b).restarted := by
  obtain ⟨still, units₁, doors₁⟩ := forDoors_effect (s := s) (f := fun i t => t.endMotion i) (l := doorIds) s
    (fun i _ => makes_endMotion s i) (.refl s) rfl (fun _ _ => rfl) doorIds_nodup
  obtain ⟨m, hm⟩ : ∃ m, m = s.forDoors doorIds fun i t => t.endMotion i := ⟨_, rfl⟩
  rw [← hm] at still units₁ doors₁
  obtain ⟨stopped, doors₂, units₂⟩ := foldl_modUnit PowerUnit.restarted (List.nodup_finRange 4) m
  obtain ⟨n, hn⟩ : ∃ n, n = unitIds.foldl (fun t u => t.modUnit u PowerUnit.restarted) m := ⟨_, rfl⟩
  rw [show List.finRange 4 = unitIds from rfl, ← hn] at stopped doors₂ units₂
  have branch : ∀ b, n.branch b = s.branch b := fun b => (stopped.branch b).trans (still.branch b)
  obtain ⟨started, doors₃, units₃, branches⟩ := foldl_restartBranch (List.nodup_finRange 4) n fun b x hx => by
    rw [branch] at hx
    exact h b x hx
  have eq : s.restartWork = (List.finRange 4).foldl (fun t b => t.restartBranch b) n := by
    rw [hn, hm]; rfl
  rw [← eq] at started doors₃ units₃ branches
  refine ⟨(still.trans stopped).linkWork.trans started, fun j => ?_, fun u => ?_, fun b => ?_⟩
  · rw [State.door, doors₃, doors₂]
    exact (doors₁ j).trans (if_pos (mem_doorIds j))
  · rw [State.unit, units₃]
    refine (units₂ u).trans ?_
    have member : u ∈ unitIds := List.mem_finRange u
    rw [if_pos member, State.unit, units₁]; rfl
  · rw [branches, if_pos (List.mem_finRange b), branch]

/-! ### Doors start again -/

/-- R28, R185 step 4: a door that a warm restart has restarted. -/
def Door.restarted (y : Door) (hold : Bool) : Door := (y.unsettled.rested .unknown hold).eventFaultsOnly

theorem makes_restartDoor (s : State) (i : DoorId) :
    s.Makes i (fun t => t.restartDoor i) ((s.door i).restarted s.settingsHold) := by
  refine ⟨fun t _ => ((doorOnly_modDoor t i _).trans (doorOnly_enterRest _ i _)).trans (doorOnly_modDoor _ i _),
    fun t _ => ((onlyDoors_modDoor t i _).trans (onlyDoors_enterRest _ i _)).trans (onlyDoors_modDoor _ i _), fun t ht => ?_⟩
  have hold : (t.modDoor i Door.unsettled).settingsHold = s.settingsHold := by
    rw [State.modDoor_settingsHold, ht.rest.settingsHold]
  rw [State.restartDoor, State.door_modDoor_self, door_enterRest_self _ i rfl, State.door_modDoor_self, ht.door, hold,
    Door.demandTaken_state ⟨by simp [Door.rested], by simp [Door.rested]⟩, Door.restarted]

theorem eventFaultsOnly_without (y : Door) {k : FaultKind} (hk : k.isEvent = false) :
    hasFault y.eventFaultsOnly.faults k = false := by
  rw [Door.eventFaultsOnly, hasFault, BitVec.getLsbD_and]
  rw [FaultKind.isEvent, hasFault] at hk
  rw [hk, Bool.and_false]

theorem removeFault_of_not {f : FaultSet} {k : FaultKind} (h : hasFault f k = false) : removeFault f k = f := by
  have bit : ∀ n, n < 12 → (k.only.getLsbD n = true ↔ n = k.bit) := by cases k <;> decide
  rw [removeFault]
  ext n hn
  have at_n := bit n hn
  rw [BitVec.getElem_and, BitVec.getElem_not]
  rw [BitVec.getLsbD_eq_getElem hn] at at_n
  cases hb : k.only[n] with
  | false => simp
  | true =>
    obtain rfl := at_n.mp hb
    rw [hasFault, BitVec.getLsbD_eq_getElem hn] at h
    simp [h]

/-- R185, step 5: BRANCH_OFF of a restarted door. -/
def Door.offBranch (y : Door) (enabled : Bool) (now : Stamp) : Door := if enabled then y else y.faulted .branchOff now

/-- R91, R185: NOT_CONTROLLED of a restarted door that does not carry it. -/
def Door.uncontrolled (y : Door) (held : Bool) (now : Stamp) : Door :=
  if !y.inService && held then y.faulted .notControlled now else y

theorem makes_updateNotControlled (hi : (s.door i).installed = true)
    (hf : hasFault (s.door i).faults .notControlled = false) (hu : hasFault (s.door i).unacked .notControlled = false) :
    s.Makes i (fun t => t.updateNotControlled i) ((s.door i).uncontrolled (s.doorHeld i) s.clock.time) := by
  refine ⟨fun t _ => doorOnly_updateNotControlled t i, fun t _ => onlyDoors_updateNotControlled t i, fun t ht => ?_⟩
  rw [door_updateNotControlled_self, ht.door, ht.doorHeld, ht.rest.clock, hi, hf, Door.uncontrolled,
    Door.cleared_of_not _ (removeFault_of_not hf) (removeFault_of_not hu)]
  simp

/-- R185, steps 4 and 5: the installed doors start again. -/
theorem restartDoors_effect (s : State) :
    OnlyDoors s s.restartDoors ∧ s.restartDoors.units = s.units ∧ ∀ j, s.restartDoors.door j =
      if (s.door j).installed then
        ((((s.door j).restarted s.settingsHold).offBranch (s.branch (s.door j).branch).enable s.clock.time).uncontrolled
          (s.doorHeld j) s.clock.time)
      else s.door j := by
  obtain ⟨work₁, units₁, doors₁⟩ := forDoors_effect (s := s) (f := fun i t => t.restartDoor i) (l := s.installedDoors) s
    (fun i _ => makes_restartDoor s i) (.refl s) rfl (fun _ _ => rfl) ((installedDoors_sorted s).imp Fin.ne_of_lt)
  obtain ⟨m, hm⟩ : ∃ m, m = s.forDoors s.installedDoors fun i t => t.restartDoor i := ⟨_, rfl⟩
  rw [← hm] at work₁ units₁ doors₁
  have door₁ : ∀ j, m.door j = if (s.door j).installed then (s.door j).restarted s.settingsHold else s.door j := fun j => by
    rw [doors₁]
    simp only [mem_installedDoors]
  have kept₁ : ∀ j, (m.door j).installed = (s.door j).installed := fun j => by
    rw [door₁]
    split <;> rfl
  obtain ⟨work₂, units₂, doors₂, -⟩ := raiseBranchFaults_effect (s := m) fun i hi => by
    rw [kept₁] at hi
    rw [door₁, if_pos hi]
    exact eventFaultsOnly_without _ rfl
  have door₂ : ∀ j, m.raiseBranchFaults.door j = if (s.door j).installed then
      ((s.door j).restarted s.settingsHold).offBranch (s.branch (s.door j).branch).enable s.clock.time
      else s.door j := fun j => by
    rw [doors₂, State.unreached, kept₁, work₁.branch, work₁.clock, door₁]
    cases (s.door j).installed with
    | false => simp
    | true =>
      have place : ((s.door j).restarted s.settingsHold).branch = (s.door j).branch := rfl
      simp only [if_true, place, Door.offBranch]
      cases (s.branch (s.door j).branch).enable <;> simp
  have kept₂ : ∀ j, (m.raiseBranchFaults.door j).installed = (s.door j).installed := fun j => by
    rw [door₂]
    split
    · rw [Door.offBranch]
      split <;> rfl
    · rfl
  have listed : m.raiseBranchFaults.installedDoors = s.installedDoors := by
    simp only [State.installedDoors, State.doorsWhere, kept₂]
  have without : ∀ j, (s.door j).installed = true →
      hasFault (m.raiseBranchFaults.door j).faults .notControlled = false ∧
        hasFault (m.raiseBranchFaults.door j).unacked .notControlled = false := fun j hj => by
    have bare : hasFault ((s.door j).restarted s.settingsHold).faults .notControlled = false ∧
        hasFault ((s.door j).restarted s.settingsHold).unacked .notControlled = false := by
      simp [Door.restarted, Door.eventFaultsOnly, hasFault, eventFaults, FaultKind.bit]
    rw [door₂, if_pos hj, Door.offBranch]
    split
    · exact bare
    · simp [Door.faulted, hasFault_addFault, bare]
  obtain ⟨work₃, units₃, doors₃⟩ := forDoors_effect (s := m.raiseBranchFaults) (f := fun i t => t.updateNotControlled i)
    (l := s.installedDoors) m.raiseBranchFaults (fun i hi => by
      have installed := (mem_installedDoors s i).mp hi
      exact makes_updateNotControlled ((kept₂ i).trans installed) (without i installed).1 (without i installed).2)
    (.refl _) rfl (fun _ _ => rfl) ((installedDoors_sorted s).imp Fin.ne_of_lt)
  have eq : s.restartDoors = m.raiseBranchFaults.forDoors s.installedDoors fun i t => t.updateNotControlled i := by
    rw [State.restartDoors, ← hm, listed]
  rw [eq]
  refine ⟨(work₁.trans work₂).trans work₃, units₃.trans (units₂.trans units₁), fun j => ?_⟩
  rw [doors₃]
  simp only [mem_installedDoors]
  cases hj : (s.door j).installed with
  | false => rw [door₂, hj]; simp
  | true =>
    have zone : (m.raiseBranchFaults.door j).zone = (s.door j).zone := by
      rw [door₂, hj, if_pos rfl, Door.offBranch]
      split <;> rfl
    have held : m.raiseBranchFaults.doorHeld j = s.doorHeld j := by
      rw [State.doorHeld, zone, work₂.held, work₁.held]; rfl
    rw [if_pos rfl, if_pos rfl, held, work₂.clock, work₁.clock, door₂, hj, if_pos rfl]

end Sys2Proof.Machine
end


section
/-! SUPPORT. The warm restart. -/

namespace Sys2Proof.Machine

variable {s t u v : State} {p q : PortId} {b c : BranchId} {d : DropId} {i : DoorId}

/-- The faults raised at the end of a warm restart keep what a fault keeps. -/
theorem Door.offBranch_keeps {α : Type} {f : Door → α} (hf : ∀ y k now, f (Door.faulted y k now) = f y) (y : Door)
    (enabled : Bool) (now : Stamp) : f (y.offBranch enabled now) = f y := by
  rw [Door.offBranch]
  split
  · rfl
  · exact hf y _ now

theorem Door.uncontrolled_keeps {α : Type} {f : Door → α} (hf : ∀ y k now, f (Door.faulted y k now) = f y) (y : Door)
    (held : Bool) (now : Stamp) : f (y.uncontrolled held now) = f y := by
  rw [Door.uncontrolled]
  split
  · exact hf y _ now
  · rfl

/-- R185: what a warm restart leaves of a door. -/
theorem Door.restarted_motionless (d : Door) (now : Nat) (hold : Bool) :
    ((d.motionless now).restarted hold).inService = d.inService ∧
      ((d.motionless now).restarted hold).installed = d.installed ∧
      ((d.motionless now).restarted hold).branch = d.branch ∧ ((d.motionless now).restarted hold).drop = d.drop ∧
      ((d.motionless now).restarted hold).state = .unknown := by
  simp only [Door.restarted, Door.eventFaultsOnly, Door.rested, Door.unsettled, Door.motionless, Door.undriven, and_self]

/-- R185: an installed door after the steps of a warm restart. -/
theorem afterRestart_eq (s : State) (d : Door) :
    (((d.motionless s.runCount).restarted s.settingsHold).offBranch (s.branch d.branch).enable s.clock.time).uncontrolled
      (s.held d.zone) s.clock.time = d.afterRestart s := by
  have service := Door.offBranch_keeps (f := Door.inService) (fun _ _ _ => rfl)
    ((d.motionless s.runCount).restarted s.settingsHold) (s.branch d.branch).enable s.clock.time
  rw [Door.uncontrolled, service, (d.restarted_motionless _ _).1, Door.offBranch, Door.afterRestart]
  simp only [Door.restarted, Door.eventFaultsOnly, Door.rested, Door.unsettled, Door.motionless, Door.undriven]
  simp

theorem Door.afterRestart_keeps {α : Type} {f : Door → α} (hf : ∀ y k now, f (Door.faulted y k now) = f y) (d : Door)
    (s : State) : f (d.afterRestart s) = f ((d.motionless s.runCount).restarted s.settingsHold) := by
  rw [← afterRestart_eq, Door.uncontrolled_keeps hf, Door.offBranch_keeps hf]

theorem Door.afterRestart_place (d : Door) (s : State) : (d.afterRestart s).installed = d.installed ∧
    (d.afterRestart s).branch = d.branch ∧ (d.afterRestart s).drop = d.drop ∧ (d.afterRestart s).state = .unknown :=
  let ⟨_, installed, branch, drop, state⟩ := d.restarted_motionless s.runCount s.settingsHold
  ⟨(d.afterRestart_keeps (f := Door.installed) (fun _ _ _ => rfl) s).trans installed,
    (d.afterRestart_keeps (f := Door.branch) (fun _ _ _ => rfl) s).trans branch,
    (d.afterRestart_keeps (f := Door.drop) (fun _ _ _ => rfl) s).trans drop,
    (d.afterRestart_keeps (f := Door.state) (fun _ _ _ => rfl) s).trans state⟩

/-- R185, steps 1 to 5: the doors, units and branches behind a warm restart, before its rounds start. -/
theorem restarted_effect (h : ∀ b x, (s.branch b).exchange = some x → x.kind = .regular) :
    LinkWork s s.restartWork.restartDoors ∧
      (∀ j, s.restartWork.restartDoors.door j = if (s.door j).installed then (s.door j).afterRestart s
        else (s.door j).motionless s.runCount) ∧
      (∀ u, s.restartWork.restartDoors.unit u = (s.unit u).restarted) ∧
      ∀ b, s.restartWork.restartDoors.branch b = (s.branch b).restarted := by
  obtain ⟨work, doors, units, branches⟩ := restartWork_effect h
  obtain ⟨work', units', doors'⟩ := restartDoors_effect s.restartWork
  refine ⟨work.trans work'.linkWork, fun j => ?_, fun u => ?_, fun b => ?_⟩
  · have hold : s.restartWork.settingsHold = s.settingsHold := by rw [work.rest]
    have clock : s.restartWork.clock = s.clock := by rw [work.rest]
    have held : s.restartWork.doorHeld j = s.held (s.door j).zone := by
      rw [State.doorHeld, doors, State.held, work.rest]; rfl
    rw [doors', held, hold, clock, doors, branches, ← afterRestart_eq]
    rfl
  · rw [State.unit, units']
    exact units u
  · rw [work'.branch, branches]

/-- R185: a response that carries the pending restart. -/
theorem responseSentNow_restarts {r : Response} (hs : (s.port p).sending = some (.response r)) (hc : r.carriesRestart = true)
    (hr : s.store.restartPending ≠ none) :
    s.responseSentNow p =
      ({ s with ports := s.ports.set p ((s.port p).responseSent r s.runCount) } : State).warmRestart := by
  have pending : s.store.restartPending.isSome = true := Option.isSome_iff_ne_none.mpr hr
  rw [← modPort_plain (p := p) (f := fun q => q.responseSent r s.runCount) rfl rfl, State.responseSentNow, hs]
  simp [hc, pending]

theorem link_of_drops {y : Branch} (h : s.branch b = y) (hy : y.drops = Vector.replicate 12 DropLink.fresh) (d : DropId) :
    s.link b d = DropLink.fresh := by
  rw [State.link, h, hy]
  simp

/-- Settles O45: what the steps of a warm restart leave of each block, and the rounds that follow. -/
theorem warmRestartRestartsEveryBlock : Obligations.WarmRestartRestartsEveryBlock := by
  intro s p r hp hx hs hc hr
  obtain ⟨m, hm⟩ : ∃ m, m = ({ s with ports := s.ports.set p ((s.port p).responseSent r s.runCount) } : State) := ⟨_, rfl⟩
  have mport : ∀ q, m.port q = if q = p then (s.port p).responseSent r s.runCount else s.port q := fun q => by
    rw [hm, port_setPort]
  have mbranch : ∀ b, m.branch b = s.branch b := fun b => by rw [hm]; rfl
  obtain ⟨work, door, unit, branch⟩ := restarted_effect (s := m) fun b x h => hx b x (by rwa [mbranch] at h)
  obtain ⟨x, hx'⟩ : ∃ x, x = m.restartWork.restartDoors := ⟨_, rfl⟩
  rw [← hx'] at work door unit branch
  have door' : ∀ j, x.door j = if (s.door j).installed then (s.door j).afterRestart s
      else (s.door j).motionless s.runCount := fun j => by rw [door, hm]; rfl
  have place : ∀ j, (x.door j).installed = (s.door j).installed ∧ (x.door j).branch = (s.door j).branch ∧
      (x.door j).drop = (s.door j).drop := fun j => by
    rw [door']
    split
    · obtain ⟨installed, branch, drop, -⟩ := (s.door j).afterRestart_place s
      exact ⟨installed, branch, drop⟩
    · exact ⟨rfl, rfl, rfl⟩
  have run : x.runCount = s.runCount := by rw [work.rest, hm]
  have listed : x.installedDoors = s.installedDoors := by
    simp only [State.installedDoors, State.doorsWhere, fun j => (place j).1]
  obtain ⟨n, hn⟩ : ∃ n, n = x.mapPorts fun _ q => q.restarted s.installedDoors s.runCount := ⟨_, rfl⟩
  have nport : ∀ q, n.port q = (m.port q).restarted s.installedDoors s.runCount := fun q => by
    rw [hn, State.port_mapPorts, work.ports q]; rfl
  obtain ⟨e, he⟩ : ∃ e, e = n.evalOutputs := ⟨_, rfl⟩
  have edoors : e.doors = x.doors := by rw [he, State.evalOutputs_doors, hn]; rfl
  have ebranch : ∀ b, e.branch b = (s.branch b).restarted := fun b => by
    rw [he, State.branch_evalOutputs, hn, State.branch_mapPorts, branch, mbranch]
  have begun := startRounds_rest (s := e) fun j hj => by
    have moved : e.door j = x.door j := by rw [State.door, edoors]; rfl
    rw [moved] at hj ⊢
    rw [(place j).1] at hj
    rw [door', if_pos hj, ((s.door j).afterRestart_place s).2.2.2]; rfl
  obtain ⟨u, hu⟩ : ∃ u, u = e.startRounds := ⟨_, rfl⟩
  rw [← hu] at begun
  have erun : e.runCount = s.runCount := by rw [he, evalOutputs_rest, hn]; exact run
  have claimed : ∀ b, e.claimedDrops b = s.claimedDrops b := fun b => by
    have claimant := claimant_congr (s := s) (t := e) (fun j => by
      have moved : e.door j = x.door j := by rw [State.door, edoors]; rfl
      rw [moved]; exact place j) b
    simp only [State.claimedDrops, claimant]
  have frame : u = { s with
      doors := u.doors, units := u.units, branches := u.branches, ports := u.ports, outputs := u.outputs } := by
    rw [begun.rest, he, evalOutputs_rest, hn, State.mapPorts, work.rest, hm]
  have outputsBefore : n.outputs = s.outputs := by rw [hn, State.mapPorts_outputs, work.rest, hm]
  have executed : exec (.responseSent p) s = .next { u with store := { u.store with restartPending := none } } := by
    have warm : m.warmRestart = { u with store := { u.store with restartPending := none } } := by
      rw [hu, he, hn, ← listed, ← run, hx']; rfl
    rw [← warm, hm, ← responseSentNow_restarts hs hc hr]
    exact live_powered hp fun s => s.responseSentNow p
  have ubranch : ∀ b, u.branch b = if (s.branch b).enable = true then e.roundBegun b else (s.branch b).restarted := fun b => by
    have enable : (e.branch b).enable = (s.branch b).enable := by rw [ebranch]; rfl
    rw [begun.branch, enable, ebranch]
    simp only [branchIds, List.mem_finRange, true_and]
  have uport : ∀ q, u.port q = { (m.port q).restarted s.installedDoors s.runCount with
      summaryChanged := (u.port q).summaryChanged } := fun q => by
    have evaluated : e.port q = { n.port q with summaryChanged := (e.port q).summaryChanged } := by
      rw [he]; exact (port_evalOutputs n q).1
    rw [begun.port, evaluated, nport]
  have enabled : ∀ q, (m.port q).reportsEnabled = (s.port q).reportsEnabled := fun q => by
    rw [mport]
    split
    · next h => rw [h]; rfl
    · rfl
  refine ⟨_, executed, ?_, ?_, fun j => ?_, fun v => ?_, fun b => ?_, ?_, fun q hq => ?_, fun q => ⟨?_, ?_, ?_, ?_, fun i => ?_⟩⟩
  · have store : u.store = s.store := by rw [frame]
    rw [← store]
    rw [frame]
  · have held := begun.outputsHold (by rw [he]; exact outputsHold_evalOutputs n)
    exact held
  · have doors : u.doors = x.doors := by rw [begun.rest, edoors]
    have moved : u.door j = x.door j := by rw [State.door, doors]; rfl
    exact moved.trans ((door' j).trans (by rw [Door.motionless]))
  · have units : u.units = x.units := by rw [begun.rest, he, evalOutputs_rest, hn]; rfl
    have moved : u.unit v = x.unit v := by rw [State.unit, units]; rfl
    exact moved.trans ((unit v).trans (by rw [hm]; rfl))
  · change (u.branch b).image = _ ∧ (u.branch b).pendingDirect = _ ∧ (∀ d, u.link b d = _) ∧
      (_ → (u.branch b).exchange = none ∧ (u.branch b).roundTimer = none ∧ (u.branch b).members = [] ∧
        (u.branch b).roundCounter = 0) ∧
      (_ → (u.branch b).roundTimer = _ ∧ (_ → (u.branch b).exchange = none ∧ (u.branch b).roundCounter = 1) ∧
        ∀ d rest, _ → (u.branch b).roundCounter = 0 ∧ (u.branch b).members = rest ∧ (u.branch b).exchange = _)
    have here := ubranch b
    cases hen : (s.branch b).enable with
    | false =>
      rw [hen, if_neg (by decide)] at here
      refine ⟨by rw [here]; rfl, by rw [here]; rfl, link_of_drops here rfl, fun _ => ?_, fun h => nomatch h⟩
      rw [here]
      exact ⟨rfl, rfl, rfl, rfl⟩
    | true =>
      rw [hen, if_pos rfl] at here
      cases hd : s.claimedDrops b with
      | nil =>
        rw [State.roundBegun, claimed, hd, ebranch, erun] at here
        refine ⟨by rw [here]; rfl, by rw [here]; rfl, link_of_drops here rfl, fun h => (nomatch h),
          fun _ => ⟨by rw [here]; rfl, fun _ => by rw [here]; exact ⟨rfl, rfl⟩, fun d rest h => absurd h (by simp)⟩⟩
      | cons d drops =>
        rw [State.roundBegun, claimed, hd, ebranch, erun] at here
        refine ⟨by rw [here]; rfl, by rw [here]; rfl, link_of_drops here rfl, fun h => (nomatch h),
          fun _ => ⟨by rw [here]; rfl, fun h => absurd h (by simp), fun d' rest h => ?_⟩⟩
        obtain ⟨rfl, rfl⟩ := List.cons.inj h
        rw [here]
        exact ⟨rfl, rfl, rfl⟩
  · have mp := mport p
    rw [if_pos rfl] at mp
    rw [← mp]
    change Port.SameButMarks _ (u.port p)
    rw [uport]; rfl
  · have mq := mport q
    rw [if_neg hq] at mq
    rw [← mq]
    change Port.SameButMarks _ (u.port q)
    rw [uport]; rfl
  · change (u.port q).changed = _
    rw [uport, ← enabled]; rfl
  · change (u.port q).summaryChanged = true ↔ _ ∨ u.outputs ≠ _ ∨ ∃ b, (u.branch b).roundCounter ≠ 0
    have outputs : u.outputs = n.evalOutputs.outputs := by rw [begun.rest, he]
    rw [begun.summary, he, summaryChanged_evalOutputs, outputs, outputsBefore, nport, or_assoc, ← enabled]
    refine or_congr Iff.rfl (or_congr_right (exists_congr fun b => ?_))
    have counted := roundCounter_roundBegun e b
    have zero : (e.branch b).roundCounter = 0 := by rw [ebranch]; rfl
    rw [← he, ubranch, ← counted, zero]
    have enable : (e.branch b).enable = (s.branch b).enable := by rw [ebranch]; rfl
    simp only [branchIds, List.mem_finRange, true_and, enable]
    cases (s.branch b).enable with
    | false => simp [Branch.restarted]
    | true => simp
  · change (u.port q).refreshStart = _
    rw [uport, ← enabled]; rfl
  · change (u.port q).refreshCycle = _
    rw [uport]; rfl
  · change (u.port q).lastReported[i] = none
    rw [uport]
    simp [Port.restarted]

end Sys2Proof.Machine
end


section
/-! SUPPORT. A waiting DIRECT that its branch, its pair or a warm restart ends. -/

namespace Sys2Proof.Machine

variable {s t u v : State} {p q : PortId} {b c : BranchId} {d : DropId} {i : DoorId} {pd : PendingDirect} {r : Request}
  {e : List Byte} {res : Result}

/-! ### The port that waits -/

/-- R157: a state in which the item executing at the port has ended with the entry. -/
def State.ended (s : State) (q : PortId) (e : List Byte) : State :=
  { s with ports := s.ports.set q ((s.port q).itemEnded e) }

theorem port_ended (s : State) (q : PortId) (e : List Byte) (p : PortId) :
    (s.ended q e).port p = if p = q then (s.port q).itemEnded e else s.port p := port_setPort s q _ p

theorem ended_branch (s : State) (q : PortId) (e : List Byte) (b : BranchId) : (s.ended q e).branch b = s.branch b := rfl

theorem Port.SameButMarks.itemEnded {x y : Port} (h : x.SameButMarks y) (e : List Byte) :
    (x.itemEnded e).SameButMarks (y.itemEnded e) := by
  obtain ⟨changed, summary, rfl⟩ : ∃ c m, y = { x with changed := c, summaryChanged := m } := ⟨_, _, h⟩
  obtain hr | ⟨r, hr⟩ := Option.eq_none_or_eq_some x.request
  · have plain : x.itemEnded e = x := by rw [Port.itemEnded, hr]
    have marked : Port.itemEnded e { x with changed := changed, summaryChanged := summary } =
        { x with changed := changed, summaryChanged := summary } := by simp only [Port.itemEnded, hr]
    rw [plain, marked]; rfl
  · have marked := itemEnded_eq (x := { x with changed := changed, summaryChanged := summary }) hr e
    rw [itemEnded_eq hr, marked]
    split <;> rfl

theorem sameButMarks_ended (h : ∀ p, (s.port p).SameButMarks (t.port p)) (q : PortId) (e : List Byte) (p : PortId) :
    ((s.ended q e).port p).SameButMarks ((t.ended q e).port p) := by
  rw [port_ended, port_ended]
  split
  · exact (h q).itemEnded e
  · exact h p

theorem BranchOnly.ended (h : BranchOnly b s t) (q : PortId) (e : List Byte) :
    BranchOnly b (s.ended q e) (t.ended q e) := by
  refine ⟨?_, sameButMarks_ended h.ports q e, h.others⟩
  rw [State.ended, h.rest]; rfl

/-- R164: a port whose request waits for a DIRECT, after its answer. -/
theorem directAnswered_itemEnded {x : Port} (hr : x.request = some r) (e : List Byte) : x.DirectAnswered r e (x.itemEnded e) := by
  rw [itemEnded_eq hr]
  refine ⟨fun h => ?_, fun h => ?_⟩
  · rw [if_pos h]; exact ⟨rfl, rfl⟩
  · rw [if_neg (by omega)]; exact ⟨rfl, rfl⟩

/-! ### The answer -/

theorem awaits_of (hr : (s.port q).request = some r) (hw : r.wait = some (.direct b)) : (s.port q).awaits b = true := by
  simp [Port.awaits, hr, hw]

/-- R151, R152: the answer of a pending direct exchange for which its port waits. -/
theorem answerDirect_waiting (hp : (s.branch b).pendingDirect = some pd) (ha : (s.port pd.port).awaits b = true)
    (he : directEntry res (number b) (number pd.drop) pd.kind.code [] = e) :
    BranchOnly b (s.ended pd.port e) (s.answerDirect b res []) ∧ (s.answerDirect b res []).doors = s.doors ∧
      (s.answerDirect b res []).branch b = { s.branch b with pendingDirect := none } := by
  obtain ⟨x, hx⟩ : ∃ x, x = s.modBranch b fun y => { y with pendingDirect := none } := ⟨_, rfl⟩
  have plain : x = { s with branches := s.branches.set b { s.branch b with pendingDirect := none } } := by
    rw [hx]; exact modBranch_plain rfl
  have port : x.port pd.port = s.port pd.port := by rw [plain]; rfl
  have only : BranchOnly b s x := by rw [hx]; exact branchOnly_modBranch ..
  have eq : s.answerDirect b res [] = x.ended pd.port e := by
    have step : s.answerDirect b res [] = x.modPort pd.port fun y => if y.awaits b then y.itemEnded e else y := by
      rw [State.answerDirect, hp, hx, ← he]
    have taken : (if (x.port pd.port).awaits b then (x.port pd.port).itemEnded e else x.port pd.port) =
        (x.port pd.port).itemEnded e := by rw [port, ha, if_pos rfl]
    have kept := (x.port pd.port).itemEnded_role e
    rw [step, modPort_plain (by rw [taken]; exact kept.2.2) (by rw [taken]; exact kept.2.1), taken, State.ended]
  rw [eq]
  refine ⟨only.ended _ _, ?_, ?_⟩
  · rw [State.ended, plain]
  · rw [ended_branch, hx, State.branch_modBranch_self]

/-- R147, R149: a branch whose exchange in flight has been broken off. -/
def Branch.brokenOff (y : Branch) : Branch :=
  { y with
    exchange := none, broken := y.broken ++ (y.exchange.map fun x => (x.drop, x.sequence)).toList }

/-- R151, R152: a direct exchange in flight is broken off, and its item is answered. -/
theorem breakExchange_direct {x : Exchange} (hx : (s.branch b).exchange = some x) (hk : x.kind ≠ .regular)
    (hp : (s.branch b).pendingDirect = some pd) (ha : (s.port pd.port).awaits b = true)
    (he : directEntry res (number b) (number pd.drop) pd.kind.code [] = e) :
    BranchOnly b (s.ended pd.port e) (s.breakExchange b res) ∧ (s.breakExchange b res).doors = s.doors ∧
      (s.breakExchange b res).branch b = { (s.branch b).brokenOff with pendingDirect := none } := by
  obtain ⟨y, hy⟩ : ∃ y, y = s.modBranch b fun y => { y with exchange := none, broken := y.broken ++ [(x.drop, x.sequence)] } :=
    ⟨_, rfl⟩
  have first : BranchOnly b s y := by rw [hy]; exact branchOnly_modBranch ..
  have branch : y.branch b = (s.branch b).brokenOff := by
    rw [hy, State.branch_modBranch_self, Branch.brokenOff, hx]; rfl
  have port : (y.port pd.port).awaits b = true := by
    rw [first.ports pd.port]; exact ha
  have eq : s.breakExchange b res = y.answerDirect b res [] := by
    simp only [State.breakExchange, hx]
    rw [← hy]
  obtain ⟨only, doors, left⟩ := answerDirect_waiting (s := y) (by rw [branch]; exact hp) port he
  rw [eq]
  exact ⟨(first.ended _ _).trans only, doors.trans (by rw [hy, State.modBranch_doors]), by rw [left, branch]⟩

/-- R152: an exchange in flight is broken off, and the pending direct exchange is answered, with the same result. -/
theorem breakExchange_answered (hp : (s.branch b).pendingDirect = some pd) (ha : (s.port pd.port).awaits b = true)
    (he : directEntry res (number b) (number pd.drop) pd.kind.code [] = e) {f : Branch → Branch}
    (hf : ∀ y, (f y).pendingDirect = y.pendingDirect)
    (hc : ∀ y, f { y with pendingDirect := none } = { f y with pendingDirect := none }) :
    ∃ v, (((s.breakExchange b res).modBranch b f).answerDirect b res [] = v) ∧ BranchOnly b (s.ended pd.port e) v ∧
      v.doors = s.doors ∧ v.branch b = { f (s.branch b).brokenOff with pendingDirect := none } := by
  refine ⟨_, rfl, ?_⟩
  by_cases hk : ∀ x, (s.branch b).exchange = some x → x.kind = .regular
  · obtain ⟨only, doors, branch⟩ := breakExchange_regular hk res
    have first := only.trans (branchOnly_modBranch (s.breakExchange b res) b f)
    obtain ⟨y, hy⟩ : ∃ y, y = (s.breakExchange b res).modBranch b f := ⟨_, rfl⟩
    rw [← hy] at first ⊢
    have written : y.branch b = f (s.branch b).brokenOff := by rw [hy, State.branch_modBranch_self, branch]; rfl
    obtain ⟨last, doors', left⟩ := answerDirect_waiting (s := y) (by rw [written, hf]; exact hp)
      (by rw [first.ports pd.port]; exact ha) he
    exact ⟨(first.ended _ _).trans last, doors'.trans (by rw [hy, State.modBranch_doors, doors]), by rw [left, written]⟩
  · push Not at hk
    obtain ⟨x, hx, hk⟩ := hk
    obtain ⟨only, doors, branch⟩ := breakExchange_direct hx hk hp ha he
    have written : ((s.breakExchange b res).modBranch b f).branch b = { f (s.branch b).brokenOff with pendingDirect := none } := by
      rw [State.branch_modBranch_self, branch, hc]
    rw [answerDirect_none (by rw [written])]
    exact ⟨only.trans (branchOnly_modBranch ..), by rw [State.modBranch_doors, doors], written⟩

/-! ### A disabled branch -/

/-- R147, R152: a branch with a waiting direct exchange is disabled, and then its doors are taken. -/
theorem disableBranch_answered (hp : (s.branch b).pendingDirect = some pd) (ha : (s.port pd.port).awaits b = true)
    (he : directEntry .branchOff (number b) (number pd.drop) pd.kind.code [] = e) :
    ∃ v, s.disableBranch b = v.forDoors (v.doorsOfBranch b) State.doorBranchOff ∧ BranchOnly b (s.ended pd.port e) v ∧
      v.branch b = { (s.branch b).disabled with pendingDirect := none } := by
  obtain ⟨y, hy⟩ : ∃ y, y = s.modBranch b fun x => { x with enable := false } := ⟨_, rfl⟩
  have first : BranchOnly b s y := by rw [hy]; exact branchOnly_modBranch ..
  have branch : y.branch b = { s.branch b with enable := false } := by rw [hy, State.branch_modBranch_self]
  obtain ⟨v, hv, only, -, left⟩ := breakExchange_answered (s := y) (res := .branchOff)
    (f := fun x => { x with members := [], roundTimer := none, roundCounter := 0, drops := Vector.replicate 12 DropLink.fresh })
    (by rw [branch]; exact hp) (by rw [first.ports pd.port]; exact ha) he (fun _ => rfl) (fun _ => rfl)
  refine ⟨v, ?_, (first.ended _ _).trans only, by rw [left, branch]; rfl⟩
  rw [← hv, hy]; rfl

/-! ### Items of other ports -/

theorem ended_taking {it : Item} (h : p ≠ q) (e : List Byte) (o : PortId) :
    (((s.ended q e).taking p it).port o).SameButMarks (((s.taking p it).ended q e).port o) := by
  have active : ((s.ended q e).port p) = s.port p := by rw [port_ended, if_neg h]
  rw [port_ended]
  by_cases hp : o = p
  · rw [hp, if_neg h, port_taking_self, port_taking_self, active]; rfl
  · rw [port_taking_other hp, active]
    split
    · next ho =>
      rw [ho, port_ended, if_pos rfl, port_taking_other (Ne.symm h)]
      have marked : (s.port q).SameButMarks { s.port q with
        summaryChanged := !(s.port p).active || (s.port q).summaryChanged } := rfl
      exact marked.itemEnded e
    · next ho => rw [port_taking_other hp, port_ended, if_neg ho]; rfl

theorem ended_taking_rest (s : State) (p q : PortId) (it : Item) (e : List Byte) :
    (s.taking p it).ended q e = { s with ports := ((s.taking p it).ended q e).ports } := by
  rw [State.ended, taking_rest]

theorem free_ended (hf : s.Free p) (h : p ≠ q) (e : List Byte) : (s.ended q e).Free p :=
  ⟨hf.1, by rw [port_ended, if_neg h]; exact hf.2⟩

/-- R164: the waiting port after an item of another port that has answered its DIRECT. -/
theorem Answered.direct {x : State} {w : List Byte} (h : Answered p w (x.ended q e) t) (hn : p ≠ q)
    (hr : (x.port q).request = some r) : Port.DirectAnswered r e (x.port q) (t.port q) := by
  have kept := h.2 q hn.symm
  rw [port_ended, if_pos rfl] at kept
  rw [kept]
  exact directAnswered_itemEnded hr e

/-! ### A released pair -/

theorem modBranch_self (s : State) (b : BranchId) : s.modBranch b (fun y => y) = s := by
  rw [modBranch_plain rfl]
  simp [State.branch]

theorem dropDirect_eq (h : ∀ x, (s.branch b).pendingDirect = some x → x.drop = d) (res : Result) :
    s.dropDirect b d res = s.answerDirect b res [] := by
  cases hp : (s.branch b).pendingDirect with
  | none => simp only [State.dropDirect, State.answerDirect, hp]
  | some x => simp only [State.dropDirect, hp, h x hp, if_true]

/-- R152: what waits for a branch whose exchange has been broken off waited before. -/
theorem pendingDirect_breakExchange (hp : (s.branch b).pendingDirect = some pd) (ha : (s.port pd.port).awaits b = true)
    (x : PendingDirect) (h : ((s.breakExchange b res).branch b).pendingDirect = some x) : x = pd := by
  by_cases hk : ∀ x, (s.branch b).exchange = some x → x.kind = .regular
  · rw [(breakExchange_regular hk res).2.2] at h
    exact Option.some.inj (h.symm.trans hp)
  · push Not at hk
    obtain ⟨y, hx, hk⟩ := hk
    rw [(breakExchange_direct hx hk hp ha rfl).2.2] at h
    exact nomatch h

/-- R149, R152: a pair whose direct exchange waits is released: where the pair has an exchange in flight, that ends, and
the round goes on. -/
theorem releasePair_answered (hp : (s.branch b).pendingDirect = some pd) (ha : (s.port pd.port).awaits b = true)
    (he : directEntry .unclaimed (number b) (number pd.drop) pd.kind.code [] = e) :
    ∃ v, BranchOnly b (s.ended pd.port e) v ∧ v.doors = s.doors ∧ (v.branch b).pendingDirect = none ∧
      (v.branch b).drops = (s.branch b).drops.set pd.drop DropLink.fresh ∧
      ((∀ x, (s.branch b).exchange = some x → x.drop ≠ pd.drop) → s.releasePair b pd.drop = v) ∧
      ∀ x, (s.branch b).exchange = some x → x.drop = pd.drop → s.releasePair b pd.drop = v.exchangeEnded b ∧
        (v.branch b).exchange = none ∧ (x.drop, x.sequence) ∈ (v.branch b).broken := by
  obtain ⟨y, hy⟩ : ∃ y, y = (s.modLink b pd.drop fun _ => DropLink.fresh).modBranch b fun x =>
    { x with members := x.members.filter fun e => e ≠ pd.drop } := ⟨_, rfl⟩
  have first : BranchOnly b s y := by rw [hy]; exact (branchOnly_modBranch ..).trans (branchOnly_modBranch ..)
  have doors : y.doors = s.doors := by rw [hy]; simp [State.modLink]
  have branch : y.branch b = { s.branch b with
      drops := (s.branch b).drops.set pd.drop DropLink.fresh
      members := (s.branch b).members.filter fun e => e ≠ pd.drop } := by
    rw [hy]; simp [State.modLink]
  have waits : (y.branch b).pendingDirect = some pd := by rw [branch]; exact hp
  have awaits : (y.port pd.port).awaits b = true := by rw [first.ports pd.port]; exact ha
  have eq : s.releasePair b pd.drop = match (y.branch b).exchange with
      | some x => if x.drop = pd.drop then ((y.breakExchange b .unclaimed).dropDirect b pd.drop .unclaimed).exchangeEnded b
        else y.dropDirect b pd.drop .unclaimed
      | none => y.dropDirect b pd.drop .unclaimed := by rw [hy]; rfl
  have plain : y.dropDirect b pd.drop .unclaimed = y.answerDirect b .unclaimed [] :=
    dropDirect_eq (fun x h => by rw [Option.some.inj (h.symm.trans waits)]) _
  by_cases hx : ∀ x, (s.branch b).exchange = some x → x.drop ≠ pd.drop
  · obtain ⟨only, same, left⟩ := answerDirect_waiting waits awaits he
    refine ⟨_, (first.ended _ _).trans only, same.trans doors, by rw [left], by rw [left, branch], fun _ => ?_,
      fun x h h' => absurd h' (hx x h)⟩
    rw [eq, ← plain, branch]
    cases hxx : (s.branch b).exchange with
    | none => rfl
    | some x => simp only [hx x hxx, if_false]
  · push Not at hx
    obtain ⟨x, hx, hd⟩ := hx
    obtain ⟨v, hv, only, same, left⟩ := breakExchange_answered (f := fun y => y) waits awaits he (fun _ => rfl) fun _ => rfl
    refine ⟨v, (first.ended _ _).trans only, same.trans doors, by rw [left], by rw [left, branch]; rfl,
      fun h => absurd hd (h x hx), fun x' hx' _ => ?_⟩
    obtain rfl : x = x' := Option.some.inj (hx.symm.trans hx')
    refine ⟨?_, by rw [left]; rfl, by rw [left, branch]; simp [Branch.brokenOff, hx]⟩
    have brokenOff : (y.breakExchange b .unclaimed).dropDirect b pd.drop .unclaimed = v := by
      rw [← hv, modBranch_self]
      exact dropDirect_eq (fun x h => by rw [pendingDirect_breakExchange waits awaits x h]) _
    rw [eq, branch]
    simp only [hx, hd, if_true]
    rw [brokenOff]

/-! ### Disabling -/

/-- R147, R152: the disable of a branch for whose direct exchange a port waits. -/
theorem disable_answers {x : Branch} (h : s.MayInstall p) (hb : s.branch b = x) (hp : x.pendingDirect = some pd)
    (hr : (s.port pd.port).request = some r) (hw : r.wait = some (.direct b)) (hen : x.enable = true)
    (he : directEntry .branchOff (number b) (number pd.drop) pd.kind.code [] = e) :
    ∃ t, exec (.setEnable p (.branch (number b)) 0) s = .next t ∧
      t.branch b = { x.disabled with pendingDirect := none } ∧
      Port.DirectAnswered r e (s.port pd.port) (t.port pd.port) := by
  have other : p ≠ pd.port := fun h' => by
    rw [← h', h.1.1.2] at hr; exact nomatch hr
  let w := s.taking p (.set (.enable 0) (.branch (number b)))
  have owner : _ = (w.disableBranch b).answer .ok := setting_disable h (by rw [hb]; exact hen) _
  have awaits : (w.port pd.port).awaits b = true := by
    rw [port_taking_other other.symm]; exact awaits_of hr hw
  obtain ⟨v, eq, only, left⟩ := disableBranch_answered (s := w) (b := b) (by rw [State.branch_taking, hb]; exact hp) awaits he
  have work := onlyDoors_forDoors v (v.doorsOfBranch b) State.doorBranchOff onlyDoors_doorBranchOff
  rw [eq] at owner
  obtain ⟨t, ht, a⟩ := set_links (c := .setEnable p (.branch (number b)) 0) h.1.1 (free_ended h.1.1 other e) rfl rfl owner
    (by rw [work.rest, only.rest, ended_taking_rest])
    fun o => (ended_taking other e o).trans ((only.ports o).trans (work.ports o))
  refine ⟨t, ht, ?_, a.answered.direct other hr⟩
  rw [a.branch, work.branch, left, State.branch_taking, hb]

/-! ### A pair that goes -/

/-- R140: the drop polled next has a door. -/
theorem nextPoll_claimed (h : s.nextPoll b = some d) : ∃ i, s.claimant b d = some i := by
  rw [State.nextPoll] at h
  split at h
  · next hp => exact Option.some.inj h ▸ toPoll_claimed hp
  · split at h
    · obtain ⟨rest, hd⟩ : ∃ rest, s.claimedDrops b = d :: rest := by
        cases hd : s.claimedDrops b with
        | nil => rw [hd] at h; exact nomatch h
        | cons a rest => rw [hd] at h; exact ⟨rest, by rw [Option.some.inj h]⟩
      exact claimedDrops_claimed hd
    · exact nomatch h

theorem wentOn_kept (s : State) (b : BranchId) (y : Branch) : (s.wentOn b y).exchange = y.exchange ∧
    (s.wentOn b y).pendingDirect = y.pendingDirect ∧ (s.wentOn b y).drops = y.drops ∧ (s.wentOn b y).broken = y.broken := by
  rw [State.wentOn]
  split
  · exact ⟨rfl, rfl, rfl, rfl⟩
  · dsimp only
    split
    · split <;> exact ⟨rfl, rfl, rfl, rfl⟩
    · exact ⟨rfl, rfl, rfl, rfl⟩

/-- R140: the end of an exchange of a branch without a pending direct exchange, for a drop that no door has. -/
theorem exchangeEnded_unclaimed (hx : (s.branch b).exchange = none) (hp : (s.branch b).pendingDirect = none)
    (hd : s.claimant b d = none) :
    ((s.exchangeEnded b).branch b).pendingDirect = none ∧ ((s.exchangeEnded b).branch b).drops = (s.branch b).drops ∧
      (∀ x, ((s.exchangeEnded b).branch b).exchange = some x → x.drop ≠ d) ∧
      ∀ n, (d, n) ∈ (s.branch b).broken → (d, n) ∈ ((s.exchangeEnded b).branch b).broken := by
  obtain ⟨-, -, goes⟩ := exchangeEnded_effect hx fun e _ y hy => absurd (hp.symm.trans hy) (by simp)
  obtain ⟨exchange, pending, drops, broken⟩ := wentOn_kept s b (s.branch b)
  rw [GoesOn] at goes
  cases hn : s.nextPoll b with
  | none =>
    simp only [hn] at goes
    rw [goes, exchange, pending, drops, broken, hx, hp]
    exact ⟨rfl, rfl, fun x h => (nomatch h), fun n h => h⟩
  | some e =>
    obtain ⟨i, hi⟩ := nextPoll_claimed hn
    have other : e ≠ d := fun h => by rw [h, hd] at hi; exact nomatch hi
    simp only [hn] at goes
    rw [goes i hi fun y hy => absurd (hp.symm.trans hy) (by simp)]
    refine ⟨pending.trans hp, drops, fun x h => ?_, fun n h => ?_⟩
    · rw [← Option.some.inj h]; exact other
    · refine List.mem_filter.mpr ⟨by rw [broken]; exact h, ?_⟩
      simp [Ne.symm other]

/-- R149, R152: the pair of a pending direct exchange has been released and the port that waited, standing as in `x`, has
been answered with the entry. -/
def DirectReleased (b : BranchId) (pd : PendingDirect) (r : Request) (e : List Byte) (s x t : State) : Prop :=
  (t.branch b).pendingDirect = none ∧ Port.DirectAnswered r e (x.port pd.port) (t.port pd.port) ∧
    t.link b pd.drop = { missCount := 0, lost := false } ∧
    ∀ z, (s.branch b).exchange = some z → z.drop = pd.drop →
      (t.branch b).exchange ≠ some z ∧ (z.drop, z.sequence) ∈ (t.branch b).broken

/-- R149, R152: a SET that releases the pair for whose direct exchange a port waits, `y` being the state in which it does
so: no door has the pair any more. -/
theorem release_answers {c : Instr} {w : SettingWrite} {g : Target} {x y : State} (hf : s.Free p) (hx : x.Free p)
    (item : c.item = some (p, .set w g)) (hm : itemMalformed (.set w g) = false)
    (owner : (s.taking p (.set w g)).setting p g w = (y.releasePair b pd.drop).answer .ok)
    (rest : y = { s with doors := y.doors, units := y.units, branches := y.branches, ports := y.ports })
    (marks : ∀ q, ((x.taking p (.set w g)).port q).SameButMarks (y.port q))
    (exchange : (y.branch b).exchange = (s.branch b).exchange) (hp : (y.branch b).pendingDirect = some pd)
    (hr : (x.port pd.port).request = some r) (hw : r.wait = some (.direct b))
    (he : directEntry .unclaimed (number b) (number pd.drop) pd.kind.code [] = e) (claimed : y.claimant b pd.drop = none) :
    ∃ t, exec c s = .next t ∧ DirectReleased b pd r e s x t := by
  have other : p ≠ pd.port := fun h => by
    rw [← h, hx.2] at hr; exact nomatch hr
  have awaits : (y.port pd.port).awaits b = true := by
    rw [marks pd.port, port_taking_other other.symm]
    exact awaits_of hr hw
  obtain ⟨v, only, doors, pending, drops, left, ended⟩ := releasePair_answered hp awaits he
  have unclaimed : v.claimant b pd.drop = none := (claimant_of_doors doors b pd.drop).trans claimed
  -- the branch behind the release
  have released : ∃ u, (y.releasePair b pd.drop) = u ∧ BranchOnly b (y.ended pd.port e) u ∧
      (u.branch b).pendingDirect = none ∧ u.link b pd.drop = DropLink.fresh ∧
      ∀ z, (s.branch b).exchange = some z → z.drop = pd.drop →
        (u.branch b).exchange ≠ some z ∧ (z.drop, z.sequence) ∈ (u.branch b).broken := by
    by_cases hz : ∀ z, (s.branch b).exchange = some z → z.drop ≠ pd.drop
    · refine ⟨v, left (by rw [exchange]; exact hz), only, pending, ?_, fun z h h' => absurd h' (hz z h)⟩
      rw [State.link, drops]; simp
    · push Not at hz
      obtain ⟨z, hz, hd⟩ := hz
      obtain ⟨eq, free, broken⟩ := ended z (exchange.trans hz) hd
      obtain ⟨pending', drops', gone, kept⟩ := exchangeEnded_unclaimed free pending unclaimed
      obtain ⟨went, -, -⟩ := exchangeEnded_effect free fun _ _ k hk => absurd (pending.symm.trans hk) (by simp)
      refine ⟨_, eq, only.trans went, pending', ?_, fun z' h h' => ?_⟩
      · rw [State.link, drops', drops]; simp
      · obtain rfl : z = z' := Option.some.inj (hz.symm.trans h)
        exact ⟨fun hs => gone z hs h', h' ▸ kept z.sequence (h' ▸ broken)⟩
  obtain ⟨u, eq, work, pending, link, broken⟩ := released
  obtain ⟨t, ht, a⟩ := set_links (x := x.ended pd.port e) hf (free_ended hx other e) item hm (owner.trans (by rw [eq]))
    (by rw [work.rest, State.ended, rest])
    fun o => (ended_taking other e o).trans ((sameButMarks_ended marks _ e o).trans (work.ports o))
  refine ⟨t, ht, by rw [a.branch]; exact pending, a.answered.direct other hr, ?_, fun z h h' => ?_⟩
  · rw [State.link, a.branch]; exact link
  · rw [a.branch]; exact broken z h h'

/-- R6: a pair that its door has left is no door's. -/
theorem unclaimed_of_left {y : State} (h : s.PairsLawful) (hc : s.claimant b d = some i)
    (others : ∀ j, j ≠ i → y.door j = s.door j)
    (hi : ¬ ((y.door i).installed = true ∧ (y.door i).branch = b ∧ (y.door i).drop = d)) : y.claimant b d = none := by
  obtain ⟨installed, branch, drop⟩ := claimant_spec hc
  refine List.find?_eq_none.mpr fun j _ => ?_
  simp only [Bool.and_eq_true, decide_eq_true_eq, and_assoc]
  by_cases hj : j = i
  · rw [hj]; exact hi
  · rw [others j hj]
    rintro ⟨hj', hb, hd⟩
    exact h.1 i j (Ne.symm hj) installed hj' (by rw [branch, drop, hb, hd])

theorem Door.blanked_place (y : Door) (hold : Bool) : (y.blanked hold).installed = y.installed ∧
    (y.blanked hold).branch = y.branch ∧ (y.blanked hold).drop = y.drop := by
  rw [Door.blanked]
  split <;> exact ⟨rfl, rfl, rfl⟩

theorem Door.rehomed_place (y : Door) (nb : BranchId) (nd : DropId) (enabled : Bool) (now : Stamp) :
    (y.rehomed nb nd enabled now).branch = nb ∧ (y.rehomed nb nd enabled now).drop = nd := by
  rw [Door.rehomed]
  split <;> exact ⟨rfl, rfl⟩

/-- R149, R152: an installation SET that takes the pair from its door while a port waits for its direct exchange. -/
theorem pair_goes_answers {c : Instr} (h : s.MayInstall p) (lawful : s.PairsLawful) (hc : s.claimant b pd.drop = some i)
    (rests : (s.door i).state.isRest = true) (hp : (s.branch b).pendingDirect = some pd)
    (hr : (s.port pd.port).request = some r) (hw : r.wait = some (.direct b))
    (he : directEntry .unclaimed (number b) (number pd.drop) pd.kind.code [] = e)
    (command : c = .setInstalled p (.door (number i)) 0 ∨
      (∃ nb, c = .setBranch p (.door (number i)) (number nb) ∧ nb ≠ b ∧ s.pairTaken i nb pd.drop = false) ∨
      ∃ nd, c = .setDrop p (.door (number i)) (number nd) ∧ nd ≠ pd.drop ∧ s.pairTaken i b nd = false) :
    ∃ t, exec c s = .next t ∧ DirectReleased b pd r e s s t := by
  obtain ⟨installed, branch, drop⟩ := claimant_spec hc
  -- another pair
  have moves : ∀ nb nd, (c = .setBranch p (.door (number i)) (number nb) ∧ nd = (s.door i).drop ∧ nb ≠ (s.door i).branch ∨
      c = .setDrop p (.door (number i)) (number nd) ∧ nb = (s.door i).branch ∧ nd ≠ (s.door i).drop) →
      s.pairTaken i nb nd = false → (nb ≠ b ∨ nd ≠ pd.drop) → ∃ t, exec c s = .next t ∧ DirectReleased b pd r e s s t := fun nb nd hc' free apart => by
    obtain ⟨w, y, item, owner, frame, marks, branches, door⟩ := set_pair_installed h hc' installed rests free
    have kept : y.branch b = { s.branch b with drops := (y.branch b).drops } := by
      rw [branch_of_branches branches]; exact branch_modLink s nb b nd _
    refine release_answers (x := s) h.1.1 h.1.1 item (by simp [itemMalformed]) (by rw [owner, branch, drop])
      (by rw [frame]) marks (by rw [kept]) (by rw [kept]; exact hp) hr hw he
      (unclaimed_of_left lawful hc (fun j hj => by rw [door, if_neg hj]) ?_)
    rw [door, if_pos rfl]
    obtain ⟨-, nb', nd'⟩ := ((s.door i).rehomed nb nd (s.branch nb).enable s.clock.time).blanked_place s.settingsHold
    obtain ⟨nb'', nd''⟩ := (s.door i).rehomed_place nb nd (s.branch nb).enable s.clock.time
    rw [nb', nd', nb'', nd'']
    rintro ⟨-, hb, hd⟩
    exact apart.elim (fun h => h hb) fun h => h hd
  obtain rfl | ⟨nb, hc', hn, free⟩ | ⟨nd, hc', hn, free⟩ := command
  · obtain ⟨w, hw', written, marks⟩ := removing s p (.set (.installed 0) (.door (number i))) i
    have kept : w.branch b = s.branch b := by rw [State.branch, written]; rfl
    have owner : (s.taking p (.set (.installed 0) (.door (number i)))).setting p (.door (number i)) (.installed 0) =
        (w.releasePair b pd.drop).answer .ok := by
      refine (setting_remove (commands_taking h.1.2 _) (by simpa using h.2) (by simpa using installed)
        (by simpa using rests)).trans ?_
      rw [State.remove, hw', State.door_taking, branch, drop]
    have doors : w.doors = s.doors.set i (s.door i).removed := by rw [written]
    have door : ∀ j, w.door j = if j = i then (s.door i).removed else s.door j := fun j => by
      by_cases hj : j = i
      · simp [State.door, doors, hj]
      · have : i.val ≠ j.val := fun e => hj (Fin.ext e.symm)
        simp [State.door, doors, hj, this]
    obtain ⟨t, ht, pending, answered, link, broken⟩ := release_answers (x := s.leaveCycles i) (r := r)
      (c := .setInstalled p (.door (number i)) 0) h.1.1
      (free_leaveCycles h.1.1 i) rfl (by simp [itemMalformed]) owner (by rw [written]) marks (by rw [kept])
      (by rw [kept]; exact hp) (by simpa [State.leaveCycles] using hr) hw he
      (unclaimed_of_left lawful hc (fun j hj => by rw [door, if_neg hj]) (by rw [door, if_pos rfl]; simp [Door.removed]))
    refine ⟨t, ht, pending, ?_, link, broken⟩
    simpa [Port.DirectAnswered, State.leaveCycles] using answered
  · exact moves nb (s.door i).drop (.inl ⟨hc', rfl, by rw [branch]; exact hn⟩) (by rw [drop]; exact free) (.inl hn)
  · exact moves (s.door i).branch nd (.inr ⟨hc', rfl, by rw [drop]; exact hn⟩) (by rw [branch]; exact free) (.inr hn)

end Sys2Proof.Machine
end


section
/-! SUPPORT. A waiting DIRECT over a warm restart. -/

namespace Sys2Proof.Machine

variable {s t u v : State} {p q : PortId} {b c : BranchId} {d : DropId} {i : DoorId} {pd : PendingDirect} {r : Request}
  {e : List Byte} {res : Result}

/-! ### The request and the queue of a port -/

/-- R157: the request of a port and its transmit queue are as they were. -/
def Port.SameWork (x y : Port) : Prop := y.request = x.request ∧ y.queue = x.queue

theorem Port.SameWork.trans {x y z : Port} (h : x.SameWork y) (k : y.SameWork z) : x.SameWork z :=
  ⟨k.1.trans h.1, k.2.trans h.2⟩

theorem Port.SameButMarks.work {x y : Port} (h : x.SameButMarks y) : x.SameWork y := by
  rw [Port.SameButMarks] at h
  rw [h]
  exact ⟨rfl, rfl⟩

theorem Port.SameWork.awaits {x y : Port} (h : x.SameWork y) (b : BranchId) : y.awaits b = x.awaits b := by
  rw [Port.awaits, h.1]; rfl

theorem Port.DirectAnswered.work {x y z : Port} (h : Port.DirectAnswered r e x y) (k : y.SameWork z) :
    Port.DirectAnswered r e x z := by
  simp only [Port.DirectAnswered, k.1, k.2]; exact h

/-- R164: a port waits for one branch at most. -/
theorem awaits_other (hr : (s.port q).request = some r) (hw : r.wait = some (.direct b)) (hc : c ≠ b) :
    (s.port q).awaits c = false := by
  simp [Port.awaits, hr, hw, Ne.symm hc]

theorem awaits_answered {x y : Port} (h : Port.DirectAnswered r e x y) (c : BranchId) : y.awaits c = false := by
  by_cases hl : r.index + 1 < r.items.length
  · simp [Port.awaits, (h.1 hl).2]
  · simp [Port.awaits, (h.2 (by omega)).1]

/-! ### Other branches -/

/-- R151: the answer for a branch that a port does not wait for leaves that port, and other branches. -/
theorem answerDirect_others (ha : (s.port q).awaits c = false) (hb : b ≠ c) (res : Result) (data : List Byte) :
    (s.port q).SameWork ((s.answerDirect c res data).port q) ∧ (s.answerDirect c res data).branch b = s.branch b := by
  rw [State.answerDirect]
  split
  · exact ⟨⟨rfl, rfl⟩, rfl⟩
  · next d hd =>
    have marks := sameButMarks_modBranch s c (fun x => { x with pendingDirect := none }) q
    refine ⟨marks.work.trans ?_, by rw [State.branch_modPort, State.branch_modBranch, if_neg hb]⟩
    rw [State.port_modPort]
    split
    · next h =>
      rw [← h, marks.work.awaits, ha, if_neg (by decide)]
      exact ⟨rfl, rfl⟩
    · exact ⟨rfl, rfl⟩

/-- R153: a branch that a port does not wait for starts again. -/
theorem restartBranch_others (ha : (s.port q).awaits c = false) (hb : b ≠ c) :
    (s.port q).SameWork ((s.restartBranch c).port q) ∧ (s.restartBranch c).branch b = s.branch b := by
  have broken : (s.port q).SameWork ((s.breakExchange c .timeout).port q) ∧
      (s.breakExchange c .timeout).branch b = s.branch b := by
    rw [State.breakExchange]
    split
    · exact ⟨⟨rfl, rfl⟩, rfl⟩
    · next x hx =>
      have only := branchOnly_modBranch s c fun y => { y with exchange := none, broken := y.broken ++ [(x.drop, x.sequence)] }
      dsimp only
      split
      · exact ⟨(only.ports q).work, only.others b hb⟩
      · obtain ⟨work, branch⟩ := answerDirect_others (b := b) (by rw [(only.ports q).work.awaits]; exact ha) hb .timeout []
        exact ⟨(only.ports q).work.trans work, branch.trans (only.others b hb)⟩
  have last := branchOnly_modBranch (s.breakExchange c .timeout) c fun x =>
    { x with roundCounter := 0, roundTimer := none, members := [], drops := Vector.replicate 12 DropLink.fresh }
  exact ⟨broken.1.trans (last.ports q).work, (last.others b hb).trans broken.2⟩

theorem foldl_restartBranch_others {l : List BranchId} : ∀ s : State, (∀ c ∈ l, b ≠ c ∧ (s.port q).awaits c = false) →
    (s.port q).SameWork ((l.foldl (fun t c => t.restartBranch c) s).port q) ∧
      (l.foldl (fun t c => t.restartBranch c) s).branch b = s.branch b := by
  induction l with
  | nil => exact fun s _ => ⟨⟨rfl, rfl⟩, rfl⟩
  | cons c l ih =>
    intro s h
    obtain ⟨hc, ha⟩ := h c List.mem_cons_self
    obtain ⟨work, branch⟩ := restartBranch_others ha hc
    obtain ⟨work', branch'⟩ := ih (s.restartBranch c) fun a ha => by
      obtain ⟨hb, ha⟩ := h a (List.mem_cons_of_mem _ ha)
      exact ⟨hb, by rw [work.awaits]; exact ha⟩
    exact ⟨work.trans work', branch'.trans branch⟩

/-! ### The branch waited for -/

/-- R153, R164: what the branches' restart makes of a port that waits for a direct exchange: TIMEOUT where it is in
flight, and nothing where it is not. -/
theorem foldl_restartBranch_waiting {l : List BranchId} (hl : l.Nodup) (hb : b ∈ l)
    (hp : (s.branch b).pendingDirect = some pd) (hr : (s.port pd.port).request = some r) (hw : r.wait = some (.direct b))
    (he : directEntry .timeout (number b) (number pd.drop) pd.kind.code [] = e) :
    ((∃ x, (s.branch b).exchange = some x ∧ x.kind ≠ .regular) →
      ((l.foldl (fun t c => t.restartBranch c) s).branch b).pendingDirect = none ∧
        Port.DirectAnswered r e (s.port pd.port) ((l.foldl (fun t c => t.restartBranch c) s).port pd.port)) ∧
      ((∀ x, (s.branch b).exchange = some x → x.kind = .regular) →
        ((l.foldl (fun t c => t.restartBranch c) s).branch b).pendingDirect = some pd ∧
          (s.port pd.port).SameWork ((l.foldl (fun t c => t.restartBranch c) s).port pd.port)) := by
  obtain ⟨before, after, rfl⟩ := List.append_of_mem hb
  obtain ⟨-, hl, hn⟩ := List.nodup_append.mp hl
  have apart : (∀ c ∈ before, b ≠ c) ∧ ∀ c ∈ after, b ≠ c :=
    ⟨fun c hc => (hn c hc b List.mem_cons_self).symm, fun c hc h => (List.nodup_cons.mp hl).1 (h ▸ hc)⟩
  rw [List.foldl_append, List.foldl_cons]
  obtain ⟨work, branch⟩ := foldl_restartBranch_others (b := b) (q := pd.port) s fun c hc =>
    ⟨apart.1 c hc, awaits_other hr hw (apart.1 c hc).symm⟩
  obtain ⟨x, hx⟩ : ∃ x, x = before.foldl (fun t c => t.restartBranch c) s := ⟨_, rfl⟩
  rw [← hx] at work branch ⊢
  have waits : (x.branch b).pendingDirect = some pd := by rw [branch]; exact hp
  have request : (x.port pd.port).request = some r := work.1.trans hr
  have awaits : (x.port pd.port).awaits b = true := awaits_of request hw
  refine ⟨fun ⟨y, hy, hk⟩ => ?_, fun hk => ?_⟩
  · obtain ⟨only, -, left⟩ := breakExchange_direct (by rw [branch]; exact hy) hk waits awaits he
    have last := branchOnly_modBranch (x.breakExchange b .timeout) b fun x =>
      { x with roundCounter := 0, roundTimer := none, members := [], drops := Vector.replicate 12 DropLink.fresh }
    have answered : Port.DirectAnswered r e (s.port pd.port) ((x.restartBranch b).port pd.port) := by
      refine Port.DirectAnswered.work ?_ ((only.ports pd.port).work.trans (last.ports pd.port).work)
      rw [port_ended, if_pos rfl]
      have answered := directAnswered_itemEnded request e
      simp only [Port.DirectAnswered, work.2] at answered
      exact answered
    obtain ⟨work', branch'⟩ := foldl_restartBranch_others (b := b) (q := pd.port) (x.restartBranch b) fun c hc =>
      ⟨apart.2 c hc, awaits_answered answered c⟩
    refine ⟨?_, Port.DirectAnswered.work answered work'⟩
    rw [branch', State.restartBranch, State.branch_modBranch_self, left]
  · obtain ⟨only, -, left⟩ := restartBranch_effect (s := x) (b := b) (by rw [branch]; exact hk)
    have kept := work.trans (only.ports pd.port).work
    obtain ⟨work', branch'⟩ := foldl_restartBranch_others (b := b) (q := pd.port) (x.restartBranch b) fun c hc =>
      ⟨apart.2 c hc, awaits_other (kept.1.trans hr) hw (apart.2 c hc).symm⟩
    exact ⟨by rw [branch', left]; exact waits, kept.trans work'⟩

/-! ### The warm restart -/

/-- R185: the steps of a warm restart before the branches, and behind them, leave what a branch waits for and what a port
has to do. -/
theorem warmRestart_around (s : State) :
    ∃ x, OnlyDoors s x ∧ ∀ (y : State), y = branchIds.foldl (fun t c => t.restartBranch c) x → ∀ q b,
      (y.port q).SameWork (s.warmRestart.port q) ∧ (s.warmRestart.branch b).pendingDirect = (y.branch b).pendingDirect := by
  obtain ⟨still, -, -⟩ := forDoors_effect (s := s) (f := fun i t => t.endMotion i) (l := doorIds) s
    (fun i _ => makes_endMotion s i) (.refl s) rfl (fun _ _ => rfl) doorIds_nodup
  have stopped := (foldl_modUnit PowerUnit.restarted (List.nodup_finRange 4) (s.forDoors doorIds fun i t => t.endMotion i)).1
  refine ⟨_, still.trans stopped, fun y hy q b => ?_⟩
  have work : s.restartWork = y := hy.symm
  obtain ⟨doors, -, door⟩ := restartDoors_effect y
  obtain ⟨x, hx⟩ : ∃ x, x = (y.restartDoors.mapPorts fun _ q =>
    q.restarted y.restartDoors.installedDoors y.restartDoors.runCount).evalOutputs := ⟨_, rfl⟩
  have rests : ∀ j, (x.door j).installed = true → (x.door j).state.isRest = true := fun j hj => by
    have same : x.door j = y.restartDoors.door j := by rw [hx]; simp
    rw [same, door] at hj ⊢
    split at hj
    · next hi =>
      rw [if_pos hi, Door.uncontrolled_keeps (f := Door.state) (fun _ _ _ => rfl),
        Door.offBranch_keeps (f := Door.state) (fun _ _ _ => rfl)]
      simp only [Door.restarted, Door.eventFaultsOnly, Door.rested]
      rfl
    · next hi => exact absurd hj hi
  have begun := startRounds_rest rests
  obtain ⟨u, hu⟩ : ∃ u, u = x.startRounds := ⟨_, rfl⟩
  rw [← hu] at begun
  have eq : s.warmRestart = { u with store := { u.store with restartPending := none } } := by
    rw [State.warmRestart, work, hu, hx]
  rw [eq]
  have waits : (x.branch b).pendingDirect = (y.branch b).pendingDirect := by
    rw [hx, State.branch_evalOutputs, State.branch_mapPorts, doors.branch]
  have port : (y.port q).SameWork (x.port q) := by
    rw [hx]
    refine Port.SameWork.trans ?_ (sameButMarks_evalOutputs _ q).work
    rw [State.port_mapPorts]
    exact (doors.ports q).work
  refine ⟨port.trans ?_, ?_⟩
  · change (x.port q).SameWork (u.port q)
    rw [begun.port]
    exact ⟨rfl, rfl⟩
  · change (u.branch b).pendingDirect = _
    rw [begun.branch, ← waits]
    split
    · rw [State.roundBegun]
      split <;> rfl
    · rfl

/-- R152, R153: what a warm restart makes of a port that waits for a direct exchange. -/
theorem warmRestart_waiting (hp : (s.branch b).pendingDirect = some pd) (hr : (s.port pd.port).request = some r)
    (hw : r.wait = some (.direct b)) (he : directEntry .timeout (number b) (number pd.drop) pd.kind.code [] = e) :
    ((∃ x, (s.branch b).exchange = some x ∧ x.kind ≠ .regular) →
      (s.warmRestart.branch b).pendingDirect = none ∧
        Port.DirectAnswered r e (s.port pd.port) (s.warmRestart.port pd.port)) ∧
      ((∀ x, (s.branch b).exchange = some x → x.kind = .regular) →
        (s.warmRestart.branch b).pendingDirect = some pd ∧ (s.port pd.port).SameWork (s.warmRestart.port pd.port)) := by
  obtain ⟨x, work, behind⟩ := warmRestart_around s
  obtain ⟨y, hy⟩ : ∃ y, y = branchIds.foldl (fun t c => t.restartBranch c) x := ⟨_, rfl⟩
  obtain ⟨port, waits⟩ := behind y hy pd.port b
  have before := (work.ports pd.port).work
  obtain ⟨direct, regular⟩ := foldl_restartBranch_waiting (s := x) (l := branchIds) (List.nodup_finRange 4)
    (List.mem_finRange b) (by rw [work.branch]; exact hp) (before.1.trans hr) hw he
  rw [← hy, work.branch] at direct regular
  refine ⟨fun h => ?_, fun h => ?_⟩
  · obtain ⟨gone, answered⟩ := direct h
    refine ⟨waits.trans gone, Port.DirectAnswered.work ?_ port⟩
    simp only [Port.DirectAnswered, before.2] at answered
    exact answered
  · obtain ⟨kept, same⟩ := regular h
    exact ⟨waits.trans kept, (before.trans same).trans port⟩

/-- Settles O23: a disable, a release of the pair and a warm restart each break the exchange off or answer its item. -/
theorem waitingDirectsAreAnsweredWhenTheirPairGoes : Obligations.WaitingDirectsAreAnsweredWhenTheirPairGoes := by
  intro s p b pd r i entry hp hr hw _ hentry
  have entries : ∀ res, directEntry res (number b) (number pd.drop) pd.kind.code [] = entry res := fun res => by
    rw [hentry]; rfl
  refine ⟨fun h he => ?_, fun c h lawful hc hrest command => ?_, fun q w hpow hs hcr hres => ?_⟩
  · obtain ⟨t, ht, branch, answered⟩ := disable_answers h rfl hp hr hw he (entries .branchOff)
    refine ⟨t, ht, by rw [branch], by rw [branch]; rfl, answered, fun d => link_of_drops branch rfl d, fun x hx => ?_⟩
    rw [branch]
    simp [Branch.disabled, hx]
  · exact pair_goes_answers h lawful hc hrest hp hr hw (entries .unclaimed) command
  · obtain ⟨m, hm⟩ : ∃ m, m = ({ s with ports := s.ports.set q ((s.port q).responseSent w s.runCount) } : State) := ⟨_, rfl⟩
    have branch : m.branch b = s.branch b := by rw [hm]; rfl
    have port : (s.port pd.port).SameWork (m.port pd.port) := by
      rw [hm, port_setPort]
      split
      · next h => rw [h]; exact ⟨rfl, rfl⟩
      · exact ⟨rfl, rfl⟩
    have executed : exec (.responseSent q) s = .next m.warmRestart := by
      rw [hm, ← responseSentNow_restarts hs hcr hres]
      exact live_powered hpow fun s => s.responseSentNow q
    obtain ⟨direct, regular⟩ := warmRestart_waiting (s := m) (by rw [branch]; exact hp) (port.1.trans hr) hw
      (entries .timeout)
    rw [branch] at direct regular
    refine ⟨_, executed, fun h => ?_, fun h => ?_⟩
    · obtain ⟨gone, answered⟩ := direct h
      refine ⟨gone, ?_⟩
      simp only [Port.DirectAnswered, port.2] at answered
      exact answered
    · obtain ⟨kept, same⟩ := regular h
      exact ⟨kept, same.1.trans (port.1.trans hr), same.2.trans port.2⟩

end Sys2Proof.Machine
end


section
/-! SUPPORT. Work on doors and units reads the doors, the units, the settings hold, the holds, the clock, the cutoff and
the run count alone: on states that agree in these it does the same. -/

namespace Sys2Proof.Machine

/-- What work on doors and units reads, and what it writes. -/
structure Alike (s t : State) : Prop where
  doors : t.doors = s.doors
  units : t.units = s.units
  runCount : t.runCount = s.runCount
  settingsHold : t.settingsHold = s.settingsHold
  holds : t.holds = s.holds
  clock : t.clock = s.clock
  cutoff : t.cutoff = s.cutoff

namespace Alike

variable {s t u : State} {i : DoorId} {v : UnitId}

theorem refl (s : State) : Alike s s := ⟨rfl, rfl, rfl, rfl, rfl, rfl, rfl⟩

theorem symm (h : Alike s t) : Alike t s :=
  ⟨h.doors.symm, h.units.symm, h.runCount.symm, h.settingsHold.symm, h.holds.symm, h.clock.symm, h.cutoff.symm⟩

theorem trans (h : Alike s t) (k : Alike t u) : Alike s u :=
  ⟨k.doors.trans h.doors, k.units.trans h.units, k.runCount.trans h.runCount, k.settingsHold.trans h.settingsHold,
    k.holds.trans h.holds, k.clock.trans h.clock, k.cutoff.trans h.cutoff⟩

theorem door (h : Alike s t) (i : DoorId) : t.door i = s.door i := by rw [State.door, h.doors]; rfl

theorem unit (h : Alike s t) (v : UnitId) : t.unit v = s.unit v := by rw [State.unit, h.units]; rfl

theorem doorHeld (h : Alike s t) (i : DoorId) : t.doorHeld i = s.doorHeld i := by
  rw [State.doorHeld, State.held, h.door, h.holds]; rfl

theorem unitFailed (h : Alike s t) (i : DoorId) : t.unitFailed i = s.unitFailed i := by
  rw [State.unitFailed, h.door, h.unit]; rfl

/-- The same choice on both sides. -/
theorem ite {c d : Prop} [Decidable c] [Decidable d] {x y : State} (hc : d ↔ c) (h : Alike s t) (k : Alike x y) :
    Alike (if c then s else x) (if d then t else y) := by
  by_cases hd : d
  · rw [if_pos hd, if_pos (hc.mp hd)]; exact h
  · rw [if_neg hd, if_neg fun h => hd (hc.mpr h)]; exact k

/-! ### Writes -/

theorem modDoor (h : Alike s t) (i : DoorId) {f g : Door → Door} (hf : g (s.door i) = f (s.door i)) :
    Alike (s.modDoor i f) (t.modDoor i g) := by
  refine ⟨?_, ?_, ?_, ?_, ?_, ?_, ?_⟩ <;> simp [h.doors, h.door, h.units, h.runCount, h.settingsHold, h.holds, h.clock, h.cutoff, hf]

theorem modUnit (h : Alike s t) (v : UnitId) {f g : PowerUnit → PowerUnit} (hf : g (s.unit v) = f (s.unit v)) :
    Alike (s.modUnit v f) (t.modUnit v g) := by
  refine ⟨?_, ?_, ?_, ?_, ?_, ?_, ?_⟩ <;> simp [h.doors, h.unit, h.units, h.runCount, h.settingsHold, h.holds, h.clock, h.cutoff, hf]

theorem setState (h : Alike s t) (i : DoorId) (st : DoorState) : Alike (s.setState i st) (t.setState i st) := h.modDoor i rfl

theorem setSource (h : Alike s t) (i : DoorId) (src : Source) : Alike (s.setSource i src) (t.setSource i src) := h.modDoor i rfl

theorem raiseFault (h : Alike s t) (i : DoorId) (k : FaultKind) : Alike (s.raiseFault i k) (t.raiseFault i k) :=
  h.modDoor i (by rw [h.clock])

theorem driveOffNow (h : Alike s t) (i : DoorId) : Alike (s.driveOffNow i) (t.driveOffNow i) :=
  ite (by rw [h.door]) (h.modDoor i (by rw [h.runCount])) h

theorem raiseCondition (h : Alike s t) (i : DoorId) (k : FaultKind) : Alike (s.raiseCondition i k) (t.raiseCondition i k) :=
  ite (by rw [h.door]) h (h.raiseFault i k)

theorem clearFault (h : Alike s t) (i : DoorId) (k : FaultKind) : Alike (s.clearFault i k) (t.clearFault i k) := h.modDoor i rfl

theorem followCondition (h : Alike s t) (i : DoorId) (k : FaultKind) (c : Bool) :
    Alike (s.followCondition i k c) (t.followCondition i k c) := ite Iff.rfl (h.raiseCondition i k) (h.clearFault i k)

theorem updateNotControlled (h : Alike s t) (i : DoorId) : Alike (s.updateNotControlled i) (t.updateNotControlled i) := by
  rw [State.updateNotControlled, State.updateNotControlled, h.door, h.doorHeld]
  exact h.followCondition i _ _

/-! ### Rest and WARNING -/

theorem applyPending (h : Alike s t) (i : DoorId) : Alike (s.applyPending i) (t.applyPending i) := h.modDoor i rfl

theorem applyAtRest (h : Alike s t) (i : DoorId) : Alike (s.applyAtRest i) (t.applyAtRest i) :=
  ite (by rw [h.settingsHold]) h (h.applyPending i)

theorem enterWarning (h : Alike s t) (i : DoorId) (c : Cause) : Alike (s.enterWarning i c) (t.enterWarning i c) :=
  (h.setState i _).modDoor i (by rw [h.runCount])

theorem demanded (h : Alike s t) (i : DoorId) : t.demanded i = s.demanded i := by
  simp only [State.demanded, h.door, h.doorHeld]

theorem closureDemand (h : Alike s t) (i : DoorId) : Alike (s.closureDemand i) (t.closureDemand i) :=
  ite (by rw [h.demanded]) ((h.enterWarning i _).setSource i _) h

theorem enterRest (h : Alike s t) (i : DoorId) (st : DoorState) : Alike (s.enterRest i st) (t.enterRest i st) :=
  ((h.setState i st).applyAtRest i).closureDemand i

theorem enterIndicated (h : Alike s t) (i : DoorId) : Alike (s.enterIndicated i) (t.enterIndicated i) := by
  rw [State.enterIndicated, State.enterIndicated, h.door]
  exact h.enterRest i _

theorem followIndication (h : Alike s t) (i : DoorId) : Alike (s.followIndication i) (t.followIndication i) :=
  ite (by rw [h.door]) h (h.enterIndicated i)

/-! ### Slots and lists -/

theorem deadTimeTest (h : Alike s t) (i : DoorId) (dir : Dir) : Alike (s.deadTimeTest i dir) (t.deadTimeTest i dir) := by
  rw [State.deadTimeTest, State.deadTimeTest, h.door, h.runCount]
  exact h.setState i _

theorem admitHead (h : Alike s t) (v : UnitId) (e : Entry) : Alike (s.admitHead v e) (t.admitHead v e) :=
  ((h.modUnit v rfl).modDoor e.door rfl).deadTimeTest e.door e.direction

theorem admitUpTo (v : UnitId) (n : Nat) : ∀ {s t : State}, Alike s t → Alike (s.admitUpTo v n) (t.admitUpTo v n) := by
  induction n with
  | zero => exact fun h => h
  | succ n ih =>
    intro s t h
    simp only [State.admitUpTo, h.unit, h.cutoff]
    split
    · exact h
    · exact ite Iff.rfl (ih (h.admitHead v _)) h

theorem admissionRun (h : Alike s t) (v : UnitId) : Alike (s.admissionRun v) (t.admissionRun v) := by
  rw [State.admissionRun, State.admissionRun, h.unit]
  exact ite Iff.rfl (admitUpTo v _ h) h

theorem idleIfDone (h : Alike s t) (v : UnitId) : Alike (s.idleIfDone v) (t.idleIfDone v) := by
  simp only [State.idleIfDone, h.unit]
  exact ite Iff.rfl (h.modUnit v (by rw [h.runCount])) h

theorem freeSlot (h : Alike s t) (i : DoorId) : Alike (s.freeSlot i) (t.freeSlot i) := by
  simp only [State.freeSlot, h.door]
  exact ((h.modUnit _ rfl).admissionRun _).idleIfDone _

theorem leaveList (h : Alike s t) (i : DoorId) : Alike (s.leaveList i) (t.leaveList i) := by
  simp only [State.leaveList, h.door]
  have left := h.modUnit (s.door i).unit (f := fun x => { x with list := removeEntry i x.list })
    (g := fun x => { x with list := removeEntry i x.list }) rfl
  exact ite (by rw [left.unit]) (left.modUnit _ rfl) (left.idleIfDone _)

theorem startUnit (h : Alike s t) (v : UnitId) : Alike (s.startUnit v) (t.startUnit v) := h.modUnit v (by rw [h.runCount])

theorem unitJoined (h : Alike s t) (v : UnitId) (cls : Nat) : Alike (s.unitJoined v cls) (t.unitJoined v cls) := by
  simp only [State.unitJoined, h.unit]
  cases (s.unit v).state with
  | stopped => exact ite Iff.rfl (h.startUnit v) (h.modUnit v (by rw [h.runCount]))
  | gathering => exact ite Iff.rfl (h.startUnit v) h
  | starting => exact h
  | running => exact h.admissionRun v
  | idling => exact (h.modUnit v rfl).admissionRun v
  | failed => exact h

/-! ### Strokes -/

theorem refusePower (h : Alike s t) (i : DoorId) : Alike (s.refusePower i) (t.refusePower i) :=
  (h.raiseFault i _).enterIndicated i

theorem listRequest (h : Alike s t) (i : DoorId) (r : StrokeRequest) : Alike (s.listRequest i r) (t.listRequest i r) := by
  simp only [State.listRequest, h.door]
  exact ((h.modUnit _ rfl).setState i _).unitJoined _ _

theorem request (h : Alike s t) (i : DoorId) (r : StrokeRequest) : Alike (s.request i r) (t.request i r) :=
  ite (by rw [h.unitFailed]) (h.refusePower i) (h.listRequest i r)

theorem endStroke (h : Alike s t) (i : DoorId) : Alike (s.endStroke i) (t.endStroke i) :=
  ((h.driveOffNow i).freeSlot i).modDoor i rfl

theorem haltToRest (h : Alike s t) (i : DoorId) : Alike (s.haltToRest i) (t.haltToRest i) := (h.endStroke i).enterIndicated i

theorem cut (h : Alike s t) (i : DoorId) (k : FaultKind) : Alike (s.cut i k) (t.cut i k) :=
  ite (by rw [h.door]) ((h.raiseFault i k).haltToRest i) h

theorem endWork (h : Alike s t) (i : DoorId) : Alike (s.endWork i) (t.endWork i) := by
  simp only [State.endWork, h.door]
  split
  · exact h.leaveList i
  · exact h.endStroke i
  · exact h.endStroke i
  · exact h.endStroke i
  · exact h

theorem stopToRest (h : Alike s t) (i : DoorId) : Alike (s.stopToRest i) (t.stopToRest i) := (h.endWork i).enterIndicated i

theorem passToWarning (h : Alike s t) (i : DoorId) (c : Cause) : Alike (s.passToWarning i c) (t.passToWarning i c) :=
  (h.endWork i).enterWarning i c

theorem takeIndication (h : Alike s t) (i : DoorId) : Alike (s.takeIndication i) (t.takeIndication i) :=
  ite (by rw [h.door]) (h.followIndication i) (ite (by rw [h.door]) (h.stopToRest i) h)

theorem changeDirection (h : Alike s t) (i : DoorId) (dir : Dir) (c : Cause) (cls : Nat) :
    Alike (s.changeDirection i dir c cls) (t.changeDirection i dir c cls) :=
  ((h.driveOffNow i).modDoor i rfl).deadTimeTest i dir

theorem startTail (h : Alike s t) (i : DoorId) (c : Cause) : Alike (s.startTail i c) (t.startTail i c) :=
  ite (by rw [h.door]) (h.modDoor i (by rw [h.runCount])) h

theorem complete (h : Alike s t) (i : DoorId) (r : Stroke) (e : Nat) : Alike (s.complete i r e) (t.complete i r e) := by
  have completed : Alike ((((s.driveOffNow i).freeSlot i).modDoor i fun d => d.completed r.direction e s.clock.time).enterIndicated i)
      ((((t.driveOffNow i).freeSlot i).modDoor i fun d => d.completed r.direction e t.clock.time).enterIndicated i) :=
    (((h.driveOffNow i).freeSlot i).modDoor i (by rw [h.clock])).enterIndicated i
  exact ite Iff.rfl (completed.startTail i _) completed

theorem supervise (h : Alike s t) (i : DoorId) (r : Stroke) (e : Nat) : Alike (s.supervise i r e) (t.supervise i r e) := by
  simp only [State.supervise, h.door, h.runCount]
  refine ite Iff.rfl (h.complete i r e) (ite Iff.rfl (h.cut i _) ?_)
  split
  · exact h
  · exact ite Iff.rfl (h.cut i _) (h.modDoor i rfl)

/-- R63: the result of a reply. -/
theorem takeResult (h : Alike s t) (i : DoorId) : Alike (s.takeResult i) (t.takeResult i) := by
  simp only [State.takeResult, h.door, h.runCount]
  refine ite Iff.rfl (h.takeIndication i) ?_
  split
  · exact ite Iff.rfl (h.supervise i _ _) h
  · exact h

end Alike

end Sys2Proof.Machine
end


section
/-! SUPPORT. What the stages of a reply leave of the door, and when its result changes the door's state. -/

namespace Sys2Proof.Machine

variable {s t u : State} {i : DoorId} {b : BranchId} {r : Reply}

/-! ### The stages of a reply -/

theorem doorOnly_rangeCheck (s : State) (i : DoorId) (raw : Int) : DoorOnly i s (s.rangeCheck i raw) := by
  rw [State.rangeCheck]
  split
  · exact (doorOnly_modDoor s i _).trans (doorOnly_clearFault _ i _)
  · exact doorOnly_raiseCondition s i _

theorem doorOnly_takeCount (s : State) (i : DoorId) (r : Reply) : DoorOnly i s (s.takeCount i r) :=
  (((doorOnly_modDoor s i _).trans (doorOnly_rangeCheck _ i _)).trans (doorOnly_followCondition _ i _ _)).trans
    (doorOnly_followCondition _ i _ _)

theorem doorOnly_switchConflict (s : State) (i : DoorId) (tested : Bool) : DoorOnly i s (s.switchConflict i tested) := by
  rw [State.switchConflict]
  split
  · exact doorOnly_followCondition s i _ _
  · exact .refl i s

theorem doorOnly_sensorDisagree (s : State) (i : DoorId) : DoorOnly i s (s.sensorDisagree i) := by
  rw [State.sensorDisagree]
  dsimp only
  split
  · split
    · exact (doorOnly_modDoor s i _).trans (doorOnly_raiseCondition _ i _)
    · exact doorOnly_modDoor s i _
  · exact (doorOnly_modDoor s i _).trans (doorOnly_clearFault _ i _)

/-- R30: a reply that is taken writes its door. -/
theorem doorOnly_reply (s : State) (i : DoorId) (r : Reply) : DoorOnly i s (s.reply i r) := by
  have judged := (((doorOnly_takeCount s i r).trans (doorOnly_modDoor _ i fun d => d.intake r)).trans
    (doorOnly_modDoor _ i _)).trans (doorOnly_switchConflict (((s.takeCount i r).modDoor i fun d => d.intake r).indicate i) i
      (switchesTested ((s.takeCount i r).door i) (((s.takeCount i r).door i).intake r)))
  rw [State.reply]
  split
  · exact judged.trans (doorOnly_sensorDisagree _ i)
  · exact judged

/-! ### What a reply leaves of the door -/

/-- A field of a door that the stages of a reply leave, but for its intake. -/
structure Unjudged {α : Type} (f : Door → α) : Prop where
  count : ∀ d n, f (Door.countTaken d n) = f d := by exact fun _ _ => rfl
  position : ∀ d p, f { d with position := p } = f d := by exact fun _ _ => rfl
  faults : ∀ d a c l, f { d with faults := a, unacked := c, lastFault := l } = f d := by exact fun _ _ _ _ => rfl
  indication : ∀ d x, f { d with indication := x } = f d := by exact fun _ _ => rfl
  disagree : ∀ d n, f { d with disagreeCount := n } = f d := by exact fun _ _ => rfl

namespace Unjudged

variable {α : Type} {f : Door → α}

theorem clearFault (h : Unjudged f) (s : State) (i : DoorId) (k : FaultKind) :
    f ((s.clearFault i k).door i) = f (s.door i) := by
  rw [State.clearFault, State.door_modDoor_self]
  exact h.faults _ _ _ (s.door i).lastFault

theorem raiseCondition (h : Unjudged f) (s : State) (i : DoorId) (k : FaultKind) :
    f ((s.raiseCondition i k).door i) = f (s.door i) := by
  rw [State.raiseCondition]
  split
  · rfl
  · rw [State.raiseFault, State.door_modDoor_self]
    exact h.faults ..

theorem followCondition (h : Unjudged f) (s : State) (i : DoorId) (k : FaultKind) (c : Bool) :
    f ((s.followCondition i k c).door i) = f (s.door i) := by
  rw [State.followCondition]
  split
  · exact h.raiseCondition s i k
  · exact h.clearFault s i k

theorem takeCount (h : Unjudged f) (s : State) (i : DoorId) (r : Reply) : f ((s.takeCount i r).door i) = f (s.door i) := by
  rw [State.takeCount, State.stationFaults, h.followCondition, h.followCondition, State.rangeCheck]
  split
  · rw [h.clearFault, State.door_modDoor_self, h.position, State.door_modDoor_self, h.count]
  · rw [h.raiseCondition, State.door_modDoor_self, h.count]

theorem switchConflict (h : Unjudged f) (s : State) (i : DoorId) (tested : Bool) :
    f ((s.switchConflict i tested).door i) = f (s.door i) := by
  rw [State.switchConflict]
  split
  · exact h.followCondition s i _ _
  · rfl

theorem sensorDisagree (h : Unjudged f) (s : State) (i : DoorId) : f ((s.sensorDisagree i).door i) = f (s.door i) := by
  rw [State.sensorDisagree]
  dsimp only
  split
  · split
    · rw [h.raiseCondition, State.door_modDoor_self, h.disagree]
    · rw [State.door_modDoor_self, h.disagree]
  · rw [h.clearFault, State.door_modDoor_self, h.disagree]

/-- R30: such a field is as the intake has left it. -/
theorem reply (h : Unjudged f) (s : State) (i : DoorId) (r : Reply) :
    f ((s.reply i r).door i) = f (((s.takeCount i r).door i).intake r) := by
  have judged : f (((((s.takeCount i r).modDoor i fun d => d.intake r).indicate i).switchConflict i
      (switchesTested ((s.takeCount i r).door i) (((s.takeCount i r).door i).intake r))).door i) =
      f (((s.takeCount i r).door i).intake r) := by
    rw [h.switchConflict, State.indicate, State.door_modDoor_self, h.indication, State.door_modDoor_self]
  rw [State.reply]
  split
  · rw [h.sensorDisagree, judged]
  · exact judged

/-- R30: a field that the intake leaves too is as it was. -/
theorem reply_kept (h : Unjudged f) (hi : ∀ d, f (Door.intake d r) = f d) (s : State) (i : DoorId) :
    f ((s.reply i r).door i) = f (s.door i) := by
  rw [h.reply, hi, h.takeCount]

end Unjudged

theorem intake_keeps {α : Type} {f : Door → α} (d : Door) (hi : ∀ d, f (Door.initialTake d r) = f d := by exact fun _ => rfl)
    (hd : ∀ d, f (Door.debounced d r) = f d := by exact fun _ => rfl)
    (hs : ∀ d n p, f { d with settlingCount := n, phase := p } = f d := by exact fun _ _ _ => rfl) :
    f (d.intake r) = f d := by
  rw [Door.intake]
  split
  · exact hi d
  · rw [Door.settlingAdvanced]
    split
    · exact (hs _ _ _).trans (hd d)
    · exact hd d

/-! ### The result -/

/-- R54, R87: a state that an entry into the rest state of an indication leads to. -/
def DoorState.Entered (st : DoorState) : Prop := st.isRest = true ∨ st = .warning

theorem enterIndicated_entered (s : State) (i : DoorId) : ((s.enterIndicated i).door i).state.Entered := by
  rw [door_enterIndicated_self, Door.demandTaken]
  split
  · exact .inr rfl
  · exact .inl (Indication.restState_isRest _)

theorem DoorState.Entered.not_stroke {st : DoorState} (h : st.Entered) : st.hasStroke = false := by
  cases st <;> simp_all [DoorState.Entered, DoorState.isRest, DoorState.hasStroke]

theorem cut_entered (h : (s.door i).state.hasStroke = true) (k : FaultKind) : ((s.cut i k).door i).state.Entered := by
  rw [State.cut, if_pos h]
  exact enterIndicated_entered _ i

theorem complete_entered (s : State) (i : DoorId) (r : Stroke) (e : Nat) : ((s.complete i r e).door i).state.Entered := by
  have tail : ∀ (t : State) (c : Cause), ((t.startTail i c).door i).state = (t.door i).state := fun t c => by
    rw [State.startTail]
    split
    · rw [State.door_modDoor_self]
    · rfl
  rw [State.complete]
  split
  · rw [tail]; exact enterIndicated_entered _ i
  · exact enterIndicated_entered _ i

/-- R63 to R66: a supervision step that leaves the state writes the stroke record alone. -/
theorem supervise_kept {r : Stroke} {e : Nat} (hs : (s.door i).state.hasStroke = true)
    (h : ((s.supervise i r e).door i).state = (s.door i).state) :
    s.supervise i r e = s ∨ ∃ f : Door → Option Stroke, s.supervise i r e = s.modDoor i fun d => { d with stroke := f d } := by
  have moved : ∀ {t : State}, (t.door i).state.Entered → (t.door i).state ≠ (s.door i).state := fun {t} ht he => by
    have still := ht.not_stroke
    rw [he, hs] at still
    exact nomatch still
  simp only [State.supervise] at h ⊢
  split at h
  · exact absurd h (moved (complete_entered s i r e))
  next hc =>
    rw [if_neg hc]
    split at h
    · exact absurd h (moved (cut_entered hs _))
    next hl =>
      rw [if_neg hl]
      split at h
      · exact .inl rfl
      · split at h
        · exact absurd h (moved (cut_entered hs _))
        next p _ hst =>
          rw [if_neg hst]
          exact .inr ⟨fun d => some (d.supervised r p e s.runCount), rfl⟩

/-- R53, R63, R70: a result that leaves the state of its door writes the stroke record alone. -/
theorem takeResult_kept (h : ((s.takeResult i).door i).state = (s.door i).state) :
    s.takeResult i = s ∨ ∃ f : Door → Option Stroke, s.takeResult i = s.modDoor i fun d => { d with stroke := f d } := by
  simp only [State.takeResult] at h ⊢
  split at h
  · next hc =>
    rw [if_pos hc]
    left
    rw [State.takeIndication] at h ⊢
    split at h
    · next hr =>
      rw [if_pos hr]
      rw [State.followIndication] at h ⊢
      split at h
      · next hf => rw [if_pos hf]
      · next hf =>
        rw [door_enterIndicated_self, Door.demandTaken] at h
        split at h
        · rw [← h] at hr; exact nomatch hr
        · exact absurd h.symm hf
    · next hr =>
      rw [if_neg hr]
      split at h
      · next hu =>
        have entered := enterIndicated_entered (s.endWork i) i
        rw [← State.stopToRest, h] at entered
        obtain hr' | hw := entered
        · exact absurd hr' hr
        · have none : s.endWork i = s := by simp only [State.endWork, hw]
          rw [State.stopToRest, none, door_enterIndicated_self, hu, hw] at h
          rw [Door.demandTaken_state ⟨by simp [Door.rested, Indication.restState], by simp [Door.rested, Indication.restState]⟩]
            at h
          exact nomatch h
      · next hu => rw [if_neg hu]
  · next hc =>
    rw [if_neg hc]
    split at h
    · next r _ hd _ =>
      have stroke : (s.door i).state.hasStroke = true := by
        revert hd
        cases (s.door i).state <;> simp [DoorState.drive, DoorState.hasStroke]
      split at h
      · next ht => rw [if_pos ht]; exact supervise_kept stroke h
      · next ht => rw [if_neg ht]; exact .inl rfl
    · exact .inl rfl

/-! ### A reply on states that agree -/

namespace Alike

theorem takeCount (h : Alike s t) (i : DoorId) (r : Reply) : Alike (s.takeCount i r) (t.takeCount i r) := by
  have checked : ∀ {u v : State} (raw : Int), Alike u v → Alike (u.rangeCheck i raw) (v.rangeCheck i raw) :=
    fun raw k => ite Iff.rfl ((k.modDoor i rfl).clearFault i _) (k.raiseCondition i _)
  rw [State.takeCount, State.takeCount, h.door]
  exact ((checked _ (h.modDoor i rfl)).followCondition i _ _).followCondition i _ _

theorem switchConflict (h : Alike s t) (i : DoorId) (c : Bool) : Alike (s.switchConflict i c) (t.switchConflict i c) := by
  rw [State.switchConflict, State.switchConflict, h.door]
  exact ite Iff.rfl (h.followCondition i _ _) h

theorem sensorDisagree (h : Alike s t) (i : DoorId) : Alike (s.sensorDisagree i) (t.sensorDisagree i) := by
  have counted := h.modDoor i (f := fun d => { d with disagreeCount := min (d.disagreeCount + 1) Config.maxConfirm })
    (g := fun d => { d with disagreeCount := min (d.disagreeCount + 1) Config.maxConfirm }) rfl
  simp only [State.sensorDisagree]
  exact ite (by rw [h.door]) (ite (by rw [counted.door]) (counted.raiseCondition i _) counted)
    ((h.modDoor i rfl).clearFault i _)

/-- R30: a reply, on states that agree in the links too. -/
theorem reply (h : Alike s t) (hl : ∀ b d, (t.link b d).lost = (s.link b d).lost)
    (he : ∀ b, (t.branch b).enable = (s.branch b).enable) (i : DoorId) (r : Reply) : Alike (s.reply i r) (t.reply i r) := by
  have counted := h.takeCount i r
  have taken := counted.modDoor i (f := fun d => d.intake r) (g := fun d => d.intake r) rfl
  have onlyS := (onlyDoors_takeCount s i r).trans (onlyDoors_modDoor (s.takeCount i r) i fun d => d.intake r)
  have onlyT := (onlyDoors_takeCount t i r).trans (onlyDoors_modDoor (t.takeCount i r) i fun d => d.intake r)
  have off : ((t.takeCount i r).modDoor i fun d => d.intake r).lostOrOff i =
      ((s.takeCount i r).modDoor i fun d => d.intake r).lostOrOff i := by
    simp only [State.lostOrOff, taken.door, State.link, onlyS.branch, onlyT.branch]
    exact congrArg₂ (fun a c => a || !c) (hl _ _) (he _)
  have indicated : Alike (((s.takeCount i r).modDoor i fun d => d.intake r).indicate i)
      (((t.takeCount i r).modDoor i fun d => d.intake r).indicate i) :=
    taken.modDoor i (by rw [off])
  have judged := indicated.switchConflict i (switchesTested ((s.takeCount i r).door i) (((s.takeCount i r).door i).intake r))
  simp only [State.reply, h.door, counted.door]
  exact ite Iff.rfl (judged.sensorDisagree i) judged

end Alike

end Sys2Proof.Machine
end


section
/-! SUPPORT. Presses of the local controls. -/

namespace Sys2Proof.Machine

variable {s t u x y z : State} {i j : DoorId} {b : BranchId} {r : Reply} {e : Door}

/-! ### A good reply to a regular poll -/

/-- R144: a good reply to a regular poll of a drop that is not lost: the branch is written, the reply is taken, and the
round goes on. -/
theorem goodReply_exec {l : List Byte} {f : StationFrame} {x : Exchange} (hp : s.powered = true)
    (hx : (s.branch b).exchange = some x) (hk : x.kind = .regular) (hl : readStationFrame l = some f)
    (good : f.goodFor x = true) (hc : s.claimant b x.drop = some i) (lost : (s.link b x.drop).lost = false) :
    ∃ z, exec (.stationReplyFrame b l) s = .next ((z.takeReply i f.reply).exchangeEnded b).evalOutputs ∧
      z = { s with branches := z.branches } ∧ OtherBranches b s z ∧ z.branch b = { s.branch b with
        collecting := false, exchange := none
        drops := (s.branch b).drops.set x.drop { missCount := 0, lost := false } } := by
  obtain ⟨m, hm⟩ : ∃ m, m = (s.huntingOn b).clearExchange b := ⟨_, rfl⟩
  have branch : m.branch b = { s.branch b with collecting := false, exchange := none } := by
    rw [hm, State.clearExchange, State.branch_modBranch_self, branch_huntingOn]
  have others : OtherBranches b s m := fun c hc => by
    rw [hm, State.clearExchange, State.branch_modBranch, if_neg hc, State.huntingOn, branch_setBranch, if_neg hc]
  have plain : m = { s with branches := m.branches } := by
    rw [hm, clearExchange_eq]; rfl
  obtain ⟨z, hz⟩ : ∃ z, z = m.modLink b x.drop fun _ => { missCount := 0, lost := false } := ⟨_, rfl⟩
  have written : z = { m with branches := z.branches } := by
    rw [hz, State.modLink, modBranch_plain rfl]
  have recovered : (m.link b x.drop).lost = false := by rw [State.link, branch]; exact lost
  have claimed : z.claimant b x.drop = some i := by
    rw [← hc]; exact claimant_of_doors (by rw [written, plain]) b x.drop
  have regular : m.goodRegular b x.drop f.reply = z.takeReply i f.reply := by
    simp only [State.goodRegular, recovered]
    rw [← hz, claimed]
    rfl
  refine ⟨z, ?_, by rw [written, plain], fun c hc => ?_, ?_⟩
  · rw [exec_stationFrame_read hp hl, takeFrame_judged (x := x) (by rw [branch_huntingOn]; exact hx) (.inl good),
      State.frameJudged, if_pos good]
    simp only [hk]
    rw [← hm, regular]
  · rw [hz, State.modLink, State.branch_modBranch, if_neg hc]
    exact others c hc
  · rw [hz, State.modLink, State.branch_modBranch_self, branch]

/-- R35: the edges that a reply has confirmed at a door that stood as `d` and stands as `e`. -/
def edgesBetween (d e : Door) : Edges :=
  { openPress := !d.localOpen && e.localOpen, openLetGo := d.localOpen && !e.localOpen
    closePress := !d.localClose && e.localClose }

/-- R30, R35: a reply whose result leaves the state of its door: what it has made of the door, and the edges it has
confirmed. -/
structure ReplyTaken (s z : State) (i : DoorId) (r : Reply) (e : Door) : Prop where
  door : ((z.reply i r).takeResult i).door i = e
  only : DoorOnly i z ((z.reply i r).takeResult i)
  edges : edgesOf ((z.takeCount i r).door i) (((z.takeCount i r).door i).intake r) = edgesBetween (s.door i) e
  state : e.state = (s.door i).state
  inService : e.inService = (s.door i).inService
  unit : e.unit = (s.door i).unit
  zone : e.zone = (s.door i).zone

/-- R30, R63: a reply whose result leaves the state of its door. -/
theorem replyTaken (h : Alike s z) (hl : ∀ b d, (z.link b d).lost = (s.link b d).lost)
    (hb : ∀ b, (z.branch b).enable = (s.branch b).enable) (he : e = ((s.reply i r).takeResult i).door i)
    (hs : e.state = (s.door i).state) (phase : (s.door i).phase ≠ .awaiting) : ReplyTaken s z i r e := by
  have same : ((z.reply i r).takeResult i).door i = e := by
    rw [he]; exact ((h.reply hl hb i r).takeResult i).door i
  have state : ((z.reply i r).door i).state = (s.door i).state := by
    rw [Unjudged.reply_kept (f := Door.state) {} intake_keeps z i, h.door]
  have kept := takeResult_kept (s := z.reply i r) (i := i) (by rw [same, hs, state])
  -- the fields of the door that neither the stages behind the intake nor the result write
  have field : ∀ {α : Type} {f : Door → α}, Unjudged f → (∀ d w, f { d with stroke := w } = f d) →
      f e = f (((z.takeCount i r).door i).intake r) := fun {α f} hf hw => by
    rw [← same, ← hf.reply]
    obtain kept | ⟨g, kept⟩ := kept
    · rw [kept]
    · rw [kept, State.door_modDoor_self, hw]
  have place : ∀ {α : Type} {f : Door → α}, Unjudged f → (∀ d w, f { d with stroke := w } = f d) →
      (∀ d, f (Door.intake d r) = f d) → f e = f (s.door i) := fun hf hw hi => by
    rw [field hf hw, hi, hf.takeCount, h.door]
  have counted : ∀ {α : Type} {f : Door → α}, Unjudged f → f ((z.takeCount i r).door i) = f (s.door i) := fun hf => by
    rw [hf.takeCount, h.door]
  have opened : e.localOpen = (((z.takeCount i r).door i).intake r).localOpen :=
    field {} fun _ _ => rfl
  have closed : e.localClose = (((z.takeCount i r).door i).intake r).localClose :=
    field {} fun _ _ => rfl
  have openBefore : ((z.takeCount i r).door i).localOpen = (s.door i).localOpen :=
    counted {}
  have closeBefore : ((z.takeCount i r).door i).localClose = (s.door i).localClose :=
    counted {}
  have phaseBefore : ((z.takeCount i r).door i).phase = (s.door i).phase :=
    counted {}
  refine ⟨same, ?_, ?_, hs, ?_, ?_, ?_⟩
  · refine (doorOnly_reply z i r).trans ?_
    obtain kept | ⟨g, kept⟩ := kept
    · rw [kept]; exact .refl i _
    · rw [kept]; exact doorOnly_modDoor _ i _
  · rw [edgesOf, if_neg (by rw [phaseBefore]; exact phase), edgesBetween, opened, closed, openBefore, closeBefore]
  · exact place {} (fun _ _ => rfl) intake_keeps
  · exact place {} (fun _ _ => rfl) intake_keeps
  · exact place {} (fun _ _ => rfl) intake_keeps

/-! ### The edges on states that agree -/

namespace Alike

theorem localSource (h : Alike s t) (i : DoorId) (old : DoorState) : Alike (s.localSource i old) (t.localSource i old) :=
  ite (by rw [h.door]) h (h.setSource i _)

theorem openPressed (h : Alike s t) (i : DoorId) : Alike (s.openPressed i) (t.openPressed i) := by
  simp only [State.openPressed, h.door, h.runCount, h.doorHeld]
  cases (s.door i).state with
  | closed | halted | warning => exact h.request i _
  | queued dir => cases dir with
    | close => exact h.request i _
    | opening => exact h
  | recloseWait => exact ite Iff.rfl (h.request i _) h
  | closing => exact h.changeDirection i _ _ _
  | reversing dir => cases dir with
    | close => exact h.changeDirection i _ _ _
    | opening => exact h
  | unknown | opened | opening => exact h

theorem closePressed (h : Alike s t) (i : DoorId) : Alike (s.closePressed i) (t.closePressed i) := by
  simp only [State.closePressed, h.door, h.runCount, h.doorHeld]
  cases (s.door i).state with
  | opened | halted => exact h.request i _
  | queued dir => cases dir with
    | opening => exact h.request i _
    | close => exact h
  | recloseWait => exact ite Iff.rfl (h.request i _) h
  | opening => exact h.changeDirection i _ _ _
  | reversing dir => cases dir with
    | opening => exact h.changeDirection i _ _ _
    | close => exact h
  | unknown | closed | warning | closing => exact h

theorem enterRecloseWait (h : Alike s t) (i : DoorId) : Alike (s.enterRecloseWait i) (t.enterRecloseWait i) :=
  (h.setState i _).modDoor i (by rw [h.runCount])

theorem openLetGo (h : Alike s t) (i : DoorId) : Alike (s.openLetGo i) (t.openLetGo i) := by
  simp only [State.openLetGo, h.door]
  cases (s.door i).state with
  | queued dir | reversing dir => cases dir with
    | opening => exact ite Iff.rfl (h.stopToRest i) ((h.endWork i).enterRecloseWait i)
    | close => exact h
  | opening => exact ite Iff.rfl (h.stopToRest i) ((h.endWork i).enterRecloseWait i)
  | opened | halted => exact ite Iff.rfl h (h.enterRecloseWait i)
  | unknown | closed | warning | closing | recloseWait => exact h

theorem takeEdge (h : Alike s t) (i : DoorId) (edge : Bool) {f : State → State} (hf : Alike (f s) (f t)) :
    Alike (s.takeEdge i edge f) (t.takeEdge i edge f) := by
  simp only [State.takeEdge, h.door]
  exact ite Iff.rfl (hf.localSource i _) h

theorem takeEdges (h : Alike s t) (i : DoorId) (e : Edges) : Alike (s.takeEdges i e) (t.takeEdges i e) := by
  have opened := h.takeEdge i e.openPress (f := fun t => t.openPressed i) (h.openPressed i)
  have gone : Alike ((s.takeEdge i e.openPress fun t => t.openPressed i).takeLetGo i e.openLetGo)
      ((t.takeEdge i e.openPress fun t => t.openPressed i).takeLetGo i e.openLetGo) := by
    rw [State.takeLetGo, State.takeLetGo, opened.doorHeld]
    exact opened.takeEdge i _ (opened.openLetGo i)
  exact gone.takeEdge i e.closePress (gone.closePressed i)

end Alike

/-- The state with one door standing otherwise. -/
def State.standing (s : State) (i : DoorId) (e : Door) : State := { s with doors := s.doors.set i e }

theorem door_standing (s : State) (i : DoorId) (e : Door) (j : DoorId) :
    (s.standing i e).door j = if j = i then e else s.door j := by
  by_cases hj : j = i
  · simp [State.standing, State.door, hj]
  · have : i.val ≠ j.val := fun h => hj (Fin.ext h.symm)
    simp [State.standing, State.door, hj, this]

theorem alike_standing (h : Alike s t) (only : DoorOnly i t u) (work : OnlyDoors t u) (hd : u.door i = e) :
    Alike (s.standing i e) u := by
  have doors : u.doors = (s.standing i e).doors := by
    refine Vector.ext fun n hn => ?_
    have here : u.door ⟨n, hn⟩ = (s.standing i e).door ⟨n, hn⟩ := by
      rw [door_standing]
      split
      · next hi => rw [hi, hd]
      · next hi => rw [only.others _ hi, h.door]
    exact here
  exact ⟨doors, only.units.trans h.units, work.runCount.trans h.runCount, work.settingsHold.trans h.settingsHold,
    work.holds.trans h.holds, work.clock.trans h.clock, work.cutoff.trans h.cutoff⟩

/-- R30, R144: a good reply to a regular poll whose result leaves the state of its door: the edges act on the door as the
reply leaves it, and the next drop is polled. -/
theorem goodReply_edges {l : List Byte} {f : StationFrame} {x : Exchange} (hp : s.powered = true)
    (hx : (s.branch b).exchange = some x) (hk : x.kind = .regular)
    (hn : ∀ d, s.nextPoll b = some d → (s.branch b).NoDirectFor d) (hl : readStationFrame l = some f)
    (good : f.goodFor x = true) (hc : s.claimant b x.drop = some i) (lost : (s.link b x.drop).lost = false)
    (phase : (s.door i).phase ≠ .awaiting) (he : e = ((s.reply i f.reply).takeResult i).door i)
    (hs : e.state = (s.door i).state) :
    ∃ t z, exec (.stationReplyFrame b l) s = .next t ∧ ReplyTaken s z i f.reply e ∧
      (∀ j, t.door j = s.ifPolled b j (((s.standing i e).takeEdges i (edgesBetween (s.door i) e)).door j)) ∧
      t.units = ((s.standing i e).takeEdges i (edgesBetween (s.door i) e)).units := by
  obtain ⟨z, executed, plain, others, branch⟩ := goodReply_exec hp hx hk hl good hc lost
  have alike : Alike s z := by rw [plain]; exact ⟨rfl, rfl, rfl, rfl, rfl, rfl, rfl⟩
  have links : ∀ c d, (z.link c d).lost = (s.link c d).lost := fun c d => by
    rw [State.link, State.link]
    by_cases hb : c = b
    · rw [hb, branch]
      by_cases hd : d = x.drop
      · rw [hd]; simpa [State.link] using lost.symm
      · have : x.drop.val ≠ d.val := fun h => hd (Fin.ext h.symm)
        simp [this]
    · rw [others c hb]
  have enable : ∀ c, (z.branch c).enable = (s.branch c).enable := fun c => by
    by_cases hb : c = b
    · rw [hb, branch]
    · rw [others c hb]
  have taken := replyTaken alike links enable he hs phase
  have work : OnlyDoors z ((z.reply i f.reply).takeResult i) := (onlyDoors_reply z i _).trans (onlyDoors_takeResult _ i)
  have edges : Alike ((s.standing i e).takeEdges i (edgesBetween (s.door i) e)) (z.takeReply i f.reply) := by
    simp only [State.takeReply]
    rw [taken.edges]
    exact (alike_standing alike taken.only work taken.door).takeEdges i _
  obtain ⟨y, hy⟩ : ∃ y, y = z.takeReply i f.reply := ⟨_, rfl⟩
  have only : OnlyDoors z y := by rw [hy]; exact onlyDoors_takeReply z i _
  have places : ∀ j, (y.door j).image = { (z.door j).image with settings := (y.door j).settings } := fun j => by
    rw [hy]; exact (Work.takeReply .start i f.reply).places j
  rw [← hy] at edges executed
  have after : y.branch b = { s.branch b with
      collecting := false, exchange := none
      drops := (s.branch b).drops.set x.drop { missCount := 0, lost := false } } := (only.branch b).trans branch
  have same : SameRound b s y := by
    refine ⟨by rw [after], by rw [after], by rw [after], only.runCount.trans alike.runCount, claimant_congr (fun j => ?_) b⟩
    have place := places j
    simp only [Door.image, DoorImage.mk.injEq] at place
    rw [← alike.door]
    exact ⟨place.1, place.2.1, place.2.2.1⟩
  obtain ⟨ended, polled, -⟩ := exchangeEnded_effect (s := y) (b := b) (by rw [after]) fun d hd => by
    rw [after]
    exact hn d (by rw [← same.nextPoll]; exact hd)
  refine ⟨_, z, executed, taken, fun j => ?_, ?_⟩
  · rw [State.door, State.evalOutputs_doors]
    refine (polled j).trans ?_
    rw [same.ifPolled, edges.door]
  · rw [State.evalOutputs_units, ended.units, edges.units]

/-! ### A press -/

/-- R73, R74: a press of one local control. -/
def State.pressed (s : State) (i : DoorId) : Dir → State
  | .opening => s.openPressed i
  | .close => s.closePressed i

/-- R73, R74: the states in which a press of the control of this direction asks for a stroke. -/
def Dir.asks : Dir → List DoorState
  | .opening => [.closed, .halted, .warning, .queued .close]
  | .close => [.opened, .halted, .queued .opening]

/-- R73, R74: the states in which it turns the stroke. -/
def Dir.turns : Dir → List DoorState
  | .opening => [.reversing .close, .closing]
  | .close => [.reversing .opening, .opening]

/-- R73, R74, R94: the class of the stroke that a press asks for. -/
def Dir.pressClass (held : Bool) : Dir → Nat
  | .opening => 2
  | .close => if held then 0 else 1

/-- R73, R74: what a press asks for. -/
def State.pressRequest (s : State) (i : DoorId) (dir : Dir) : StrokeRequest :=
  { direction := dir, cause := .localControl, cls := dir.pressClass (s.doorHeld i), arrival := s.runCount }

theorem pressed_asks {dir : Dir}
    (h : (s.door i).state ∈ dir.asks ∨ (s.door i).state = .recloseWait ∧ s.doorHeld i = true) :
    s.pressed i dir = s.request i (s.pressRequest i dir) := by
  cases dir with
  | opening =>
    simp only [Dir.asks, List.mem_cons, List.not_mem_nil, or_false] at h
    obtain (h | h | h | h) | ⟨h, held⟩ := h <;> simp_all [State.pressed, State.openPressed, State.pressRequest, Dir.pressClass]
  | close =>
    simp only [Dir.asks, List.mem_cons, List.not_mem_nil, or_false] at h
    obtain (h | h | h) | ⟨h, held⟩ := h <;> simp_all [State.pressed, State.closePressed, State.pressRequest, Dir.pressClass]

theorem pressed_turns {dir : Dir} (h : (s.door i).state ∈ dir.turns) :
    s.pressed i dir = s.changeDirection i dir .localControl (dir.pressClass (s.doorHeld i)) := by
  cases dir with
  | opening =>
    simp only [Dir.turns, List.mem_cons, List.not_mem_nil, or_false] at h
    obtain h | h := h <;> simp [State.pressed, State.openPressed, Dir.pressClass, h]
  | close =>
    simp only [Dir.turns, List.mem_cons, List.not_mem_nil, or_false] at h
    obtain h | h := h <;> simp [State.pressed, State.closePressed, Dir.pressClass, h]

theorem pressed_keeps {dir : Dir} (ha : (s.door i).state ∉ dir.asks) (ht : (s.door i).state ∉ dir.turns)
    (hr : ¬ ((s.door i).state = .recloseWait ∧ s.doorHeld i = true)) : s.pressed i dir = s := by
  cases dir with
  | opening =>
    rw [State.pressed, State.openPressed]
    cases hs : (s.door i).state with
    | queued d | reversing d => cases d <;> simp_all [Dir.asks, Dir.turns]
    | _ => simp_all [Dir.asks, Dir.turns]
  | close =>
    rw [State.pressed, State.closePressed]
    cases hs : (s.door i).state with
    | queued d | reversing d => cases d <;> simp_all [Dir.asks, Dir.turns]
    | _ => simp_all [Dir.asks, Dir.turns]

end Sys2Proof.Machine
end


section
/-! SUPPORT. What a press makes of its door, its unit and the others. -/

namespace Sys2Proof.Machine

variable {s t w : State} {i j : DoorId} {b : BranchId} {e : Door} {dir : Dir}

/-! ### Requests -/

theorem otherUnits_modUnit (s : State) (v : UnitId) (f : PowerUnit → PowerUnit) : OtherUnits v s (s.modUnit v f) :=
  (unitOnly_modUnit s v f).others

theorem otherUnits_request (s : State) (i : DoorId) (r : StrokeRequest) : OtherUnits (s.door i).unit s (s.request i r) := by
  rw [State.request]
  split
  · exact (doorOnly_refusePower s i).otherUnits _
  · exact ((otherUnits_modUnit s _ _).trans ((doorOnly_setState _ i _).otherUnits _)).trans (otherUnits_unitJoined _ _ _)

/-- R55: a request takes no other door that waits in no list. -/
theorem spares_request (s : State) (hj : i ≠ j) (r : StrokeRequest) : Spares j s (s.request i r) := by
  rw [State.request]
  split
  · exact (doorOnly_refusePower s i).spares hj
  · have listed := spares_modUnit (i := j) s (s.door i).unit
      (fun x => { x with list := insertEntry (r.entry i) (removeEntry i x.list) }) (fun h n hn => by
        obtain rfl | hn := mem_insertEntry.mp hn
        · exact hj
        · exact h n (List.mem_of_mem_filter hn)) id
    exact (listed.trans ((doorOnly_setState _ i _).spares hj)).trans (spares_unitJoined j _ _ _)

/-! ### What a press does -/

/-- R72: the edges of a reply that has confirmed one press at most, and no letting go. -/
theorem takeEdges_press {p : Bool} {E : Edges} (hl : E.openLetGo = false)
    (h : dir = .opening ∧ E.openPress = p ∧ E.closePress = false ∨ dir = .close ∧ E.closePress = p ∧ E.openPress = false) :
    w.takeEdges i E = if p && (w.door i).controlsMove then (w.pressed i dir).localSource i (w.door i).state else w := by
  have still : ∀ (x : State) f, x.takeEdge i false f = x := fun x f => by simp [State.takeEdge]
  have gone : ∀ x : State, x.takeLetGo i false = x := fun x => by rw [State.takeLetGo, Bool.false_and, still]
  obtain ⟨rfl, hp, hc⟩ | ⟨rfl, hp, hc⟩ := h
  · rw [State.takeEdges, hl, hc, hp, gone, still]; rfl
  · rw [State.takeEdges, hl, hc, hp, still, gone]; rfl

/-- R73, R74: the three things that a press can do. -/
theorem pressed_cases (w : State) (i : DoorId) (dir : Dir) :
    (((w.door i).state ∈ dir.asks ∨ (w.door i).state = .recloseWait ∧ w.doorHeld i = true) ∧
        w.pressed i dir = w.request i (w.pressRequest i dir)) ∨
      ((w.door i).state ∈ dir.turns ∧
        w.pressed i dir = w.changeDirection i dir .localControl (dir.pressClass (w.doorHeld i))) ∨ w.pressed i dir = w := by
  by_cases ha : (w.door i).state ∈ dir.asks ∨ (w.door i).state = .recloseWait ∧ w.doorHeld i = true
  · exact .inl ⟨ha, pressed_asks ha⟩
  · by_cases ht : (w.door i).state ∈ dir.turns
    · exact .inr (.inl ⟨ht, pressed_turns ht⟩)
    · exact .inr (.inr (pressed_keeps (fun h => ha (.inl h)) ht fun h => ha (.inr h)))

theorem asks_still {dir : Dir} {st : DoorState} (h : st ∈ dir.asks ∨ st = .recloseWait) : st.hasStroke = false := by
  cases dir <;> simp only [Dir.asks, List.mem_cons, List.not_mem_nil, or_false] at h <;> grind [DoorState.hasStroke]

theorem otherUnits_pressed (w : State) (i : DoorId) (dir : Dir) : OtherUnits (w.door i).unit w (w.pressed i dir) := by
  obtain ⟨-, h⟩ | ⟨-, h⟩ | h := pressed_cases w i dir
  · rw [h]; exact otherUnits_request w i _
  · rw [h]; exact (doorOnly_changeDirection w i _ _ _).otherUnits _
  · rw [h]; exact .refl _ w

/-- R55: the request of a unit that is FAILED. -/
theorem request_failed (h : (w.unit (w.door i).unit).state = .failed) (r : StrokeRequest) :
    w.request i r = w.refusePower i := by
  rw [State.request, State.unitFailed, h]; rfl

theorem request_listed (h : (w.unit (w.door i).unit).state ≠ .failed) (r : StrokeRequest) :
    w.request i r = w.listRequest i r := by
  rw [State.request, State.unitFailed, if_neg (by simpa using h)]

/-- R73, R74: a press leaves the other doors, but those that a unit with work waiting admits. -/
theorem pressed_others (hj : j ≠ i) (h : w.Unlisted j ∨ (w.door i).state.hasStroke = true ∨
      (w.unit (w.door i).unit).waits w.cutoff.value = true ∨ (w.unit (w.door i).unit).admitsAlone i w.cutoff.value = true ∨
      (w.unit (w.door i).unit).state = .failed) : (w.pressed i dir).door j = w.door j := by
  obtain ⟨ha, hp⟩ | ⟨-, hp⟩ | hp := pressed_cases w i dir
  · rw [hp]
    obtain h | h | h | h | h := h
    · exact (spares_request w hj.symm _ h).1
    · rw [asks_still (ha.imp_right And.left)] at h; exact nomatch h
    · rw [request_listed (waits_not_failed (i := i) (.inl h))]
      exact (listRequest_effect w i _ (.inl h)).1 j hj
    · rw [request_listed (waits_not_failed (.inr h))]
      exact (listRequest_effect w i _ (.inr h)).1 j hj
    · rw [request_failed h]
      exact (doorOnly_refusePower w i).others j hj
  · rw [hp]
    exact (doorOnly_changeDirection w i _ _ _).others j hj
  · rw [hp]

/-! ### The last order source -/

theorem localSource_changed {old : DoorState} (h : (w.door i).state ≠ old) :
    w.localSource i old = w.setSource i .localControl := if_neg h

theorem asks_left {st : DoorState} (h : st ∈ dir.asks ∨ st = .recloseWait) : DoorState.queued dir ≠ st ∧
    DoorState.reversing dir ≠ st ∧ dir.driving ≠ st := by
  cases dir <;> simp only [Dir.asks, List.mem_cons, List.not_mem_nil, or_false] at h <;> grind [Dir.driving]

theorem turns_left {st : DoorState} (h : st ∈ dir.turns) : DoorState.reversing dir ≠ st ∧ dir.driving ≠ st := by
  cases dir <;> simp only [Dir.turns, List.mem_cons, List.not_mem_nil, or_false] at h <;> grind [Dir.driving]

/-- R73, R74, R25: a press that asks for a stroke of a unit that keeps it waiting or admits it at once. -/
theorem pressed_requested (ha : (w.door i).state ∈ dir.asks ∨ (w.door i).state = .recloseWait ∧ w.doorHeld i = true)
    (hu : (w.unit (w.door i).unit).waits w.cutoff.value = true ∨
      (w.unit (w.door i).unit).admitsAlone i w.cutoff.value = true) :
    Requested w i { w.door i with lastSource := some .localControl } ((w.pressRequest i dir).entry i)
      ((w.pressed i dir).localSource i (w.door i).state) := by
  have asked : w.pressed i dir = w.listRequest i (w.pressRequest i dir) :=
    (pressed_asks ha).trans (request_listed (waits_not_failed hu) _)
  obtain ⟨-, -, requested⟩ := listRequest_effect w i (w.pressRequest i dir) hu
  rw [← asked] at requested
  obtain ⟨queued, reversing, driving⟩ := asks_left (ha.imp_right And.left)
  have changed : ((w.pressed i dir).door i).state ≠ (w.door i).state := by
    obtain hw | hw := hu
    · rw [(requested.1 hw).1]; exact queued
    · rw [(requested.2 hw).1]
      simp only [Door.admittedFor, Door.moving]
      split
      · exact reversing
      · exact driving
  rw [localSource_changed changed]
  exact requested.setSource _

/-- R55, R73, R74: a press that asks for a stroke of a FAILED unit. -/
theorem pressed_refused (ha : (w.door i).state ∈ dir.asks ∨ (w.door i).state = .recloseWait ∧ w.doorHeld i = true)
    (hf : (w.unit (w.door i).unit).state = .failed) :
    ((w.pressed i dir).localSource i (w.door i).state).units = w.units ∧
      ((w.pressed i dir).localSource i (w.door i).state).door i =
        { ((w.door i).faulted .noPower w.clock.time).rested (w.door i).indication.restState w.settingsHold with
          lastSource := if (w.door i).indication.restState = (w.door i).state then (w.door i).lastSource
            else some .localControl } := by
  have refused : w.pressed i dir = w.refusePower i := (pressed_asks ha).trans (request_failed hf _)
  rw [refused]
  have only := doorOnly_refusePower w i
  have door := door_refusePower_self w i
  have state : ((w.refusePower i).door i).state = (w.door i).indication.restState := by rw [door]; rfl
  refine ⟨((doorOnly_localSource _ i _).units).trans only.units, ?_⟩
  rw [State.localSource, state]
  split
  · rw [door]; rfl
  · rw [State.door_setSource, if_pos rfl, door]

/-- R61, R73, R74: a press that turns the stroke. -/
theorem pressed_turned (ht : (w.door i).state ∈ dir.turns) :
    ((w.pressed i dir).localSource i (w.door i).state).units = w.units ∧
      ((w.pressed i dir).localSource i (w.door i).state).door i =
        { (w.door i).turned dir .localControl (dir.pressClass (w.doorHeld i)) w.runCount with
          lastSource := some .localControl } := by
  have turned := pressed_turns ht
  obtain ⟨reversing, driving⟩ := turns_left ht
  have door : (w.pressed i dir).door i = (w.door i).turned dir .localControl (dir.pressClass (w.doorHeld i)) w.runCount := by
    rw [turned, door_changeDirection_self]
  have changed : ((w.pressed i dir).door i).state ≠ (w.door i).state := by
    rw [door]
    simp only [Door.turned, Door.moving]
    split
    · exact reversing
    · exact driving
  rw [localSource_changed changed]
  refine ⟨?_, by rw [State.door_setSource, if_pos rfl, door]⟩
  rw [(doorOnly_setSource _ i _).units, turned, (doorOnly_changeDirection w i _ _ _).units]

/-- R73, R74: a press of a state that it does not act in. -/
theorem pressed_idle
    (h : (w.door i).state ∈ (if dir = .opening then [.opened, .queued .opening, .reversing .opening, .opening]
      else [.closed, .warning, .queued .close, .reversing .close, .closing])) :
    (w.pressed i dir).localSource i (w.door i).state = w := by
  have kept : w.pressed i dir = w := by
    refine pressed_keeps ?_ ?_ ?_ <;> revert h <;> cases dir <;> cases (w.door i).state <;>
      simp [Dir.asks, Dir.turns] <;> grind
  rw [kept, State.localSource, if_pos rfl]

/-! ### Both presses at once -/

theorem removeEntry_insertEntry (n : Entry) (l : List Entry) : removeEntry n.door (insertEntry n l) = removeEntry n.door l := by
  rw [removeEntry, insertEntry, List.filter_append, List.filter_cons_of_neg (by simp), ← List.filter_append,
    List.takeWhile_append_dropWhile]
  rfl

/-- R55, R121: a request of a STARTING unit. -/
theorem listRequest_starting (hs : (w.unit (w.door i).unit).state = .starting) (r : StrokeRequest) :
    (w.listRequest i r).door i = (w.door i).moving (.queued r.direction) ∧
      (w.listRequest i r).unit (w.door i).unit = { w.unit (w.door i).unit with
        list := insertEntry (r.entry i) (removeEntry i (w.unit (w.door i).unit).list) } := by
  have waits : (w.unit (w.door i).unit).waits w.cutoff.value = true := by simp [PowerUnit.waits, hs]
  obtain ⟨door, unit⟩ := (listRequest_effect w i r (.inl waits)).2.2.1 waits
  refine ⟨door, unit.trans ?_⟩
  simp [PowerUnit.joined, hs, StrokeRequest.entry]

/-- R72 (assumption 21): both presses at once, at a CLOSED door of a STARTING unit. -/
theorem takeEdges_both {E : Edges} (ho : E.openPress = true) (hl : E.openLetGo = false) (hc : E.closePress = true)
    (service : (w.door i).inService = true) (state : (w.door i).state = .closed)
    (hs : (w.unit (w.door i).unit).state = .starting) :
    (w.takeEdges i E).door i = { (w.door i).moving (.queued .close) with lastSource := some .localControl } ∧
      (w.takeEdges i E).unit (w.door i).unit = { w.unit (w.door i).unit with
        list := insertEntry ((w.pressRequest i .close).entry i) (removeEntry i (w.unit (w.door i).unit).list) } := by
  -- local open's press first
  obtain ⟨x, hx⟩ : ∃ x, x = (w.openPressed i).localSource i .closed := ⟨_, rfl⟩
  have live : ∀ u : State, (u.unit (u.door i).unit).state = .starting → (u.unit (u.door i).unit).state ≠ .failed :=
    fun u hu hf => by rw [hu] at hf; exact nomatch hf
  have first : w.openPressed i = w.listRequest i (w.pressRequest i .opening) :=
    (pressed_asks (dir := .opening) (.inl (by rw [state]; simp [Dir.asks]))).trans (request_listed (live w hs) _)
  obtain ⟨door, unit⟩ := listRequest_starting hs (w.pressRequest i .opening)
  rw [← first] at door unit
  have xdoor : x.door i = { (w.door i).moving (.queued .opening) with lastSource := some .localControl } := by
    rw [hx, localSource_changed (by rw [door]; exact nofun), State.door_setSource, if_pos rfl, door]; rfl
  have xunit : x.unit (w.door i).unit = { w.unit (w.door i).unit with
      list := insertEntry ((w.pressRequest i .opening).entry i) (removeEntry i (w.unit (w.door i).unit).list) } := by
    rw [hx, (doorOnly_localSource _ i _).unit, unit]
  have sameUnit : (x.door i).unit = (w.door i).unit := by rw [xdoor]; rfl
  have xstate : (x.door i).state = .queued .opening := by rw [xdoor]; rfl
  have starting : (x.unit (x.door i).unit).state = .starting := by rw [sameUnit, xunit]; exact hs
  -- then local close's
  have second : x.closePressed i = x.listRequest i (x.pressRequest i .close) :=
    (pressed_asks (dir := .close) (.inl (by rw [xstate]; simp [Dir.asks]))).trans (request_listed (live x starting) _)
  have alike : x.pressRequest i .close = w.pressRequest i .close := by
    have only : OnlyDoors w x := by rw [hx]; exact (onlyDoors_openPressed w i).trans (onlyDoors_localSource _ i _)
    have held : x.doorHeld i = w.doorHeld i := by
      rw [State.doorHeld, xdoor, only.held]; rfl
    rw [State.pressRequest, held, only.runCount]; rfl
  obtain ⟨door', unit'⟩ := listRequest_starting starting (x.pressRequest i .close)
  rw [← second] at door' unit'
  have moves : (x.door i).controlsMove = true := by
    rw [Door.controlsMove, xstate, xdoor]
    simpa [Door.moving] using service
  have taken : w.takeEdges i E = (x.closePressed i).localSource i (.queued .opening) := by
    have firstMoves : (w.door i).controlsMove = true := by simp [Door.controlsMove, service, state]
    rw [State.takeEdges, ho, hl, hc]
    simp only [State.takeLetGo, State.takeEdge, Bool.false_and, Bool.true_and, firstMoves, if_true, state, Bool.false_eq_true,
      if_false]
    rw [← hx, moves, if_pos rfl, xstate]
  rw [taken]
  refine ⟨?_, ?_⟩
  · rw [localSource_changed (by rw [door']; exact nofun), State.door_setSource, if_pos rfl, door', xdoor]; rfl
  · rw [(doorOnly_localSource _ i _).unit, ← sameUnit, unit', sameUnit, xunit, alike]
    have twice : removeEntry i (insertEntry ((w.pressRequest i .opening).entry i)
        (removeEntry i (w.unit (w.door i).unit).list)) = removeEntry i (w.unit (w.door i).unit).list := by
      refine (removeEntry_insertEntry ((w.pressRequest i .opening).entry i) _).trans ?_
      exact List.filter_eq_self.mpr fun n hn => (List.mem_filter.mp hn).2
    rw [twice]

/-- Settles O52: the reply leaves the door as `e`, a press asks, turns or does nothing, and the next drop is polled. -/
theorem localControlsMoveTheDoor : Obligations.LocalControlsMoveTheDoor := by
  intro s b l f x i e p dir cls n hp hx hk hn hl good hc lost polls phase he hs
  obtain ⟨t, z, ht, taken, doors, units⟩ := goodReply_edges hp hx hk hn hl good hc lost phase he hs
  obtain ⟨w, hw⟩ : ∃ w, w = s.standing i e := ⟨_, rfl⟩
  rw [← hw] at doors units
  have wdoor : ∀ j, w.door j = if j = i then e else s.door j := fun j => by rw [hw, door_standing]
  have here : w.door i = e := by rw [wdoor, if_pos rfl]
  have wunits : w.units = s.units := by rw [hw]; rfl
  have wunit : ∀ v, w.unit v = s.unit v := fun v => by rw [State.unit, wunits]; rfl
  have cutoff : w.cutoff = s.cutoff := by rw [hw]; rfl
  have run : w.runCount = s.runCount := by rw [hw]; rfl
  have held : w.doorHeld i = s.doorHeld i := by
    rw [State.doorHeld, here, taken.zone, hw]; rfl
  have request : ∀ dir, (w.pressRequest i dir).entry i = { door := i, direction := dir, cls := dir.pressClass (s.doorHeld i)
                                                           cause := .localControl, arrival := s.runCount } := fun dir => by
    rw [State.pressRequest, held, run]; rfl
  have mine : ∀ d, s.ifPolled b i d = d := fun d => by rw [State.ifPolled, polls]; rfl
  have tunit : ∀ v, t.unit v = (w.takeEdges i (edgesBetween (s.door i) e)).unit v := fun v => by
    rw [State.unit, units]; rfl
  refine ⟨fun hcase hentry => ?_, fun ho hcl service state starting hentry => ?_⟩
  · have letGo : (edgesBetween (s.door i) e).openLetGo = false := by
      obtain ⟨-, -, h, -⟩ | ⟨-, -, h, -⟩ := hcase <;> exact h
    have class_eq : cls = dir.pressClass (s.doorHeld i) := by
      obtain ⟨-, -, -, rfl, rfl⟩ | ⟨-, -, -, rfl, rfl⟩ := hcase <;> rfl
    have edge : w.takeEdges i (edgesBetween (s.door i) e) =
        if p && e.controlsMove then (w.pressed i dir).localSource i e.state else w := by
      have press := takeEdges_press (w := w) (i := i) (p := p) (dir := dir) letGo (by
        obtain ⟨rfl, h, -, rfl, -⟩ | ⟨rfl, h, -, rfl, -⟩ := hcase
        · exact .inl ⟨rfl, rfl, h⟩
        · exact .inr ⟨rfl, rfl, h⟩)
      rwa [here] at press
    have moves : e.controlsMove = true ↔ (s.door i).inService = true ∧ (s.door i).state ≠ .unknown := by
      rw [Door.controlsMove, taken.inService, hs]; simp
    have stays : p = false ∨ (s.door i).inService = false ∨ (s.door i).state = .unknown →
        w.takeEdges i (edgesBetween (s.door i) e) = w := fun h => by
      rw [edge, if_neg]
      rw [Bool.and_eq_true, moves]
      rintro ⟨rfl, service, known⟩
      simp [service, known] at h
    have pressed : p = true → (s.door i).inService = true → (s.door i).state ≠ .unknown →
        w.takeEdges i (edgesBetween (s.door i) e) = (w.pressed i dir).localSource i (w.door i).state := fun h hi hu => by
      rw [edge, h, moves.mpr ⟨hi, hu⟩, here]; rfl
    refine ⟨t, ht, fun j hj h => ?_, fun v hv => ?_, fun h => ?_, fun h hi hu => ⟨fun ha => ⟨fun hw' => ?_, fun hf => ?_⟩,
      fun ht' => ?_, fun hk' => ?_⟩⟩
    · have kept : (w.takeEdges i (edgesBetween (s.door i) e)).door j = s.door j := by
        by_cases hstill : p = false ∨ (s.door i).inService = false ∨ (s.door i).state = .unknown
        · rw [stays hstill, wdoor, if_neg hj]
        · push Not at hstill
          obtain ⟨hpress, service, known⟩ := hstill
          rw [pressed (by simpa using hpress) (by simpa using service) known, (doorOnly_localSource _ i _).others j hj,
            pressed_others hj ?_, wdoor, if_neg hj]
          rw [here, taken.unit, wunit, hs, cutoff]
          obtain h | h | h | h | h | h := h
          · exact .inl fun v => by rw [wunit]; exact h v
          · exact absurd h hpress
          · exact .inr (.inl h)
          · exact .inr (.inr (.inl h))
          · exact .inr (.inr (.inr (.inl h)))
          · exact .inr (.inr (.inr (.inr h)))
      rw [doors, kept]
      rfl
    · rw [tunit]
      by_cases hstill : p = false ∨ (s.door i).inService = false ∨ (s.door i).state = .unknown
      · rw [stays hstill, wunit]
      · push Not at hstill
        obtain ⟨hpress, service, known⟩ := hstill
        rw [pressed (by simpa using hpress) (by simpa using service) known, (doorOnly_localSource _ i _).unit,
          otherUnits_pressed w i dir v (by rw [here, taken.unit]; exact hv), wunit]
    · rw [doors, mine, stays h, here, units, stays h, wunits]
      exact ⟨rfl, rfl⟩
    · have asked := pressed_requested (w := w) (i := i) (dir := dir) (by rw [here, hs, held]; exact ha.imp_left (by
        cases dir <;> exact id)) (by rw [here, taken.unit, wunit, cutoff]; exact hw')
      rw [← pressed h hi hu, here, request, ← class_eq, ← hentry] at asked
      have shown := asked.congr (u := t) (by rw [doors, mine]) (tunit _)
      simpa only [Requested, wunit, cutoff, run] using shown
    · have refused := pressed_refused (w := w) (i := i) (dir := dir) (by rw [here, hs, held]; exact ha.imp_left (by
        cases dir <;> exact id)) (by rw [here, taken.unit, wunit]; exact hf)
      rw [← pressed h hi hu, here, hs] at refused
      rw [doors, mine, units, refused.1, refused.2, wunits, hw]
      exact ⟨rfl, rfl⟩
    · have turned := pressed_turned (w := w) (i := i) (dir := dir) (by rw [here, hs]; cases dir <;> exact ht')
      rw [← pressed h hi hu, here, held, run, ← class_eq] at turned
      rw [doors, mine, units, turned.1, turned.2, wunits]
      exact ⟨rfl, rfl⟩
    · have idle := pressed_idle (w := w) (i := i) (dir := dir) (by rw [here, hs]; exact hk')
      rw [doors, mine, units, pressed h hi hu, idle, here, wunits]
      exact ⟨rfl, rfl⟩
  · obtain ⟨door, unit⟩ := takeEdges_both (w := w) (i := i) (E := edgesBetween (s.door i) e) ho
      (by
        rw [Bool.and_eq_true, Bool.not_eq_true'] at ho
        rw [edgesBetween, ho.1]; rfl) hcl (by rw [here, taken.inService]; exact service) (by rw [here, hs]; exact state)
      (by rw [here, taken.unit, wunit]; exact starting)
    refine ⟨t, ht, ?_, ?_⟩
    · rw [doors, mine, door, here]
    · rw [here, taken.unit, wunit] at unit
      rw [tunit, unit, request, hentry]
      rfl

end Sys2Proof.Machine
end


section
/-! SUPPORT. Orders that name a zone. -/

namespace Sys2Proof.Machine

variable {s t u w : State} {p : PortId} {i j : DoorId} {z : ZoneId}

/-! ### One door after another -/

/-- R96: the answers of an order for one door after another. -/
def orderResults (f : DoorOrder) : List DoorId → State → List Result
  | [], _ => []
  | i :: l, s => (f i s).2 :: orderResults f l (f i s).1

/-- R96: the tally of an order for one door after another. -/
theorem foldl_zoneTally (f : DoorOrder) : ∀ (l : List DoorId) (k : ZoneTally), l.foldl (ZoneTally.next f) k =
    { state := k.state.forDoors l fun i t => (f i t).1
      count := k.count + (orderResults f l k.state).countP fun r => r = .ok
      first := k.first.or ((orderResults f l k.state).find? fun r => r ≠ .ok) } := by
  intro l
  induction l with
  | nil => exact fun k => by simp [State.forDoors, orderResults]
  | cons i l ih =>
    intro k
    rw [List.foldl_cons, ih, forDoors_cons]
    by_cases hr : (f i k.state).2 = .ok
    · have next : k.next f i = { state := (f i k.state).1, count := k.count + 1, first := k.first } := by
        simp only [ZoneTally.next, hr, if_true]
      rw [next]
      simp [orderResults, hr, Nat.add_assoc, Nat.add_comm 1]
    · have next : k.next f i =
          { state := (f i k.state).1, count := k.count, first := some (k.first.getD (f i k.state).2) } := by
        simp only [ZoneTally.next, hr, if_false]
      rw [next]
      cases k.first <;> simp [orderResults, hr]

/-- R96: an order that names a zone. -/
theorem zoneOrder_eq (s : State) (z : ZoneId) (f : DoorOrder) : s.zoneOrder z f =
    { state := s.forDoors (s.doorsOfZone z) fun i t => (f i t).1
      result := ((orderResults f (s.doorsOfZone z) s).find? fun r => r ≠ .ok).getD .ok
      count := (orderResults f (s.doorsOfZone z) s).countP fun r => r = .ok } := by
  simp only [State.zoneOrder]
  rw [show (s.doorsWhere fun d => decide (d.zone = z)) = s.doorsOfZone z from rfl, foldl_zoneTally]
  simp

/-- What an order for a door needs: it works on doors and units, and does the same on states that agree. -/
structure DoorOrder.Plain (f : DoorOrder) : Prop where
  only : ∀ i s, OnlyDoors s (f i s).1
  place : ∀ i s j, ((f i s).1.door j).installed = (s.door j).installed
  alike : ∀ {s t} i, Alike s t → Alike (f i s).1 (f i t).1 ∧ (f i t).2 = (f i s).2

theorem DoorOrder.Plain.forDoors {f : DoorOrder} (h : f.Plain) (l : List DoorId) : ∀ {s t : State}, Alike s t →
    Alike (s.forDoors l fun i t => (f i t).1) (t.forDoors l fun i t => (f i t).1) ∧ orderResults f l t = orderResults f l s := by
  induction l with
  | nil => exact fun h => ⟨h, rfl⟩
  | cons i l ih =>
    intro s t k
    obtain ⟨next, result⟩ := h.alike i k
    obtain ⟨last, results⟩ := ih next
    exact ⟨last, by rw [orderResults, orderResults, result, results]⟩

theorem alike_taking (s : State) (p : PortId) (it : Item) : Alike s (s.taking p it) := by
  refine ⟨?_, ?_, ?_, ?_, ?_, ?_, ?_⟩ <;> simp

/-- R96: the same order for one door of a list after another, each a command of its own. -/
theorem oneByOne {f : DoorOrder} {order : DoorId → Instr} {o : OrderOp} (h : f.Plain)
    (item : ∀ i, (order i).item = some (p, .order o (.door (number i))))
    (owner : ∀ (i : DoorId) (s : State), s.commands p = true →
      s.ordering p (.door (number i)) o = (s.doorOrder (number i) f).withOutputs) (ho : o ≠ .restart) :
    ∀ (l : List DoorId) (s x : State), s.MayOrder p → Alike s x → (∀ j ∈ l, (s.door j).installed = true) →
      ∃ u, OrderedOneByOne p order l (orderResults f l x) s u ∧ Alike (x.forDoors l fun i t => (f i t).1) u := by
  intro l
  induction l with
  | nil => exact fun s x _ k _ => ⟨s, rfl, k.symm⟩
  | cons i l ih =>
    intro s x may k installed
    obtain ⟨w, hw⟩ : ∃ w, w = s.taking p (.order o (.door (number i))) := ⟨_, rfl⟩
    have taken : Alike x w := by rw [hw]; exact k.symm.trans (alike_taking s p _)
    have door : ∀ j, w.door j = s.door j := fun j => by rw [hw, State.door_taking]
    obtain ⟨next, result⟩ := h.alike i taken
    have answered : w.ordering p (.door (number i)) o =
        { state := (f i w).1.evalOutputs, result := (f i w).2, count := 0 } := by
      rw [owner i w (by rw [hw]; exact commands_taking may.2 _),
        doorOrder_installed (by rw [door]; exact installed i List.mem_cons_self)]
      rfl
    rw [hw] at answered
    obtain ⟨v, hv, a⟩ := order_doors may.1 (item i) (malformed_order_door o i) answered (h.only i _) ho
    rw [← hw] at a
    have alike : Alike (f i x).1 v := by
      have only := h.only i w
      have before : Alike s w := by rw [hw]; exact alike_taking s p _
      refine next.trans ⟨a.doors, a.units, ?_, ?_, ?_, ?_, ?_⟩
      · exact (congrArg State.runCount a.rest).trans (before.runCount.symm.trans only.runCount.symm)
      · exact (congrArg State.settingsHold a.rest).trans (before.settingsHold.symm.trans only.settingsHold.symm)
      · exact (congrArg State.holds a.rest).trans (before.holds.symm.trans only.holds.symm)
      · exact (congrArg State.clock a.rest).trans (before.clock.symm.trans only.clock.symm)
      · exact (congrArg State.cutoff a.rest).trans (before.cutoff.symm.trans only.cutoff.symm)
    have port := a.answered.1
    rw [Port.AnsweredWith] at port
    have may' : v.MayOrder p := by
      refine ⟨⟨?_, ?_⟩, ?_⟩
      · rw [a.rest]; exact may.1.1
      · rw [port]; exact may.1.2
      · rw [port]; exact may.2
    obtain ⟨u, ordered, last⟩ := ih v (f i x).1 may' alike.symm fun j hj => by
      rw [a.door, h.place, door]; exact installed j (List.mem_cons_of_mem _ hj)
    refine ⟨u, ⟨v, hv, ?_, ordered⟩, last⟩
    rw [port, ← result]

/-! ### CLOSE, OPEN and STOP -/

theorem Alike.byPort (h : Alike s t) (i : DoorId) (p : PortId) :
    Alike (s.byPort i p).1 (t.byPort i p).1 ∧ (t.byPort i p).2 = (s.byPort i p).2 := ⟨h.setSource i _, rfl⟩

/-- The same answer on states that agree. -/
theorem Alike.answered (h : Alike s t) (r : Result) : Alike (s, r).1 (t, r).1 ∧ (t, r).2 = (s, r).2 := ⟨h, rfl⟩

theorem work_installed (h : Work s t) (j : DoorId) : (t.door j).installed = (s.door j).installed := by
  have place := h.places j
  simp only [Door.image, DoorImage.mk.injEq] at place
  exact place.1

theorem alike_ite {c d : Prop} [Decidable c] [Decidable d] {x y a b : State × Result} (hc : d ↔ c)
    (h : Alike a.1 b.1 ∧ b.2 = a.2) (k : Alike x.1 y.1 ∧ y.2 = x.2) :
    Alike (if c then a else x).1 (if d then b else y).1 ∧ (if d then b else y).2 = (if c then a else x).2 := by
  by_cases hd : d
  · rw [if_pos hd, if_pos (hc.mp hd)]; exact h
  · rw [if_neg hd, if_neg fun h => hd (hc.mpr h)]; exact k

theorem plain_closeDoor (p : PortId) : DoorOrder.Plain (State.closeDoor p) where
  only i s := onlyDoors_closeDoor p i s
  place i s j := work_installed (Work.closeDoor .start p i) j
  alike {s t} i h := by
    simp only [State.closeDoor, h.door, h.doorHeld]
    refine alike_ite Iff.rfl (h.answered _) (alike_ite Iff.rfl (h.answered _) (alike_ite Iff.rfl (h.answered _)
      (alike_ite Iff.rfl (h.answered _) ?_)))
    cases (s.door i).state with
    | opened | halted | opening | recloseWait => exact (h.passToWarning i _).byPort i p
    | reversing dir | queued dir => cases dir with
      | opening => exact (h.passToWarning i _).byPort i p
      | close => exact h.answered _
    | unknown | closed | warning | closing => exact h.answered _

theorem plain_openDoor (p : PortId) : DoorOrder.Plain (State.openDoor p) where
  only i s := onlyDoors_openDoor p i s
  place i s j := work_installed (Work.openDoor .start p i) j
  alike {s t} i h := by
    simp only [State.openDoor, h.door, h.doorHeld, h.unitFailed, h.runCount]
    refine alike_ite Iff.rfl (h.answered _) (alike_ite Iff.rfl (h.answered _) (alike_ite Iff.rfl (h.answered _)
      (alike_ite Iff.rfl (h.answered _) ?_)))
    have asks : ∀ r, Alike (if s.unitFailed i = true then (s.refusePower i, Result.refusedPower) else (s.listRequest i r).byPort i p).1
        (if s.unitFailed i = true then (t.refusePower i, Result.refusedPower) else (t.listRequest i r).byPort i p).1 ∧ _ :=
      fun r => alike_ite Iff.rfl ((h.refusePower i).answered .refusedPower) ((h.listRequest i r).byPort i p)
    cases (s.door i).state with
    | closed | halted | warning => exact asks _
    | queued dir => cases dir with
      | close => exact asks _
      | opening => exact h.answered _
    | reversing dir => cases dir with
      | close => exact (h.changeDirection i _ _ _).byPort i p
      | opening => exact h.answered _
    | closing => exact (h.changeDirection i _ _ _).byPort i p
    | unknown | opened | opening | recloseWait => exact h.answered _

theorem plain_stopDoor (p : PortId) : DoorOrder.Plain (State.stopDoor p) where
  only i s := onlyDoors_stopDoor p i s
  place i s j := work_installed (Work.stopDoor .start p i) j
  alike {s t} i h := by
    simp only [State.stopDoor, h.door, h.doorHeld]
    refine alike_ite Iff.rfl (h.answered _) ?_
    cases (s.door i).state with
    | reversing dir | queued dir => exact (h.stopToRest i).byPort i p
    | closing | opening | warning => exact (h.stopToRest i).byPort i p
    | unknown | opened | closed | halted | recloseWait => exact h.answered _

/-! ### The effects in a zone -/

theorem closeResult_untaken (h : s.Untaken i t) : t.closeResult i = s.closeResult i := by
  simp only [State.closeResult, h.door, h.doorHeld]

theorem openResult_untaken (h : s.Untaken i t) : t.openResult i = s.openResult i := by
  have unit : ∀ v, t.unit v = s.unit v := fun v => by rw [State.unit, h.units]; rfl
  simp only [State.openResult, h.door, h.doorHeld, unit]

/-- R97: what CLOSE makes of a door that neither waits nor moves to open. -/
def Door.closedBy (d : Door) (r : Result) (held : Bool) (p : PortId) (now : Nat) : Door :=
  if r = .ok ∧ d.state ∈ [.opened, .halted, .recloseWait] then
    { d.warned (if held then .closure else .console p) now with lastSource := some (.port p) }
  else d

theorem ledIn_standing {d : Door} (hs : d.state ∈ [.opened, .halted, .recloseWait]) (c : Cause) (now : Nat) (p : PortId) :
    d.ledIn c now p = { d.warned c now with lastSource := some (.port p) } := by
  have idle : d.state.drive = none ∧ d.state.hasStroke = false := by
    simp only [List.mem_cons, List.not_mem_nil, or_false] at hs
    obtain hs | hs | hs := hs <;> simp [hs, DoorState.drive, DoorState.hasStroke]
  rw [Door.ledIn, Door.undriven_of_drive_none idle.1, idle.2]
  rfl

/-- R97: CLOSE of a door that neither waits nor moves to open leaves it, or puts it into WARNING. -/
theorem closeDoor_standing (h : (t.door i).state ∉ [.queued .opening, .reversing .opening, .opening]) :
    (State.closeDoor p i t).2 = t.closeResult i ∧ DoorOnly i t (State.closeDoor p i t).1 ∧
      (State.closeDoor p i t).1.door i = (t.door i).closedBy (t.closeResult i) (t.doorHeld i) p t.runCount := by
  by_cases hc : t.closeResult i = .ok ∧ (t.door i).state ∈ [.opened, .halted, .recloseWait]
  · have passes := closeDoor_passes (p := p) hc.1 (by
      have stands := hc.2
      simp only [List.mem_cons] at stands ⊢
      tauto)
    obtain ⟨only, led⟩ := closing_standing (p := p) hc.2 (t.closeCause p i)
    rw [passes]
    refine ⟨hc.1.symm, only, led.trans ?_⟩
    rw [Door.closedBy, if_pos hc, ledIn_standing hc.2, State.closeCause]
  · have kept : State.closeDoor p i t = (t, t.closeResult i) := by
      refine closeDoor_unchanged (Classical.or_iff_not_imp_left.mpr fun hr => ?_)
      have ok : t.closeResult i = .ok := not_not.mp hr
      have known := (closeResult_ok ok).2.1
      have stays : (t.door i).state ∉ [.opened, .halted, .recloseWait] := fun hs => hc ⟨ok, hs⟩
      revert h known stays
      cases (t.door i).state with
      | queued dir | reversing dir => cases dir <;> simp
      | _ => simp
    rw [kept]
    exact ⟨rfl, .refl i t, by rw [Door.closedBy, if_neg hc]⟩

theorem makes_closeDoor (h : (s.door i).state ∉ [.queued .opening, .reversing .opening, .opening]) :
    s.Makes i (fun t => (State.closeDoor p i t).1)
      ((s.door i).closedBy (s.closeResult i) (s.doorHeld i) p s.runCount) where
  only t ht := (closeDoor_standing (by rw [ht.door]; exact h)).2.1
  work t _ := onlyDoors_closeDoor p i t
  door t ht := by
    rw [(closeDoor_standing (by rw [ht.door]; exact h)).2.2, ht.door, closeResult_untaken ht, ht.doorHeld, ht.rest.runCount]

/-- R99: what STOP makes of a door that is neither queued nor moving, in a free zone. -/
def Door.stoppedBy (d : Door) (hold : Bool) (p : PortId) : Door :=
  if d.state = .warning then { d.rested d.indication.restState hold with lastSource := some (.port p) } else d

theorem stopDoor_standing (hh : t.doorHeld i = false)
    (h : (t.door i).state.isRest = true ∨ (t.door i).state ∈ [.warning, .recloseWait]) :
    (State.stopDoor p i t).2 = .ok ∧ DoorOnly i t (State.stopDoor p i t).1 ∧
      (State.stopDoor p i t).1.door i = (t.door i).stoppedBy t.settingsHold p := by
  by_cases hw : (t.door i).state = .warning
  · have stops : State.stopDoor p i t = ((t.enterIndicated i).setSource i (.port p), .ok) := by
      simp [State.stopDoor, hh, hw, State.byPort, State.stopToRest, State.endWork]
    rw [stops, Door.stoppedBy, if_pos hw]
    refine ⟨rfl, (doorOnly_enterIndicated t i).trans (doorOnly_setSource _ i _), ?_⟩
    rw [door_setSource_self, door_enterIndicated_self, hh, Door.demandTaken_free]
  · have kept : State.stopDoor p i t = (t, .ok) := by
      rw [State.stopDoor, hh]
      revert h hw
      cases (t.door i).state <;> simp [DoorState.isRest]
    rw [kept, Door.stoppedBy, if_neg hw]
    exact ⟨rfl, .refl i t, rfl⟩

theorem makes_stopDoor (hh : s.doorHeld i = false)
    (h : (s.door i).state.isRest = true ∨ (s.door i).state ∈ [.warning, .recloseWait]) :
    s.Makes i (fun t => (State.stopDoor p i t).1) ((s.door i).stoppedBy s.settingsHold p) where
  only t ht := (stopDoor_standing (by rw [ht.doorHeld]; exact hh) (by rw [ht.door]; exact h)).2.1
  work t _ := onlyDoors_stopDoor p i t
  door t ht := by
    rw [(stopDoor_standing (by rw [ht.doorHeld]; exact hh) (by rw [ht.door]; exact h)).2.2, ht.door, ht.rest.settingsHold]

/-- R98: what OPEN makes of a door that asks for no stroke. -/
def State.openedBy (s : State) (i : DoorId) (p : PortId) : Door :=
  if s.openResult i = .refusedPower then
    ((s.door i).faulted .noPower s.clock.time).rested (s.door i).indication.restState s.settingsHold
  else if s.openResult i = .ok ∧ (s.door i).state ∈ [.reversing .close, .closing] then
    { (s.door i).turned .opening (.console p) 2 s.runCount with lastSource := some (.port p) }
  else s.door i

theorem openDoor_standing (h : t.openResult i = .ok → (t.door i).state ∉ [.closed, .halted, .warning, .queued .close]) :
    (State.openDoor p i t).2 = t.openResult i ∧ DoorOnly i t (State.openDoor p i t).1 ∧
      (State.openDoor p i t).1.door i = t.openedBy i p := by
  by_cases hr : t.openResult i = .refusedPower
  · rw [openDoor_refusesPower hr, State.openedBy, if_pos hr]
    exact ⟨hr.symm, doorOnly_refusePower t i, door_refusePower_self t i⟩
  by_cases ht : t.openResult i = .ok ∧ (t.door i).state ∈ [.reversing .close, .closing]
  · have turns := openDoor_turns (p := p) ht.1 (by
      have stands := ht.2
      simp only [List.mem_cons] at stands ⊢
      tauto)
    rw [turns, State.openedBy, if_neg hr, if_pos ht]
    refine ⟨ht.1.symm, (doorOnly_changeDirection t i _ _ _).trans (doorOnly_setSource _ i _), ?_⟩
    rw [door_setSource_self, door_changeDirection_self]
  · have kept : State.openDoor p i t = (t, t.openResult i) := by
      by_cases ok : t.openResult i = .ok
      · obtain ⟨held, service, known, faultless, -⟩ := openResult_ok ok
        by_cases reclose : (t.door i).state = .recloseWait
        · simp [State.openDoor, held, service, faultless, reclose, ok]
        · refine openDoor_unchanged (.inr ?_)
          have asks := h ok
          have turns : (t.door i).state ∉ [.reversing .close, .closing] := fun hs => ht ⟨ok, hs⟩
          revert asks turns known reclose
          cases (t.door i).state with
          | queued dir | reversing dir => cases dir <;> simp
          | _ => simp
      · exact openDoor_unchanged (.inl (by simp [ok, hr]))
    rw [kept, State.openedBy, if_neg hr, if_neg ht]
    exact ⟨rfl, .refl i t, rfl⟩

theorem makes_openDoor (h : s.openResult i = .ok → (s.door i).state ∉ [.closed, .halted, .warning, .queued .close]) :
    s.Makes i (fun t => (State.openDoor p i t).1) (s.openedBy i p) where
  only t ht := (openDoor_standing (by rw [openResult_untaken ht, ht.door]; exact h)).2.1
  work t _ := onlyDoors_openDoor p i t
  door t ht := by
    rw [(openDoor_standing (by rw [openResult_untaken ht, ht.door]; exact h)).2.2, State.openedBy, State.openedBy,
      openResult_untaken ht, ht.door, ht.rest.settingsHold, ht.rest.clock, ht.rest.runCount]

/-- R96: a zone order that refuses every door alike. -/
theorem zoneOrder_refused {f : DoorOrder} {r : Result} (hr : r ≠ .ok) (h : ∀ i ∈ s.doorsOfZone z, f i s = (s, r)) :
    s.zoneOrder z f = s.answer (if s.doorsOfZone z = [] then .ok else r) := by
  have results : ∀ l : List DoorId, (∀ i ∈ l, f i s = (s, r)) →
      (s.forDoors l fun i t => (f i t).1) = s ∧ orderResults f l s = l.map fun _ => r := fun l => by
    induction l with
    | nil => exact fun _ => ⟨rfl, rfl⟩
    | cons i l ih =>
      intro h
      have here := h i List.mem_cons_self
      obtain ⟨state, results⟩ := ih fun j hj => h j (List.mem_cons_of_mem _ hj)
      rw [forDoors_cons, orderResults, here]
      exact ⟨state, by rw [results]; rfl⟩
  obtain ⟨state, results⟩ := results _ h
  rw [zoneOrder_eq, state, results, State.answer]
  cases s.doorsOfZone z with
  | nil => rfl
  | cons i l => simp [hr]

/-! ### Zone orders -/

theorem zoneFormed (o : OrderOp) (z : ZoneId) (ho : o ∈ [.close, .openDoor, .stop]) :
    itemMalformed (.order o (.zone (number z))) = false := by
  simp only [List.mem_cons, List.not_mem_nil, or_false] at ho
  obtain rfl | rfl | rfl := ho <;> rfl

/-- R96: a zone order whose work on each door of the zone writes that door alone, with the answer `r i`. -/
theorem order_zone_effect {c : Instr} {o : OrderOp} {f : DoorOrder} {g : DoorId → Door} {r : DoorId → Result}
    (hm : s.MayOrder p) (hi : c.item = some (p, .order o (.zone (number z)))) (ho : o ∈ [.close, .openDoor, .stop])
    (ha : ∀ w : State, w.commands p = true →
      w.ordering p (.zone (number z)) o = (w.zoneOrder z f).withOutputs)
    (makes : ∀ i ∈ s.doorsOfZone z, (s.taking p (.order o (.zone (number z)))).Makes i (fun t => (f i t).1) (g i))
    (answers : ∀ i ∈ s.doorsOfZone z, ∀ t, (s.taking p (.order o (.zone (number z)))).Untaken i t → (f i t).2 = r i) :
    ∃ t, exec c s = .next t ∧ (∀ j, t.door j = if j ∈ s.doorsOfZone z then g j else s.door j) ∧
      t = { s with ports := t.ports, doors := t.doors, outputs := t.outputs } ∧ t.OutputsHold ∧
      Answered p (zoneEntry ((s.doorsOfZone z).map r)) s t := by
  obtain ⟨u, order, rest, units, doors⟩ := zoneOrder_effect (f := f) (g := g) (r := r) z
    (by rw [doorsOfZone_taking]; exact makes) (by rw [doorsOfZone_taking]; exact answers)
  rw [doorsOfZone_taking] at order doors
  obtain ⟨t, ht, a⟩ := order_doors hm.1 hi (zoneFormed o z ho) (by
    rw [ha _ (commands_taking hm.2 _), order]; rfl) rest (by rintro rfl; simp at ho)
  refine ⟨t, ht, fun j => ?_, a.onlyDoors (units.trans (State.taking_units ..)), a.outputs, a.answered⟩
  rw [a.door, doors, State.door_taking]

theorem commands_ordering {w : State} (h : w.commands p = true) (g : Target) :
    w.ordering p g .close = (w.doorOrZone g (State.closeDoor p)).withOutputs ∧
      w.ordering p g .openDoor = (w.doorOrZone g (State.openDoor p)).withOutputs ∧
      w.ordering p g .stop = (w.doorOrZone g (State.stopDoor p)).withOutputs := by
  simp only [State.ordering, State.orderClose, State.orderOpen, State.orderStop, State.asCommand, h, if_true, and_self]

/-- R96: an order for a zone is the same order for each installed door of it. -/
theorem zone_oneByOne {f : DoorOrder} {order : Target → Instr} {o : OrderOp} (h : f.Plain) (hm : s.MayOrder p)
    (item : ∀ g, (order g).item = some (p, .order o g)) (ho : o ∈ [.close, .openDoor, .stop])
    (owner : ∀ g (w : State), w.commands p = true → w.ordering p g o = (w.doorOrZone g f).withOutputs) :
    ∃ t u results, exec (order (.zone (number z))) s = .next t ∧
      OrderedOneByOne p (fun j => order (.door (number j))) (s.doorsOfZone z) results s u ∧
      t.doors = u.doors ∧ t.units = u.units ∧ Answered p (zoneEntry results) s t ∧
      t = { s with ports := t.ports, doors := t.doors, units := t.units, outputs := t.outputs } ∧ t.OutputsHold := by
  have restart : o ≠ .restart := by rintro rfl; simp at ho
  obtain ⟨w, hw⟩ : ∃ w, w = s.taking p (.order o (.zone (number z))) := ⟨_, rfl⟩
  have taken : Alike s w := by rw [hw]; exact alike_taking s p _
  have zone : w.doorsOfZone z = s.doorsOfZone z := by rw [hw, doorsOfZone_taking]
  obtain ⟨u, ordered, alike⟩ := oneByOne (order := fun j => order (.door (number j))) h (fun i => item _)
    (fun i w hc => owner (.door (number i)) w hc) restart (s.doorsOfZone z) s w hm taken
    fun j hj => ((mem_doorsOfZone s z j).mp hj).1
  have work : OnlyDoors w (w.forDoors (s.doorsOfZone z) fun i t => (f i t).1) :=
    onlyDoors_forDoors w _ _ fun i t => h.only i t
  have answered : w.ordering p (.zone (number z)) o = _ := (owner (.zone (number z)) w (by
    rw [hw]; exact commands_taking hm.2 _)).trans (congrArg Answer.withOutputs ((doorOrZone_zone z f).trans (zoneOrder_eq w z f)))
  rw [zone] at answered
  rw [hw] at answered work
  obtain ⟨t, ht, a⟩ := order_doors hm.1 (item _) (zoneFormed o z ho) answered work restart
  rw [← hw] at a
  exact ⟨t, u, _, ht, ordered, a.doors.trans alike.doors.symm, a.units.trans alike.units.symm, a.answered, a.rest, a.outputs⟩

/-- Settles O27: the tally of a zone order door by door, and what each order makes of a door that it alone changes. -/
theorem zoneOrdersAnswerForTheirDoors : Obligations.ZoneOrdersAnswerForTheirDoors := by
  intro s p z h
  have zoneHeld : ∀ (it : Item) j, j ∈ s.doorsOfZone z → (s.taking p it).doorHeld j = s.held z := fun it j hj => by
    rw [(alike_taking s p it).doorHeld, State.doorHeld, ((mem_doorsOfZone s z j).mp hj).2]
  refine ⟨fun hs => ?_, fun hz => ⟨fun hs => ?_, fun hs => ?_⟩, fun hz hout c hc => ?_, fun order ho => ?_⟩
  · obtain ⟨t, ht, doors, rest, outputs, answered⟩ := order_zone_effect (c := .close p (.zone (number z))) (o := .close)
      (f := State.closeDoor p) (g := fun j => (s.door j).closedBy (s.closeResult j) (s.held z) p s.runCount)
      (r := s.closeResult) h rfl (by simp) (fun w hw => by rw [(commands_ordering hw _).1, doorOrZone_zone])
      (fun i hi => by
        have makes := makes_closeDoor (s := s.taking p (.order .close (.zone (number z)))) (p := p) (i := i)
          (by rw [State.door_taking]; exact hs i hi)
        rwa [zoneHeld _ i hi, closeResult_taking, State.door_taking, State.taking_runCount] at makes)
      (fun i hi t ht => by
        rw [(closeDoor_standing (by rw [ht.door, State.door_taking]; exact hs i hi)).1, closeResult_untaken ht,
          closeResult_taking])
    refine ⟨t, ht, fun j => ?_, rest, outputs, answered⟩
    rw [doors, Door.closedBy]
    by_cases hj : j ∈ s.doorsOfZone z <;> simp [hj]
  · obtain ⟨t, ht, doors, rest, outputs, answered⟩ := order_zone_effect (c := .stop p (.zone (number z))) (o := .stop)
      (f := State.stopDoor p) (g := fun j => (s.door j).stoppedBy s.settingsHold p) (r := fun _ => .ok) h rfl (by simp)
      (fun w hw => by rw [(commands_ordering hw _).2.2, doorOrZone_zone])
      (fun i hi => by
        have makes := makes_stopDoor (s := s.taking p (.order .stop (.zone (number z)))) (p := p) (i := i)
          (by rw [zoneHeld _ i hi]; exact hz) (by rw [State.door_taking]; exact hs i hi)
        rwa [State.door_taking, State.taking_settingsHold] at makes)
      (fun i hi t ht => (stopDoor_standing (by rw [ht.doorHeld, zoneHeld _ i hi]; exact hz)
        (by rw [ht.door, State.door_taking]; exact hs i hi)).1)
    refine ⟨t, ht, fun j => ?_, rest, outputs, answered⟩
    rw [doors, Door.stoppedBy]
    by_cases hj : j ∈ s.doorsOfZone z <;> simp [hj]
  · obtain ⟨t, ht, doors, rest, outputs, answered⟩ := order_zone_effect (c := .openDoor p (.zone (number z))) (o := .openDoor)
      (f := State.openDoor p) (g := fun j => s.openedBy j p) (r := s.openResult) h rfl (by simp)
      (fun w hw => by rw [(commands_ordering hw _).2.1, doorOrZone_zone])
      (fun i hi => by
        have makes := makes_openDoor (s := s.taking p (.order .openDoor (.zone (number z)))) (p := p) (i := i)
          (by rw [State.door_taking, openResult_taking]; exact hs i hi)
        simpa only [State.openedBy, openResult_taking, State.door_taking, State.taking_settingsHold, State.taking_clock,
          State.taking_runCount] using makes)
      (fun i hi t ht => by
        rw [(openDoor_standing (by rw [openResult_untaken ht, ht.door, State.door_taking, openResult_taking]; exact hs i hi)).1,
          openResult_untaken ht, openResult_taking])
    refine ⟨t, ht, fun j => ?_, rest, outputs, answered⟩
    rw [doors, State.openedBy]
    by_cases hj : j ∈ s.doorsOfZone z <;> simp [hj]
  · have refused : ∀ {o : OrderOp} {f : DoorOrder} {w : State}, w = s.taking p (.order o (.zone (number z))) →
        (∀ i, w.doorHeld i = true → f i w = (w, .refusedMode)) →
        w.zoneOrder z f = w.answer (if s.doorsOfZone z = [] then .ok else .refusedMode) := fun {o f w} hw hf => by
      have zone : w.doorsOfZone z = s.doorsOfZone z := by rw [hw, doorsOfZone_taking]
      rw [zoneOrder_refused (r := .refusedMode) (by simp) fun i hi => hf i (by
        rw [zone] at hi
        rw [hw, zoneHeld _ i hi]; exact hz), zone]
    simp only [List.mem_cons, List.not_mem_nil, or_false] at hc
    obtain rfl | rfl := hc
    · refine order_unchanged h.1 hout rfl (zoneFormed .openDoor z (by simp)) ?_
      rw [(commands_ordering (commands_taking h.2 _) _).2.1, doorOrZone_zone,
        refused rfl fun i hi => by rw [State.openDoor, hi]; rfl]
    · refine order_unchanged h.1 hout rfl (zoneFormed .stop z (by simp)) ?_
      rw [(commands_ordering (commands_taking h.2 _) _).2.2, doorOrZone_zone,
        refused rfl fun i hi => by rw [State.stopDoor, hi]; rfl]
  · simp only [List.mem_cons, List.not_mem_nil, or_false] at ho
    obtain rfl | rfl | rfl := ho
    · exact zone_oneByOne (plain_closeDoor p) h (fun _ => rfl) (by simp) fun g w hw => (commands_ordering hw g).1
    · exact zone_oneByOne (plain_openDoor p) h (fun _ => rfl) (by simp) fun g w hw => (commands_ordering hw g).2.1
    · exact zone_oneByOne (plain_stopDoor p) h (fun _ => rfl) (by simp) fun g w hw => (commands_ordering hw g).2.2

end Sys2Proof.Machine
end


section
/-! SUPPORT. Work on states that differ in the requests of their ports alone: an item does the same to the rest of the
D48 whatever request it stands in. -/

namespace Sys2Proof.Machine

variable {m s t x y : State} {p q : PortId} {b : BranchId} {d : DropId} {i : DoorId} {u : UnitId}

/-- Two states that differ in their ports and the schedule alone, and of the ports not in what the outputs are evaluated
from. The first has come from `m` with the request of the port `p`, which waits for no DIRECT, as it was. -/
structure Twin (p : PortId) (m s t : State) : Prop where
  rest : t = { s with ports := t.ports, schedule := t.schedule }
  role : ∀ q, (t.port q).role = (s.port q).role
  attention : ∀ q, (t.port q).attention = (s.port q).attention
  work : (m.port p).SameWork (s.port p)
  waits : ∀ b, (m.port p).awaits b = false
  schedule : s.schedule = m.schedule
  pending : s.pending = m.pending

theorem Port.SameButMarks.role {w z : Port} (h : w.SameButMarks z) : z.role = w.role := by
  rw [Port.SameButMarks] at h; rw [h]

theorem Port.SameButMarks.attention {w z : Port} (h : w.SameButMarks z) : z.attention = w.attention := by
  rw [Port.SameButMarks] at h; rw [h]

namespace Twin

/-! ### What is read -/

theorem alike (h : Twin p m s t) : Alike s t := by
  rw [h.rest]; exact ⟨rfl, rfl, rfl, rfl, rfl, rfl, rfl⟩

theorem branches (h : Twin p m s t) : t.branches = s.branches := by rw [h.rest]

theorem branch (h : Twin p m s t) (b : BranchId) : t.branch b = s.branch b := by rw [State.branch, h.branches]; rfl

theorem door (h : Twin p m s t) (i : DoorId) : t.door i = s.door i := h.alike.door i

theorem runCount (h : Twin p m s t) : t.runCount = s.runCount := h.alike.runCount

theorem store (h : Twin p m s t) : t.store = s.store := by rw [h.rest]

theorem claimant (h : Twin p m s t) (b : BranchId) (d : DropId) : t.claimant b d = s.claimant b d := by
  rw [State.claimant, State.claimant]; simp only [h.door]

theorem claimedDrops (h : Twin p m s t) (b : BranchId) : t.claimedDrops b = s.claimedDrops b := by
  rw [State.claimedDrops, State.claimedDrops]; simp only [h.claimant]

theorem doorsWhere (h : Twin p m s t) (c : Door → Bool) : t.doorsWhere c = s.doorsWhere c := by
  rw [State.doorsWhere, State.doorsWhere]; simp only [h.door]

/-- The port's request waits for no DIRECT. -/
theorem awaits (h : Twin p m s t) (b : BranchId) : (s.port p).awaits b = false := by
  rw [h.work.awaits]; exact h.waits b

/-- The same choice on both sides. -/
theorem ite {c e : Prop} [Decidable c] [Decidable e] (hc : e ↔ c) (h : Twin p m s t) (k : Twin p m x y) :
    Twin p m (if c then s else x) (if e then t else y) := by
  by_cases he : e
  · rw [if_pos he, if_pos (hc.mp he)]; exact h
  · rw [if_neg he, if_neg fun h => he (hc.mpr h)]; exact k

/-! ### Work on doors and units -/

theorem onDoors (h : Twin p m s t) (hx : OnlyDoors s x) (hy : OnlyDoors t y) (k : Alike s t → Alike x y) : Twin p m x y where
  rest := by
    have same := k h.alike
    rw [hy.rest, hx.rest, same.doors, same.units, h.rest]
  role q := by rw [(hy.ports q).role, (hx.ports q).role, h.role]
  attention q := by rw [(hy.ports q).attention, (hx.ports q).attention, h.attention]
  work := h.work.trans (hx.ports p).work
  waits := h.waits
  schedule := by rw [hx.rest]; exact h.schedule
  pending := by rw [hx.rest]; exact h.pending

theorem touchIf (h : Twin p m s t) {c e : Bool} (_ : e = c) : Twin p m (s.touchIf c) (t.touchIf e) :=
  h.onDoors (onlyDoors_touchIf s c) (onlyDoors_touchIf t e) fun k =>
    ⟨by simp [k.doors], by simp [k.units], by simp [k.runCount], by simp [k.settingsHold], by simp [k.holds],
      by simp [k.clock], by simp [k.cutoff]⟩

theorem modDoor (h : Twin p m s t) (i : DoorId) {f g : Door → Door} (hf : g (s.door i) = f (s.door i)) :
    Twin p m (s.modDoor i f) (t.modDoor i g) :=
  h.onDoors (onlyDoors_modDoor ..) (onlyDoors_modDoor ..) fun k => k.modDoor i hf

theorem modUnit (h : Twin p m s t) (u : UnitId) {f g : PowerUnit → PowerUnit} (hf : g (s.unit u) = f (s.unit u)) :
    Twin p m (s.modUnit u f) (t.modUnit u g) :=
  h.onDoors (onlyDoors_modUnit ..) (onlyDoors_modUnit ..) fun k => k.modUnit u hf

theorem forDoors {f : DoorId → State → State} (hf : ∀ i {s t}, Twin p m s t → Twin p m (f i s) (f i t)) (l : List DoorId) :
    ∀ {s t}, Twin p m s t → Twin p m (s.forDoors l f) (t.forDoors l f) := by
  induction l with
  | nil => exact fun h => h
  | cons i l ih => exact fun h => ih (hf i h)

/-! ### Work on ports and branches -/

/-- A port rewritten on both sides, with one role and one attention. -/
theorem modPort (h : Twin p m s t) (q : PortId) {f g : Port → Port} (hr : (g (t.port q)).role = (f (s.port q)).role)
    (ha : (g (t.port q)).attention = (f (s.port q)).attention) (hw : q = p → (s.port p).SameWork (f (s.port p))) :
    Twin p m (s.modPort q f) (t.modPort q g) where
  rest := by rw [modPort_rest s, modPort_rest t, h.rest]
  role o := by
    rw [State.port_modPort, State.port_modPort]
    split
    · exact hr
    · exact h.role o
  attention o := by
    rw [State.port_modPort, State.port_modPort]
    split
    · exact ha
    · exact h.attention o
  work := by
    refine h.work.trans ?_
    rw [State.port_modPort]
    split
    · next e => rw [← e]; exact e ▸ hw e.symm
    · exact ⟨rfl, rfl⟩
  waits := h.waits
  schedule := by rw [State.modPort_schedule]; exact h.schedule
  pending := by rw [State.modPort_pending]; exact h.pending

theorem modBranch (h : Twin p m s t) (b : BranchId) {f g : Branch → Branch} (hf : g (s.branch b) = f (s.branch b)) :
    Twin p m (s.modBranch b f) (t.modBranch b g) where
  rest := by
    rw [(onlyLinks_modBranch s b f).rest, (onlyLinks_modBranch t b g).rest]
    simp only [State.modBranch_doors, State.modBranch_units, State.modBranch_branches, h.branch, hf]
    rw [h.rest]
  role q := by rw [(sameButMarks_modBranch t b g q).role, (sameButMarks_modBranch s b f q).role, h.role]
  attention q := by rw [(sameButMarks_modBranch t b g q).attention, (sameButMarks_modBranch s b f q).attention, h.attention]
  work := h.work.trans (sameButMarks_modBranch s b f p).work
  waits := h.waits
  schedule := by rw [(onlyLinks_modBranch s b f).rest]; exact h.schedule
  pending := by rw [(onlyLinks_modBranch s b f).rest]; exact h.pending

theorem modLink (h : Twin p m s t) (b : BranchId) (d : DropId) (f : DropLink → DropLink) :
    Twin p m (s.modLink b d f) (t.modLink b d f) := h.modBranch b rfl

/-- R151, R152: the answer of a pending direct exchange goes to a port, if it waits for it. -/
theorem answerDirect (h : Twin p m s t) (b : BranchId) (r : Result) (data : List Byte) :
    Twin p m (s.answerDirect b r data) (t.answerDirect b r data) := by
  simp only [State.answerDirect, h.branch]
  split
  · exact h
  · next z hz =>
    have k := h.modBranch b (f := fun x => { x with pendingDirect := none }) (g := fun x => { x with pendingDirect := none }) rfl
    have kept : ∀ (w : Port) (e : List Byte), (if w.awaits b then w.itemEnded e else w).role = w.role ∧
        (if w.awaits b then w.itemEnded e else w).attention = w.attention := fun w e => by
      split
      · exact ⟨(w.itemEnded_role e).1, (w.itemEnded_role e).2.1⟩
      · exact ⟨rfl, rfl⟩
    refine k.modPort _ ?_ ?_ fun hq => ?_
    · rw [(kept _ _).1, (kept _ _).1, k.role]
    · rw [(kept _ _).2, (kept _ _).2, k.attention]
    · rw [k.awaits, if_neg (by decide)]; exact ⟨rfl, rfl⟩

/-! ### Rounds -/

theorem signalCommand (h : Twin p m s t) (i : DoorId) : t.signalCommand i = s.signalCommand i := by
  rw [h.rest]; rfl

theorem driveCommand (h : Twin p m s t) (i : DoorId) : t.driveCommand i = s.driveCommand i := by
  rw [h.rest]; rfl

theorem issueDrive (h : Twin p m s t) (i : DoorId) : Twin p m (s.issueDrive i) (t.issueDrive i) := by
  simp only [State.issueDrive, h.door]
  split
  · exact Twin.ite Iff.rfl h (h.modDoor i (by rw [h.runCount]))
  · exact h

theorem sendFrame (h : Twin p m s t) (b : BranchId) (d : DropId) (k : ExchangeKind) (drive : Drive) (g : Signals) :
    Twin p m (s.sendFrame b d k drive g) (t.sendFrame b d k drive g) := h.modBranch b (by rw [h.runCount])

theorem sendRegular (h : Twin p m s t) (b : BranchId) (d : DropId) (i : DoorId) :
    Twin p m (s.sendRegular b d i) (t.sendRegular b d i) := by
  rw [State.sendRegular, State.sendRegular, h.driveCommand, h.signalCommand]
  exact (h.sendFrame ..).issueDrive i

theorem sendDirect (h : Twin p m s t) (b : BranchId) (d : DropId) (k : ExchangeKind) (i : DoorId) :
    Twin p m (s.sendDirect b d k i) (t.sendDirect b d k i) := by
  rw [State.sendDirect, State.sendDirect, h.signalCommand]
  exact h.sendFrame ..

theorem beginExchange (h : Twin p m s t) (b : BranchId) (d : DropId) (i : DoorId) :
    Twin p m (s.beginExchange b d i) (t.beginExchange b d i) := by
  simp only [State.beginExchange, h.branch, h.door]
  split
  · exact Twin.ite Iff.rfl (Twin.ite Iff.rfl (h.sendDirect ..) ((h.answerDirect ..).sendRegular ..)) (h.sendRegular ..)
  · exact h.sendRegular ..

theorem exchangeFrom (h : Twin p m s t) (b : BranchId) (l : List DropId) :
    (s.exchangeFrom b l = none ∧ t.exchangeFrom b l = none) ∨
      ∃ x y, s.exchangeFrom b l = some x ∧ t.exchangeFrom b l = some y ∧ Twin p m x y := by
  induction l with
  | nil => exact .inl ⟨rfl, rfl⟩
  | cons d l ih =>
    simp only [State.exchangeFrom, h.claimant]
    cases s.claimant b d with
    | none => exact ih
    | some i => exact .inr ⟨_, _, rfl, rfl, (h.modBranch b rfl).beginExchange b d i⟩

theorem goOnOrComplete (h : Twin p m s t) (b : BranchId) : Twin p m (s.goOnOrComplete b) (t.goOnOrComplete b) := by
  simp only [State.goOnOrComplete, h.branch]
  obtain ⟨hs, ht⟩ | ⟨x, y, hs, ht, k⟩ := h.exchangeFrom b (s.branch b).members
  · rw [hs, ht]; exact (h.modBranch b rfl).modBranch b rfl
  · rw [hs, ht]; exact k

theorem startRound (h : Twin p m s t) (b : BranchId) : Twin p m (s.startRound b) (t.startRound b) := by
  simp only [State.startRound, h.claimedDrops]
  exact (h.modBranch b (by rw [h.runCount])).goOnOrComplete b

theorem nextRoundIfDue (h : Twin p m s t) (b : BranchId) : Twin p m (s.nextRoundIfDue b) (t.nextRoundIfDue b) :=
  Twin.ite (by rw [State.roundDue, h.branch, h.runCount]; rfl) (h.startRound b) h

theorem exchangeEnded (h : Twin p m s t) (b : BranchId) : Twin p m (s.exchangeEnded b) (t.exchangeEnded b) :=
  (h.goOnOrComplete b).nextRoundIfDue b

/-! ### Breaking off -/

theorem breakExchange (h : Twin p m s t) (b : BranchId) (r : Result) : Twin p m (s.breakExchange b r) (t.breakExchange b r) := by
  simp only [State.breakExchange, h.branch]
  split
  · exact h
  · split
    · exact h.modBranch b rfl
    · exact (h.modBranch b rfl).answerDirect ..

theorem dropDirect (h : Twin p m s t) (b : BranchId) (d : DropId) (r : Result) :
    Twin p m (s.dropDirect b d r) (t.dropDirect b d r) := by
  simp only [State.dropDirect, h.branch]
  split
  · exact Twin.ite Iff.rfl (h.answerDirect ..) h
  · exact h

theorem releasePair (h : Twin p m s t) (b : BranchId) (d : DropId) : Twin p m (s.releasePair b d) (t.releasePair b d) := by
  have freed := (h.modLink b d fun _ => DropLink.fresh).modBranch b
    (f := fun x => { x with members := x.members.filter fun e => e ≠ d })
    (g := fun x => { x with members := x.members.filter fun e => e ≠ d }) rfl
  simp only [State.releasePair, freed.branch]
  split
  · exact Twin.ite Iff.rfl (((freed.breakExchange ..).dropDirect ..).exchangeEnded b) (freed.dropDirect ..)
  · exact freed.dropDirect ..

theorem claimPair (h : Twin p m s t) (b : BranchId) (d : DropId) : Twin p m (s.claimPair b d) (t.claimPair b d) :=
  h.modLink b d _

/-! ### The enable of a branch -/

theorem unsettle (h : Twin p m s t) (i : DoorId) : Twin p m (s.unsettle i) (t.unsettle i) :=
  h.onDoors (onlyDoors_unsettle ..) (onlyDoors_unsettle ..) fun k => (k.modDoor i rfl).takeIndication i

theorem clearFault (h : Twin p m s t) (i : DoorId) (k : FaultKind) : Twin p m (s.clearFault i k) (t.clearFault i k) :=
  h.modDoor i rfl

theorem raiseCondition (h : Twin p m s t) (i : DoorId) (k : FaultKind) :
    Twin p m (s.raiseCondition i k) (t.raiseCondition i k) :=
  h.onDoors (onlyDoors_raiseCondition ..) (onlyDoors_raiseCondition ..) fun a => a.raiseCondition i k

theorem disableBranch (h : Twin p m s t) (b : BranchId) : Twin p m (s.disableBranch b) (t.disableBranch b) := by
  have off := (((h.modBranch b (f := fun x => { x with enable := false }) (g := fun x => { x with enable := false }) rfl).breakExchange
    b .branchOff).modBranch b (f := fun x => { x with members := [], roundTimer := none, roundCounter := 0, drops := Vector.replicate 12 DropLink.fresh })
    (g := fun x => { x with members := [], roundTimer := none, roundCounter := 0, drops := Vector.replicate 12 DropLink.fresh }) rfl).answerDirect
    b .branchOff []
  simp only [State.disableBranch, State.doorsOfBranch, off.doorsWhere]
  exact forDoors (fun i s t k => ((k.clearFault i _).raiseCondition i _).unsettle i) _ off

theorem enableBranch (h : Twin p m s t) (b : BranchId) : Twin p m (s.enableBranch b) (t.enableBranch b) := by
  have on := h.modBranch b (f := fun x => { x with enable := true }) (g := fun x => { x with enable := true }) rfl
  simp only [State.enableBranch, State.doorsOfBranch, on.doorsWhere]
  exact (forDoors (fun i s t k => k.clearFault i _) _ on).startRound b

end Twin

end Sys2Proof.Machine
end


section
/-! SUPPORT. The owners of orders and SETs do the same to states that differ in the requests of their ports alone. -/

namespace Sys2Proof.Machine

variable {m s t x y : State} {p q : PortId} {b : BranchId} {d : DropId} {i : DoorId} {u : UnitId} {f : DoorOrder}

namespace Alike

/-! ### Doors of zones that become held or are released -/

theorem entryOf (h : Alike s t) (i : DoorId) : t.entryOf i = s.entryOf i := by
  rw [State.entryOf, State.entryOf, h.door, h.unit]

theorem moveToClass0 (h : Alike s t) (i : DoorId) : Alike (s.moveToClass0 i) (t.moveToClass0 i) := by
  simp only [State.moveToClass0, h.entryOf, h.door, h.runCount]
  split
  · exact ite Iff.rfl ((h.modUnit _ rfl).unitJoined _ _) h
  · exact h

theorem makeHoldToRun (h : Alike s t) (i : DoorId) : Alike (s.makeHoldToRun i) (t.makeHoldToRun i) := by
  simp only [State.makeHoldToRun, h.door]
  exact (h.modUnit _ rfl).modDoor i rfl

theorem doorBecomesHeld (h : Alike s t) (i : DoorId) : Alike (s.doorBecomesHeld i) (t.doorBecomesHeld i) := by
  have opens : Alike
      (if (s.door i).localOpen = true then s.makeHoldToRun i
        else if (s.door i).eventFaulted = true then s.stopToRest i else (s.passToWarning i .closure).setSource i .closure)
      (if (s.door i).localOpen = true then t.makeHoldToRun i
        else if (s.door i).eventFaulted = true then t.stopToRest i else (t.passToWarning i .closure).setSource i .closure) :=
    ite Iff.rfl (h.makeHoldToRun i) (ite Iff.rfl (h.stopToRest i) ((h.passToWarning i _).setSource i _))
  simp only [State.doorBecomesHeld, h.door]
  cases (s.door i).state with
  | opened | halted => exact h.closureDemand i
  | warning => exact h.modDoor i rfl
  | queued dir => cases dir with
    | close => exact h.moveToClass0 i
    | opening => exact opens
  | reversing dir => cases dir with
    | close => exact h
    | opening => exact opens
  | opening => exact opens
  | unknown | closed | closing | recloseWait => exact h

theorem doorReleased (h : Alike s t) (i : DoorId) : Alike (s.doorReleased i) (t.doorReleased i) := by
  simp only [State.doorReleased, h.door]
  split
  · exact h.enterIndicated i
  · exact h

theorem takeUnionChange (h : Alike s t) (old : ZoneSet) (i : DoorId) :
    Alike (State.takeUnionChange old i s) (State.takeUnionChange old i t) := by
  have held : ∀ z, t.held z = s.held z := fun z => by rw [State.held, h.holds]; rfl
  simp only [State.takeUnionChange, h.door, held]
  exact ite Iff.rfl h ((ite Iff.rfl (h.doorBecomesHeld i) (h.doorReleased i)).updateNotControlled i)

theorem writeZone (h : Alike s t) (z : ZoneId) (i : DoorId) : Alike (State.writeZone z i s) (State.writeZone z i t) := by
  have k := h.modDoor i (f := fun d => { d with zone := z }) (g := fun d => { d with zone := z }) rfl
  simp only [State.writeZone, h.door, k.doorHeld]
  exact ite Iff.rfl ((ite Iff.rfl (k.doorBecomesHeld i) k).updateNotControlled i) k

end Alike

/-! ### Orders for a door -/

/-- An order for a door works on doors and units, and does the same to states that agree. -/
structure DoorOrder.Even (f : DoorOrder) : Prop where
  only : ∀ i s, OnlyDoors s (f i s).1
  alike : ∀ {s t} i, Alike s t → Alike (f i s).1 (f i t).1

theorem DoorOrder.Plain.even (h : f.Plain) : f.Even := ⟨h.only, fun i k => (h.alike i k).1⟩

theorem even_serviceOut (p : PortId) : DoorOrder.Even (State.serviceOut p) where
  only := onlyDoors_serviceOut p
  alike {s t} i h := by
    simp only [State.serviceOut, h.door, h.doorHeld, apply_ite Prod.fst]
    exact .ite Iff.rfl h (.ite Iff.rfl h (.ite Iff.rfl h ((h.modDoor i rfl).setSource i _)))

theorem even_serviceIn (p : PortId) : DoorOrder.Even (State.serviceIn p) where
  only := onlyDoors_serviceIn p
  alike {s t} i h := by
    simp only [State.serviceIn, h.door]
    exact ((Alike.ite Iff.rfl h ((h.modDoor i rfl).setSource i _)).clearFault i _).closureDemand i

theorem even_resetDoor : DoorOrder.Even State.resetDoor :=
  ⟨onlyDoors_resetDoor, fun i h => (h.modDoor i rfl).closureDemand i⟩

theorem even_ackDoor : DoorOrder.Even State.ackDoor := ⟨onlyDoors_ackDoor, fun i h =>
  h.modDoor i (f := fun d => { d with unacked := 0 }) (g := fun d => { d with unacked := 0 }) rfl⟩

theorem even_testDoor : DoorOrder.Even State.testDoor where
  only := onlyDoors_testDoor
  alike {s t} i h := by
    simp only [State.testDoor, h.door, h.runCount, apply_ite Prod.fst]
    exact .ite Iff.rfl (h.modDoor i rfl) h

theorem even_stage (k : OpSetting) (v : Nat) (r : Result) : DoorOrder.Even fun i s => (State.stage k v i s, r) where
  only i s := onlyDoors_stage k v i s
  alike {s t} i h := by
    have staged := h.modDoor i (f := fun d => { d with pending := d.pending.set k (some v) })
      (g := fun d => { d with pending := d.pending.set k (some v) }) rfl
    simp only [State.stage, State.appliesNow, staged.door, staged.settingsHold]
    exact .ite Iff.rfl (staged.applyPending i) staged

namespace Twin

theorem even (h : Twin p m s t) (hf : f.Even) (i : DoorId) : Twin p m (f i s).1 (f i t).1 :=
  h.onDoors (hf.only i s) (hf.only i t) (hf.alike i)

/-! ### Answers -/

theorem commands (h : Twin p m s t) (q : PortId) : t.commands q = s.commands q := by
  rw [State.commands, h.role]; rfl

theorem asCommand (h : Twin p m s t) (q : PortId) {a b : Answer} (k : Twin p m a.state b.state) :
    Twin p m (s.asCommand q a).state (t.asCommand q b).state := by
  simp only [State.asCommand, h.commands, apply_ite Answer.state]
  exact .ite Iff.rfl k h

theorem asUnlocked (h : Twin p m s t) {a b : Answer} (k : Twin p m a.state b.state) :
    Twin p m (s.asUnlocked a).state (t.asUnlocked b).state := by
  simp only [State.asUnlocked, h.store, apply_ite Answer.state]
  exact .ite Iff.rfl k h

theorem doorOrder (h : Twin p m s t) (hf : f.Even) (n : Nat) : Twin p m (s.doorOrder n f).state (t.doorOrder n f).state := by
  simp only [State.doorOrder, h.door]
  split
  · exact h
  · simp only [apply_ite Answer.state]
    exact .ite Iff.rfl (h.even hf _) h

theorem zoneOrder (h : Twin p m s t) (hf : f.Even) (z : ZoneId) : Twin p m (s.zoneOrder z f).state (t.zoneOrder z f).state := by
  rw [zoneOrder_eq, zoneOrder_eq, State.doorsOfZone, State.doorsOfZone, h.doorsWhere]
  exact forDoors (fun i s t k => k.even hf i) _ h

theorem doorOrZone (h : Twin p m s t) (hf : f.Even) (g : Target) :
    Twin p m (s.doorOrZone g f).state (t.doorOrZone g f).state := by
  simp only [State.doorOrZone]
  split
  · exact h.doorOrder hf _
  · split
    · exact h.zoneOrder hf _
    · exact h
  · exact h

theorem doorOnly (h : Twin p m s t) (hf : f.Even) (g : Target) : Twin p m (s.doorOnly g f).state (t.doorOnly g f).state := by
  simp only [State.doorOnly]
  split
  · exact h.doorOrder hf _
  · exact h

/-! ### Holds, the clock and the store -/

theorem withHolds (h : Twin p m s t) (v : Holds) : Twin p m { s with holds := v } { t with holds := v } :=
  ⟨congrArg (fun w : State => { w with holds := v }) h.rest, h.role, h.attention, h.work, h.waits, h.schedule, h.pending⟩

theorem takeUnion (h : Twin p m s t) (old : ZoneSet) :
    Twin p m (s.forDoors (s.doorsWhere fun _ => true) (State.takeUnionChange old))
      (t.forDoors (t.doorsWhere fun _ => true) (State.takeUnionChange old)) := by
  rw [h.doorsWhere]
  exact forDoors (f := State.takeUnionChange old) (fun i s t k => k.onDoors (onlyDoors_takeUnionChange ..)
    (onlyDoors_takeUnionChange ..) fun a => a.takeUnionChange _ i) _ h

theorem setHolds (h : Twin p m s t) (v : Holds) : Twin p m (s.setHolds v) (t.setHolds v) := by
  have held := (h.withHolds v).touchIf (c := s.holds != v) (e := t.holds != v) (by rw [h.alike.holds])
  simp only [State.setHolds, h.alike.holds] at held ⊢
  exact held.takeUnion _

theorem withSettingsHold (h : Twin p m s t) (v : Bool) : Twin p m { s with settingsHold := v } { t with settingsHold := v } :=
  ⟨congrArg (fun w : State => { w with settingsHold := v }) h.rest, h.role, h.attention, h.work, h.waits, h.schedule, h.pending⟩

theorem modClock (h : Twin p m s t) (f : Clock → Clock) : Twin p m (s.modClock f) (t.modClock f) := by
  refine ⟨?_, h.role, h.attention, h.work, h.waits, h.schedule, h.pending⟩
  rw [State.modClock, State.modClock, h.alike.clock]
  exact congrArg (fun w : State => { w with clock := f s.clock }) h.rest

theorem withStore (h : Twin p m s t) (v : Store) : Twin p m { s with store := v } { t with store := v } :=
  ⟨congrArg (fun w : State => { w with store := v }) h.rest, h.role, h.attention, h.work, h.waits, h.schedule, h.pending⟩

theorem modStore (h : Twin p m s t) {f g : Store → Store} (hf : g s.store = f s.store) :
    Twin p m (s.modStore f) (t.modStore g) := by
  rw [State.modStore, State.modStore, h.store, hf]
  exact (h.withStore _).touchIf rfl

theorem settingsImage (h : Twin p m s t) : t.settingsImage = s.settingsImage := by
  have units : ∀ v, t.unit v = s.unit v := h.alike.unit
  simp only [State.settingsImage, h.door, units, h.branch, h.role, h.store]

theorem withFreeCount (h : Twin p m s t) (n : Nat) :
    Twin p m { s with freeCount := s.freeCount + n } { t with freeCount := t.freeCount + n } := by
  refine ⟨?_, h.role, h.attention, h.work, h.waits, h.schedule, h.pending⟩
  rw [show t.freeCount = s.freeCount by rw [h.rest]]
  exact congrArg (fun w : State => { w with freeCount := s.freeCount + n }) h.rest

theorem setOutputs (h : Twin p m s t) (v : Outputs) : Twin p m { s with outputs := v } { t with outputs := v } :=
  ⟨congrArg (fun w : State => { w with outputs := v }) h.rest, h.role, h.attention, h.work, h.waits, h.schedule, h.pending⟩

/-- R173: the outputs. -/
theorem evalOutputs (h : Twin p m s t) : Twin p m s.evalOutputs t.evalOutputs := by
  have units : ∀ v, t.unit v = s.unit v := h.alike.unit
  have fault : t.faultOut = s.faultOut := by
    simp only [State.faultOut, h.door, units, h.role, h.attention, h.store]
  have closure : t.closureOut = s.closureOut := by rw [State.closureOut, h.alike.holds]; rfl
  have closed : t.allClosedOut = s.allClosedOut := by
    simp only [State.allClosedOut, closure, h.door, h.alike.doorHeld]
  have outputs : t.outputs = s.outputs := by rw [h.rest]
  rw [State.evalOutputs, State.evalOutputs, fault, closure, closed, outputs]
  exact (h.setOutputs _).touchIf rfl

end Twin

end Sys2Proof.Machine
end


section
/-! SUPPORT. The answers to orders and SETs of states that differ in the requests of their ports alone. -/

namespace Sys2Proof.Machine

variable {m s t x y : State} {p q : PortId} {b : BranchId} {d : DropId} {i : DoorId} {u : UnitId} {f : DoorOrder}

namespace Twin

/-! ### Orders -/

theorem orderService (h : Twin p m s t) (g : Target) (v : Nat) :
    Twin p m (s.orderService p g v).state (t.orderService p g v).state := by
  refine h.asCommand p ?_
  match v with
  | 0 => exact h.doorOnly (even_serviceOut p) g
  | 1 => exact h.doorOnly (even_serviceIn p) g
  | _ + 2 => exact h.doorOnly ⟨fun _ s => .refl s, fun _ k => k⟩ g

theorem orderHoldZones (h : Twin p m s t) (g : Target) : Twin p m (s.orderHoldZones p g).state (t.orderHoldZones p g).state := by
  refine h.asCommand p ?_
  rw [h.alike.holds]
  cases g with
  | zoneSet v => exact h.setHolds _
  | _ => exact h

theorem orderReleaseZones (h : Twin p m s t) (g : Target) :
    Twin p m (s.orderReleaseZones p g).state (t.orderReleaseZones p g).state := by
  refine h.asCommand p ?_
  rw [h.alike.holds]
  cases g with
  | zoneSet v => exact h.setHolds _
  | _ => exact h

/-- R86: of the ports the activity of others than the issuing one counts. -/
theorem orderReleaseForeign (h : Twin p m s t) (ha : ∀ q, q ≠ p → (t.port q).active = (s.port q).active) (g : Target) :
    Twin p m (s.orderReleaseForeign p g).state (t.orderReleaseForeign p g).state := by
  refine h.asCommand p ?_
  rw [h.alike.holds]
  split
  · exact h.setHolds _
  · exact h
  · split
    · exact h
    · next q hq =>
      simp only [apply_ite Answer.state]
      refine .ite ?_ h (h.setHolds _)
      by_cases e : q = p
      · simp [e]
      · rw [ha q e]
  · exact h

theorem orderSettingsHold (h : Twin p m s t) (v : Nat) :
    Twin p m (s.orderSettingsHold p v).state (t.orderSettingsHold p v).state := by
  refine h.asCommand p ?_
  rw [h.alike.settingsHold]
  split
  · have off := h.withSettingsHold false
    simp only [State.releaseSettings, off.doorsWhere, State.answer]
    exact forDoors (fun i s t k => k.modDoor i rfl) _ off
  · exact h
  · exact h.withSettingsHold true
  · exact h

theorem orderResetUnit (h : Twin p m s t) (g : Target) : Twin p m (s.orderResetUnit p g).state (t.orderResetUnit p g).state := by
  refine h.asCommand p ?_
  have closes : ∀ (u : UnitId) {s t}, Twin p m s t → Twin p m (s.forDoors (s.doorsOfUnit u) fun i t => t.closureDemand i)
      (t.forDoors (t.doorsOfUnit u) fun i t => t.closureDemand i) := fun u s t k => by
    rw [State.doorsOfUnit, State.doorsOfUnit, k.doorsWhere]
    exact forDoors (fun i s t k => k.onDoors (onlyDoors_closureDemand ..) (onlyDoors_closureDemand ..) fun a =>
      a.closureDemand i) _ k
  cases g with
  | unit n =>
    dsimp only
    split
    · exact h
    · next u hu =>
      simp only [apply_ite Answer.state, h.alike.unit]
      exact .ite Iff.rfl h (closes u (.ite Iff.rfl (h.modUnit u rfl) h))
  | _ => exact h

theorem orderAck (h : Twin p m s t) (g : Target) : Twin p m (s.orderAck p g).state (t.orderAck p g).state := by
  refine h.asCommand p ?_
  split
  · simp only [State.installedDoors, h.doorsWhere]
    exact forDoors (fun i s t k => k.even even_ackDoor i) _ h
  · exact h.doorOrZone even_ackDoor _

theorem orderAckPort (h : Twin p m s t) (g : Target) : Twin p m (s.orderAckPort p g).state (t.orderAckPort p g).state := by
  refine h.asCommand p ?_
  cases g with
  | port n =>
    dsimp only
    split
    · exact h.modPort _ (f := fun x => { x with attention := false }) (g := fun x => { x with attention := false })
        (h.role _) rfl fun _ => ⟨rfl, rfl⟩
    · exact h
  | _ => exact h

theorem orderAckUnit (h : Twin p m s t) (g : Target) : Twin p m (s.orderAckUnit p g).state (t.orderAckUnit p g).state := by
  refine h.asCommand p ?_
  cases g with
  | unit n =>
    dsimp only
    split
    · exact h.modUnit _ (f := fun x => { x with attention := false }) (g := fun x => { x with attention := false }) rfl
    · exact h
  | _ => exact h

/-- R176: a clock order with values in range writes the clock. -/
theorem clockOrder (h : Twin p m s t) (c : Bool) (f : Clock → Clock) :
    Twin p m (s.asCommand p (if c then (s.modClock f).answer .ok else s.answer .range)).state
      (t.asCommand p (if c then (t.modClock f).answer .ok else t.answer .range)).state := by
  refine h.asCommand p ?_
  simp only [apply_ite Answer.state]
  exact .ite Iff.rfl (h.modClock f) h

theorem orderSave (h : Twin p m s t) : Twin p m (s.orderSave p).state (t.orderSave p).state := by
  refine h.asCommand p ?_
  simp only [apply_ite Answer.state, State.answer, h.store, h.settingsImage, h.runCount]
  exact .ite Iff.rfl h (.ite Iff.rfl h (h.modStore rfl))

theorem orderRestart (h : Twin p m s t) : Twin p m (s.orderRestart p).state (t.orderRestart p).state := by
  refine h.asCommand p ?_
  simp only [apply_ite Answer.state, State.answer, h.store]
  exact .ite Iff.rfl h (.ite Iff.rfl h (h.modStore rfl))

/-- R162: the owner of an order. -/
theorem ordering (h : Twin p m s t) (ha : ∀ q, q ≠ p → (t.port q).active = (s.port q).active) (g : Target) (o : OrderOp) :
    Twin p m (s.ordering p g o).state (t.ordering p g o).state := by
  cases o with
  | close => exact (h.asCommand p (h.doorOrZone (plain_closeDoor p).even g)).evalOutputs
  | openDoor => exact (h.asCommand p (h.doorOrZone (plain_openDoor p).even g)).evalOutputs
  | stop => exact (h.asCommand p (h.doorOrZone (plain_stopDoor p).even g)).evalOutputs
  | service v => exact (h.orderService g v).evalOutputs
  | holdZones => exact (h.orderHoldZones g).evalOutputs
  | releaseZones => exact (h.orderReleaseZones g).evalOutputs
  | releaseForeign => exact (h.orderReleaseForeign ha g).evalOutputs
  | resetFaults => exact (h.asCommand p (h.doorOrZone even_resetDoor g)).evalOutputs
  | settingsHold v => exact h.orderSettingsHold v
  | signalTest => exact h.asCommand p (h.doorOnly even_testDoor g)
  | resetUnit => exact (h.orderResetUnit g).evalOutputs
  | ack => exact (h.orderAck g).evalOutputs
  | ackPort => exact (h.orderAckPort g).evalOutputs
  | ackUnit => exact (h.orderAckUnit g).evalOutputs
  | clockLoad day ms => exact h.clockOrder _ _
  | clockAdjust delta => exact h.clockOrder _ _
  | clockArm day ms => exact h.clockOrder _ _
  | clockDisarm => exact h.asCommand p (h.modClock fun c => { c with armed := none })
  | save => exact h.orderSave
  | lock => exact h.asCommand p (h.modStore (f := fun t => { t with lockOpen := false }) (g := fun t => { t with lockOpen := false }) rfl)
  | restart => exact h.orderRestart

end Twin

end Sys2Proof.Machine
end


section
/-! SUPPORT. The answers to SETs of states that differ in the requests of their ports alone. -/

namespace Sys2Proof.Machine

variable {m s t x y : State} {p q : PortId} {b : BranchId} {d : DropId} {i : DoorId} {u : UnitId} {f : DoorOrder}

namespace Twin

/-! ### Operational settings -/

theorem doorsOfZone (h : Twin p m s t) (z : ZoneId) : t.doorsOfZone z = s.doorsOfZone z := h.doorsWhere _

theorem setOp (h : Twin p m s t) (k : OpSetting) (v : Nat) (g : Target) :
    Twin p m (s.setOp p k v g).state (t.setOp p k v g).state := by
  have staged : ∀ l, Twin p m (s.forDoors l (State.stage k (OpSetting.clamped k v))) (t.forDoors l (State.stage k (OpSetting.clamped k v))) :=
    fun l => forDoors (f := State.stage k (OpSetting.clamped k v)) (fun i s t a => a.even (even_stage k _ .ok) i) l h
  refine h.asCommand p ?_
  split
  · exact h.doorOrder (even_stage k _ _) _
  · split
    · simp only [State.stageZone, h.doorsOfZone, apply_ite Answer.state]
      exact .ite Iff.rfl h (staged _)
    · exact h
  · simp only [h.doorsWhere]
    exact staged _
  · exact h

/-! ### Installation settings -/

theorem setInstallation (h : Twin p m s t) (g : Target) {legal legal' same same' : DoorId → Bool} (anyState : Bool)
    {write write' : DoorId → State → State} (hl : ∀ i, legal' i = legal i) (hs : ∀ i, same' i = same i)
    (hw : ∀ i, Twin p m (write i s) (write' i t)) :
    Twin p m (s.setInstallation p g legal same anyState write).state (t.setInstallation p g legal' same' anyState write').state := by
  refine h.asCommand p (h.asUnlocked ?_)
  cases g with
  | door n =>
    dsimp only
    split
    · exact h
    · next i hi =>
      simp only [apply_ite Answer.state, hl, hs, h.door]
      exact .ite Iff.rfl h (.ite Iff.rfl h (.ite Iff.rfl h (hw i)))
  | _ => exact h

theorem pairTaken (h : Twin p m s t) (i : DoorId) (b : BranchId) (d : DropId) : t.pairTaken i b d = s.pairTaken i b d := by
  simp only [State.pairTaken, h.door]

theorem pairFree (h : Twin p m s t) (i : DoorId) (b : BranchId) (d : DropId) : t.pairFree i b d = s.pairFree i b d := by
  simp only [State.pairFree, h.pairTaken, h.door]

theorem raiseBranchOff (h : Twin p m s t) (i : DoorId) : Twin p m (s.raiseBranchOff i) (t.raiseBranchOff i) := by
  simp only [State.raiseBranchOff, h.door, h.branch]
  exact .ite Iff.rfl (h.raiseCondition i _) h

theorem updateNotControlled (h : Twin p m s t) (i : DoorId) : Twin p m (s.updateNotControlled i) (t.updateNotControlled i) :=
  h.onDoors (onlyDoors_updateNotControlled ..) (onlyDoors_updateNotControlled ..) fun a => a.updateNotControlled i

theorem install (h : Twin p m s t) (i : DoorId) : Twin p m (State.install i s) (State.install i t) := by
  have claimed := (h.modDoor i (f := fun d => { d with installed := true }) (g := fun d => { d with installed := true })
    rfl).claimPair (s.door i).branch (s.door i).drop
  simp only [State.install, h.door]
  exact ((claimed.raiseBranchOff i).unsettle i).updateNotControlled i

/-- Every port rewritten on both sides, with one role and one attention, and the request of `p` as it was. -/
theorem mapPorts (h : Twin p m s t) {f g : PortId → Port → Port} (hf : ∀ q w, (f q w).role = w.role ∧
    (f q w).attention = w.attention ∧ w.SameWork (f q w)) (hg : ∀ q w, (g q w).role = w.role ∧ (g q w).attention = w.attention) :
    Twin p m (s.mapPorts f) (t.mapPorts g) where
  rest := congrArg (fun w : State => { w with ports := (t.mapPorts g).ports }) h.rest
  role q := by rw [State.port_mapPorts, State.port_mapPorts, (hg ..).1, (hf ..).1, h.role]
  attention q := by rw [State.port_mapPorts, State.port_mapPorts, (hg ..).2, (hf ..).2.1, h.attention]
  work := by rw [State.port_mapPorts]; exact h.work.trans (hf ..).2.2
  waits := h.waits
  schedule := h.schedule
  pending := h.pending

theorem remove (h : Twin p m s t) (i : DoorId) : Twin p m (State.remove i s) (State.remove i t) := by
  have blanked := h.modDoor i (f := Door.removed) (g := Door.removed) rfl
  simp only [State.remove, State.leaveCycles, h.door]
  exact (blanked.mapPorts (f := fun _ q => { q with refreshCycle := q.refreshCycle.map fun l => l.filter fun j => j ≠ i })
    (g := fun _ q => { q with refreshCycle := q.refreshCycle.map fun l => l.filter fun j => j ≠ i })
    (fun _ _ => ⟨rfl, rfl, rfl, rfl⟩) fun _ _ => ⟨rfl, rfl⟩).releasePair _ _

theorem setInstalled (h : Twin p m s t) (g : Target) (v : Nat) :
    Twin p m (s.setInstalled p g v).state (t.setInstalled p g v).state := by
  refine h.setInstallation g false (fun i => by rw [h.pairTaken, h.door]) (fun i => by rw [h.door]) fun i => ?_
  split
  · exact h.install i
  · exact h.remove i

theorem moved (h : Twin p m s t) (i : DoorId) (b : BranchId) (d : DropId) : Twin p m (s.moved i b d) (t.moved i b d) := by
  simp only [State.moved, h.door]
  exact (((((h.claimPair ..).clearFault i _).clearFault i _).raiseBranchOff i).unsettle i).releasePair b d

theorem writePair (h : Twin p m s t) (i : DoorId) (f : Door → Door) : Twin p m (s.writePair i f) (t.writePair i f) := by
  have written := h.modDoor i (f := f) (g := f) rfl
  simp only [State.writePair, h.door]
  exact .ite Iff.rfl (written.moved i _ _) written

theorem setBranch (h : Twin p m s t) (g : Target) (v : Nat) :
    Twin p m (s.setBranch p g v).state (t.setBranch p g v).state := by
  simp only [State.setBranch]
  split
  · exact h.setInstallation g false (fun i => by rw [h.pairFree, h.door]) (fun i => by rw [h.door]) fun i => h.writePair i _
  · exact h.setInstallation g false (fun _ => rfl) (fun _ => rfl) fun _ => h

theorem setDrop (h : Twin p m s t) (g : Target) (v : Nat) : Twin p m (s.setDrop p g v).state (t.setDrop p g v).state := by
  simp only [State.setDrop]
  split
  · exact h.setInstallation g false (fun i => by rw [h.pairFree, h.door]) (fun i => by rw [h.door]) fun i => h.writePair i _
  · exact h.setInstallation g false (fun _ => rfl) (fun _ => rfl) fun _ => h

theorem setZone (h : Twin p m s t) (g : Target) (v : Nat) : Twin p m (s.setZone p g v).state (t.setZone p g v).state := by
  simp only [State.setZone]
  split
  · next z hz =>
    exact h.setInstallation g false (fun _ => rfl) (fun i => by rw [h.door]) fun i =>
      h.onDoors (onlyDoors_writeZone ..) (onlyDoors_writeZone ..) fun a => a.writeZone z i
  · exact h.setInstallation g false (fun _ => rfl) (fun _ => rfl) fun _ => h

theorem setUnit (h : Twin p m s t) (g : Target) (v : Nat) : Twin p m (s.setUnit p g v).state (t.setUnit p g v).state := by
  simp only [State.setUnit]
  split
  · exact h.setInstallation g false (fun _ => rfl) (fun i => by rw [h.door]) fun i => h.modDoor i rfl
  · exact h.setInstallation g false (fun _ => rfl) (fun _ => rfl) fun _ => h

theorem setGeometry (h : Twin p m s t) (g : Target) (c o : Nat) :
    Twin p m (s.setGeometry p g c o).state (t.setGeometry p g c o).state := by
  refine h.setInstallation g false (fun _ => rfl) (fun i => by rw [h.door]) fun i => ?_
  have written := h.modDoor i (f := fun d => { d with closedCount := c, openCount := o })
    (g := fun d => { d with closedCount := c, openCount := o }) rfl
  simp only [State.writeGeometry, h.door]
  exact .ite Iff.rfl (written.unsettle i) written

theorem setLabel (h : Twin p m s t) (g : Target) (text : List Byte) :
    Twin p m (s.setLabel p g text).state (t.setLabel p g text).state :=
  h.setInstallation g true (fun _ => rfl) (fun i => by rw [h.door]) fun i => h.modDoor i rfl

/-! ### Unit and branch settings -/

theorem setUnitSetting (h : Twin p m s t) (g : Target) (legal stoppedOnly : Bool) (write : PowerUnit → PowerUnit) :
    Twin p m (s.setUnitSetting p g legal stoppedOnly write).state (t.setUnitSetting p g legal stoppedOnly write).state := by
  refine h.asCommand p (h.asUnlocked ?_)
  cases g with
  | unit n =>
    dsimp only
    split
    · exact h
    · next u hu =>
      simp only [apply_ite Answer.state, h.alike.unit]
      exact .ite Iff.rfl h (.ite Iff.rfl h (h.modUnit u (f := write) (g := write) rfl))
  | _ => exact h

theorem setBranchSetting (h : Twin p m s t) (g : Target) (legal : Bool) {write write' : BranchId → State}
    (hw : ∀ b, Twin p m (write b) (write' b)) :
    Twin p m (s.setBranchSetting p g legal write).state (t.setBranchSetting p g legal write').state := by
  refine h.asCommand p (h.asUnlocked ?_)
  cases g with
  | branch n =>
    dsimp only
    split
    · exact h
    · next b hb =>
      simp only [apply_ite Answer.state]
      exact .ite Iff.rfl (hw b) h
  | _ => exact h

theorem setEnable (h : Twin p m s t) (g : Target) (v : Nat) : Twin p m (s.setEnable p g v).state (t.setEnable p g v).state := by
  refine h.setBranchSetting g _ fun b => ?_
  rw [h.branch]
  split
  · exact h.disableBranch b
  · exact h.enableBranch b
  · exact h

/-! ### Port settings -/

theorem setRole (h : Twin p m s t) (g : Target) (v : Nat) : Twin p m (s.setRole p g v).state (t.setRole p g v).state := by
  refine h.asCommand p (h.asUnlocked ?_)
  rw [h.alike.holds]
  cases g with
  | port n =>
    dsimp only
    split
    · next q r hq hr =>
      simp only [apply_ite Answer.state]
      exact .ite Iff.rfl h (h.modPort q (f := fun x => { x with role := r }) (g := fun x => { x with role := r }) rfl
        (h.attention q) fun _ => ⟨rfl, rfl⟩)
    · exact h
  | _ => exact h

theorem setOwn (h : Twin p m s t) (g : Target) (low high v : Nat) (write : Nat → Port → Port)
    (hw : ∀ n w, (write n w).role = w.role ∧ (write n w).attention = w.attention ∧ w.SameWork (write n w)) :
    Twin p m (s.setOwn p g low high v write).state (t.setOwn p g low high v write).state := by
  refine h.asCommand p ?_
  cases g with
  | port n =>
    simp only [apply_ite Answer.state]
    refine .ite Iff.rfl (h.modPort p (f := write (clamp low high v)) (g := write (clamp low high v)) ?_ ?_ fun _ => (hw ..).2.2) h
    · rw [(hw ..).1, (hw ..).1, h.role]
    · rw [(hw ..).2.1, (hw ..).2.1, h.attention]
  | _ => exact h

/-- A port rewritten on the one side, what the outputs are evaluated from and its request being as they were. -/
theorem left (h : Twin p m s t) (q : PortId) {f : Port → Port}
    (hf : ∀ w, (f w).role = w.role ∧ (f w).attention = w.attention ∧ w.SameWork (f w)) : Twin p m (s.modPort q f) t where
  rest := by rw [modPort_rest s]; exact h.rest
  role o := by
    rw [State.port_modPort]
    split
    · next e => subst e; exact (h.role o).trans (hf _).1.symm
    · exact h.role o
  attention o := by
    rw [State.port_modPort]
    split
    · next e => subst e; exact (h.attention o).trans (hf _).2.1.symm
    · exact h.attention o
  work := by
    refine h.work.trans ?_
    rw [State.port_modPort]
    split
    · next e => subst e; exact (hf _).2.2
    · exact ⟨rfl, rfl⟩
  waits := h.waits
  schedule := by rw [State.modPort_schedule]; exact h.schedule
  pending := by rw [State.modPort_pending]; exact h.pending

/-- The same on the other side. -/
theorem right (h : Twin p m s t) (q : PortId) {f : Port → Port}
    (hf : ∀ w, (f w).role = w.role ∧ (f w).attention = w.attention) : Twin p m s (t.modPort q f) where
  rest := by rw [modPort_rest t, h.rest]
  role o := by
    rw [State.port_modPort]
    split
    · next e => subst e; exact (hf _).1.trans (h.role o)
    · exact h.role o
  attention o := by
    rw [State.port_modPort]
    split
    · next e => subst e; exact (hf _).2.trans (h.attention o)
    · exact h.attention o
  work := h.work
  waits := h.waits
  schedule := h.schedule
  pending := h.pending

end Twin

/-- R175: the clock with another trim. -/
def Clock.trimmed (n : Nat) (forward : Bool) (now : Nat) (c : Clock) : Clock :=
  { c with
    trimInterval := n, trimForward := forward, trimTimer := if n = 0 then none else some (now + n * 1000) }

/-- R169: SET of reports enabled sets up the reports of the port, ends them, or does nothing. -/
theorem setReportsEnabled_cases (s : State) (p : PortId) (g : Target) (v : Nat) :
    (s.setReportsEnabled p g v).state = s ∨ (s.setReportsEnabled p g v).state = s.enableReports p ∨
      (s.setReportsEnabled p g v).state = s.disableReports p := by
  cases g with
  | port n =>
    simp only [State.setReportsEnabled]
    split
    · split
      · exact .inr (.inr rfl)
      · exact .inr (.inl rfl)
      all_goals exact .inl rfl
    · exact .inl rfl
  | _ => exact .inl rfl

namespace Twin

/-- R169: SET of reports enabled touches the reports of a port alone. -/
theorem setReportsEnabled (h : Twin p m s t) (g : Target) (v : Nat) :
    Twin p m (s.setReportsEnabled p g v).state (t.setReportsEnabled p g v).state := by
  have first : Twin p m (s.setReportsEnabled p g v).state t := by
    obtain e | e | e := setReportsEnabled_cases s p g v <;> rw [e]
    · exact h
    · exact h.left p fun _ => ⟨rfl, rfl, rfl, rfl⟩
    · exact h.left p fun _ => ⟨rfl, rfl, rfl, rfl⟩
  obtain e | e | e := setReportsEnabled_cases t p g v <;> rw [e]
  · exact first
  · exact first.right p fun _ => ⟨rfl, rfl⟩
  · exact first.right p fun _ => ⟨rfl, rfl⟩

/-! ### Device settings -/

theorem setStartClosed (h : Twin p m s t) (g : Target) (v : Nat) :
    Twin p m (s.setStartClosed p g v).state (t.setStartClosed p g v).state := by
  refine h.asCommand p (h.asUnlocked ?_)
  cases g with
  | device =>
    simp only [apply_ite Answer.state, h.store]
    exact .ite Iff.rfl (h.withStore { s.store with startClosed := v = 1 }) h
  | _ => exact h

theorem setAlarmMask (h : Twin p m s t) (g : Target) (v : BitVec 16) :
    Twin p m (s.setAlarmMask p g v).state (t.setAlarmMask p g v).state := by
  refine h.asCommand p (h.asUnlocked ?_)
  cases g with
  | device =>
    simp only [apply_ite Answer.state, h.store]
    exact .ite Iff.rfl (h.withStore { s.store with alarmMask := v.setWidth 12 }) h
  | _ => exact h

theorem setIdentity (h : Twin p m s t) (g : Target) (text : List Byte) :
    Twin p m (s.setIdentity p g text).state (t.setIdentity p g text).state := by
  refine h.asCommand p ?_
  simp only [apply_ite Answer.state, h.store]
  refine .ite Iff.rfl h ?_
  cases g with
  | device =>
    simp only [apply_ite Answer.state]
    exact .ite Iff.rfl (h.withStore { s.store with identity := text }) h
  | _ => exact h

theorem setTrim (h : Twin p m s t) (g : Target) (n : Nat) (w : Byte) :
    Twin p m (s.setTrim p g n w).state (t.setTrim p g n w).state := by
  refine h.asCommand p ?_
  cases g with
  | device =>
    dsimp only
    split
    · next forward hw =>
      have trimmed : Twin p m (s.modClock (Clock.trimmed n forward s.runCount)) (t.modClock (Clock.trimmed n forward t.runCount)) := by
        rw [h.runCount]; exact h.modClock _
      simp only [apply_ite Answer.state]
      exact .ite Iff.rfl trimmed h
    · exact h
  | _ => exact h

/-- R161: the owner of a setting. -/
theorem setting (h : Twin p m s t) (g : Target) (w : SettingWrite) :
    Twin p m (s.setting p g w).state (t.setting p g w).state := by
  cases w with
  | op k v => exact h.setOp k v g
  | installed v => exact h.setInstalled g v
  | branch v => exact h.setBranch g v
  | drop v => exact h.setDrop g v
  | zone v => exact h.setZone g v
  | unit v => exact h.setUnit g v
  | geometry c o => exact h.setGeometry g c o
  | label text => exact h.setLabel g text
  | slotLimit v => exact h.setUnitSetting g _ _ _
  | startTime v => exact h.setUnitSetting g _ _ _
  | holdoff v => exact h.setUnitSetting g _ _ _
  | ageTime v => exact h.setUnitSetting g _ _ _
  | urgentCount v => exact h.setUnitSetting g _ _ _
  | enable v => exact h.setEnable g v
  | roundPeriod v => exact h.setBranchSetting g _ fun b => h.modBranch b rfl
  | replyTimeout v => exact h.setBranchSetting g _ fun b => h.modBranch b rfl
  | lostThreshold v => exact h.setBranchSetting g _ fun b => h.modBranch b rfl
  | portRole v => exact h.setRole g v
  | silenceTime v => exact h.setOwn g _ _ _ _ fun _ _ => ⟨rfl, rfl, rfl, rfl⟩
  | reportsEnabled v => exact h.setReportsEnabled g v
  | reportSpacing v => exact h.setOwn g _ _ _ _ fun _ _ => ⟨rfl, rfl, rfl, rfl⟩
  | refreshPeriod v => exact h.setOwn g _ _ _ _ fun _ _ => ⟨rfl, rfl, rfl, rfl⟩
  | startClosed v => exact h.setStartClosed g v
  | faultAlarmMask v => exact h.setAlarmMask g v
  | vesselIdentity text => exact h.setIdentity g text
  | clockTrim n w => exact h.setTrim g n w

end Twin

end Sys2Proof.Machine
end


section
/-! SUPPORT. The items of a request of several, one after another. -/

namespace Sys2Proof.Machine

variable {m s t x y : State} {p q : PortId} {b : BranchId} {d : DropId} {i : DoorId} {r : Request} {it : Item}

/-! ### The rest of the D48 -/

/-- Two states that differ in their ports and the schedule alone. -/
def SameButPorts (s t : State) : Prop := t = { s with ports := t.ports, schedule := t.schedule }

theorem SameButPorts.symm (h : SameButPorts s t) : SameButPorts t s := by
  rw [SameButPorts, h]

theorem SameButPorts.modPort (h : SameButPorts s t) (p : PortId) (f g : Port → Port) :
    SameButPorts (s.modPort p f) (t.modPort p g) := by
  rw [SameButPorts, modPort_rest s, modPort_rest t, h]

/-! ### The item executing -/

theorem executeRestart_eq (s : State) (p : PortId) : ∃ f, s.executeRestart p = (s.orderRestart p).state.modPort p f := by
  simp only [State.executeRestart]
  split
  · exact ⟨_, rfl⟩
  · exact ⟨_, rfl⟩

theorem executeItem_order (s : State) (p : PortId) {o : OrderOp} {g : Target} (ho : o ≠ .restart) :
    s.executeItem p (.order o g) = s.executeOrder p o g := by
  cases o with
  | restart => exact absurd rfl ho
  | _ => rfl

namespace Twin

theorem judgeDirect (h : Twin p m s t) (b d k : Nat) : t.judgeDirect p b d k = s.judgeDirect p b d k := by
  simp only [State.judgeDirect, h.commands, h.branch, h.claimant, h.door]

/-- R157 to R164: an item does to the rest of the D48 what it does in another request, and spares what it stands in. -/
theorem executed (h : Twin p m s t) (ha : ∀ q, q ≠ p → (t.port q).active = (s.port q).active) (it : Item) :
    SameButPorts (s.executeItem p it) (t.executeItem p it) ∧ (s.executeItem p it).schedule = m.schedule ∧
      (s.executeItem p it).pending = m.pending := by
  have ended : ∀ {x y} (f g : Port → Port), Twin p m x y → SameButPorts (x.modPort p f) (y.modPort p g) ∧
      (x.modPort p f).schedule = m.schedule ∧ (x.modPort p f).pending = m.pending := fun f g k =>
    ⟨SameButPorts.modPort k.rest p f g, by rw [State.modPort_schedule, k.schedule], by rw [State.modPort_pending, k.pending]⟩
  cases it with
  | fetch o a => exact ended _ _ (h.withFreeCount 64)
  | order o g =>
    by_cases ho : o = .restart
    · subst ho
      obtain ⟨f, hf⟩ := executeRestart_eq s p
      obtain ⟨f', hf'⟩ := executeRestart_eq t p
      simp only [State.executeItem, hf, hf']
      exact ended f f' h.orderRestart
    · rw [executeItem_order s p ho, executeItem_order t p ho]
      exact ended _ _ (h.ordering ha g o)
  | set w g => exact ended _ _ (h.setting g w).evalOutputs
  | marker w => exact ended _ _ h
  | delay n =>
    simp only [State.executeItem, State.await]
    exact ended _ _ h
  | direct b d k =>
    simp only [State.executeItem, State.executeDirect, h.judgeDirect]
    split
    · exact ended _ _ h
    · exact ended _ _ (h.modBranch _ rfl)
  | undecodable c => exact ⟨h.rest, h.schedule, h.pending⟩

end Twin

/-! ### A state and its own request -/

theorem Twin.refl (hw : ∀ b, (s.port p).awaits b = false) : Twin p s s s :=
  ⟨rfl, fun _ => rfl, fun _ => rfl, ⟨rfl, rfl⟩, hw, rfl, rfl⟩

/-- An ORDER but RESTART, a SET or a FETCH is answered at once, its owner leaving the request it stands in. -/
theorem executeItem_answered (hw : ∀ b, (s.port p).awaits b = false)
    (hi : (∃ o w, it = .order o w ∧ o ≠ .restart) ∨ (∃ w v, it = .set w v) ∨ ∃ o a, it = .fetch o a)
    (hm : itemMalformed it = false) :
    ∃ (x : State) (e : List Byte), s.executeItem p it = x.endItem p e ∧ e.length = s.entrySize it ∧ (s.port p).SameWork (x.port p) := by
  have own := Twin.refl hw
  obtain ⟨o, w, rfl, ho⟩ | ⟨w, v, rfl⟩ | ⟨o, a, rfl⟩ := hi
  · exact ⟨_, _, executeItem_order s p ho, by simp [State.entrySize, hm, plainEntry], (own.ordering (fun _ _ => rfl) w o).work⟩
  · exact ⟨_, _, rfl, by simp [State.entrySize, hm, plainEntry], (own.setting v w).evalOutputs.work⟩
  · refine ⟨_, _, rfl, ?_, ⟨rfl, rfl⟩⟩
    rw [length_fetchEntry hm, State.entrySize, hm]
    rfl

/-- R157: the end of a request, with its entries so far. -/
theorem finish_eq (hr : (s.port p).request = some r) :
    s.finish p = { s with ports := s.ports.set p ((s.port p).concluded r false) } := by
  have concluded : (((s.port p).request.map fun r => (s.port p).concluded r false).getD (s.port p)) = (s.port p).concluded r false := by
    rw [hr]; rfl
  rw [State.finish, modPort_plain (by rw [concluded]; rfl) (by rw [concluded]; rfl), concluded]

theorem finishWith_eq (hr : (s.port p).request = some r) (e : List Byte) (c : Bool) :
    s.finishWith p e c = { s with ports := s.ports.set p ((s.port p).concluded (r.withEntry e) c) } := by
  have concluded : (((s.port p).request.map fun r => (s.port p).concluded (r.withEntry e) c).getD (s.port p)) =
      (s.port p).concluded (r.withEntry e) c := by
    rw [hr]; rfl
  rw [State.finishWith, modPort_plain (by rw [concluded]; rfl) (by rw [concluded]; rfl), concluded]

/-- R185: a RESTART from a COMMAND port with no save running. -/
theorem orderRestart_taken (hc : s.commands p = true) (hn : s.store.saving = none) :
    s.orderRestart p =
      { s with store := { s.store with restartPending := some (s.store.restartPending.getD p) } }.answer .ok := by
  rw [State.orderRestart, State.asCommand, if_pos hc, hn]
  cases hp : s.store.restartPending with
  | none =>
    simp only [Option.isSome_none, Bool.false_eq_true, if_false, Option.getD_none]
    rw [State.modStore]
    simp [State.touchIf]
  | some q =>
    have same : ({ s.store with restartPending := some q } : Store) = s.store := by rw [← hp]
    change s.answer .ok = ({ s with store := { s.store with restartPending := some q } } : State).answer .ok
    rw [same]

theorem executeRestart_taken (hr : (s.port p).request = some r) (hc : s.commands p = true) (hn : s.store.saving = none) :
    s.executeRestart p =
      { s with
        store := { s.store with restartPending := some (s.store.restartPending.getD p) }
        ports := s.ports.set p ((s.port p).concluded (r.withEntry [2, 0, 0, 0]) s.store.restartPending.isNone) } := by
  obtain ⟨x, hx⟩ : ∃ x, x = ({ s with
    store := { s.store with restartPending := some (s.store.restartPending.getD p) } } : State) := ⟨_, rfl⟩
  rw [State.executeRestart, orderRestart_taken hc hn, ← hx]
  simp only [State.answer, if_true]
  rw [finishWith_eq (r := r) (by rw [hx]; exact hr), hx]
  rfl

/-! ### The same item by a command -/

/-- The states in which an item of a request and the command of that item are executed. -/
theorem twin_taking (hw : ∀ b, (s.port p).awaits b = false) (it : Item) (n : List Nat) (x : Port)
    (hx : x.role = (s.port p).role ∧ x.attention = (s.port p).attention) :
    Twin p { s with schedule := n } { s with schedule := n } (({ s with ports := s.ports.set p x } : State).taking p it) := by
  refine ⟨?_, fun q => ?_, fun q => ?_, ⟨rfl, rfl⟩, hw, rfl, rfl⟩
  · rw [taking_rest]
  · by_cases hq : q = p
    · rw [hq, port_taking_self, port_set_self]; exact hx.1
    · rw [port_taking_other hq, port_setPort, if_neg hq]; rfl
  · by_cases hq : q = p
    · rw [hq, port_taking_self, port_set_self]; exact hx.2
    · rw [port_taking_other hq, port_setPort, if_neg hq]; rfl

/-- R158: the item of a request does to the rest of the D48 what its command does. -/
theorem executed_as_command {c : Instr} (hp : s.powered = true) (hc : c.item = some (p, it)) (hw : ∀ b, (s.port p).awaits b = false)
    (n : List Nat) (hs : s.entrySize it ≤ 1012) {y : State}
    (hy : y = if itemMalformed it then ({ s with schedule := n } : State).finishWith p (plainEntry (itemCode it) .badItem 0) false
      else ({ s with schedule := n } : State).executeItem p it) :
    ∃ u, exec c { s with ports := s.ports.set p { s.port p with request := none } } = .next u ∧ SameButPorts u y := by
  obtain ⟨v, hv⟩ : ∃ v, v = ({ s with ports := s.ports.set p { s.port p with request := none } } : State) := ⟨_, rfl⟩
  have free : v.Free p := by
    rw [hv]; exact ⟨hp, by rw [port_set_self]⟩
  have twin : Twin p { s with schedule := n } { s with schedule := n } (v.taking p it) := by
    rw [hv]; exact twin_taking hw it n _ ⟨rfl, rfl⟩
  have active : ∀ q, q ≠ p → ((v.taking p it).port q).active = (({ s with schedule := n } : State).port q).active :=
    fun q hq => by rw [port_taking_other hq, hv, port_setPort, if_neg hq]; rfl
  rw [← hv]
  refine ⟨_, exec_item_live hc free.1, ?_⟩
  by_cases hm : itemMalformed it = true
  · rw [if_pos hm] at hy
    rw [itemCommand_malformed free hm, hy]
    exact (SameButPorts.modPort twin.rest p _ _).symm
  · rw [if_neg hm] at hy
    have size : (v.taking p it).entrySize it = s.entrySize it := by
      rw [twin.rest]; rfl
    rw [itemCommand_executes free (by simpa using hm) (by rw [size]; exact hs), hy]
    exact (twin.executed active it).1.symm

/-! ### The next item -/

theorem ready_of_choice (hc : s.choice = some (.item p)) (hr : (s.port p).request = some r) : r.wait = none := by
  have ready := (item_mem_choices p).mp (choice_mem hc)
  rw [Port.ready, hr] at ready
  simpa using ready

/-- One port and the schedule rewritten. -/
theorem onlyPort_set (s : State) (p : PortId) (n : List Nat) (x : Port) :
    OnlyPort p x s { s with schedule := n, ports := s.ports.set p x } :=
  ⟨rfl, fun q hq => by rw [State.port, State.port]; exact (port_setPort s p x q).trans (if_neg hq), port_set_self s p x⟩

theorem OnlyPort.effect {x : Port} (h : OnlyPort p x s t) :
    t = { s with ports := t.ports, schedule := t.schedule } ∧ (∀ q, q ≠ p → t.port q = s.port q) ∧ t.port p = x :=
  ⟨h.rest, h.others, h.port⟩

/-- Settles O17: the item taken ends or waits in its request as the cases say, and over all states that differ in the
requests of their ports alone it does the same to the rest of the D48. -/
theorem requestsGoOnItemByItem : Obligations.RequestsGoOnItemByItem := by
  intro s p r it size hn hp hc hr hi hs
  have hw := ready_of_choice hc hr
  have awaits : ∀ b, (s.port p).awaits b = false := fun b => by simp [Port.awaits, hr, hw]
  have sized : size = s.entrySize it := by
    rw [hs]
    cases it <;> rfl
  obtain ⟨n, hsched⟩ : ∃ n, n = s.schedule.tail := ⟨_, rfl⟩
  obtain ⟨x, hx⟩ : ∃ x, x = ({ s with schedule := n } : State) := ⟨_, rfl⟩
  have request : (x.port p).request = some r := by rw [hx]; exact hr
  have port : ∀ q, x.port q = s.port q := fun q => by rw [hx]; rfl
  have passes : x.overflows r it = decide (1024 < 12 + r.entries.flatten.length + size) := by
    rw [sized, hx]; rfl
  have goes := goOn_item request hw hi
  rw [passes] at goes
  have own : Twin p x x x := Twin.refl fun b => by rw [port]; exact awaits b
  have kept : (x.goOn p).schedule = n ∧ (x.goOn p).pending = [] := by
    rw [goes]
    split
    · rw [finish_eq request, hx]; exact ⟨rfl, hn⟩
    · split
      · rw [finishWith_eq request, hx]; exact ⟨rfl, hn⟩
      · obtain ⟨-, schedule, pending⟩ := own.executed (fun _ _ => rfl) it
        rw [schedule, pending, hx]; exact ⟨rfl, hn⟩
  refine ⟨x.goOn p, by rw [step_item hp hn hc, hx, hsched], kept.2, kept.1.trans hsched, fun ho => ?_, fun hf => ?_⟩
  · rw [goes, if_pos (decide_eq_true ho), finish_eq request, hx]
    exact (onlyPort_set s p n _).effect
  rw [if_neg (by rw [decide_eq_true_iff]; omega)] at goes
  have wellFormed : itemMalformed it = false → x.goOn p = x.executeItem p it := fun hm => by
    rw [goes, if_neg (by rw [hm]; decide)]
  refine ⟨fun hm => ?_, fun w hit => ?_, fun w hit hrole hsave => ?_, fun ms hit h1 h2 => ?_, fun hit hm => ?_, fun c hci => ?_⟩
  · rw [goes, if_pos hm, finishWith_eq request, hx]
    exact (onlyPort_set s p n _).effect
  · rw [wellFormed (by rw [hit]; rfl), hit]
    have ended : x.executeItem p (.marker w) = { s with
        schedule := n, ports := s.ports.set p ((s.port p).itemEnded (markerEntry w)) } := by
      change x.endItem p (markerEntry w) = _
      rw [endItem_eq, hx]; rfl
    rw [ended]
    obtain ⟨rest, others, at_p⟩ := (onlyPort_set s p n ((s.port p).itemEnded (markerEntry w))).effect
    exact ⟨rest, others, at_p.trans (itemEnded_eq hr _)⟩
  · have restarted : x.executeItem p (.order .restart w) = { s with
        schedule := n, store := { s.store with restartPending := some (s.store.restartPending.getD p) }
        ports := s.ports.set p ((s.port p).concluded (r.withEntry [2, 0, 0, 0]) s.store.restartPending.isNone) } := by
      change x.executeRestart p = _
      rw [executeRestart_taken request (by rw [State.commands, port, hrole]; rfl) (by rw [hx]; exact hsave), hx]
      rfl
    rw [wellFormed (by rw [hit]; rfl), hit, restarted]
    have at_p := port_set_self s p ((s.port p).concluded (r.withEntry [2, 0, 0, 0]) s.store.restartPending.isNone)
    exact ⟨rfl, congrArg Port.request at_p, congrArg Port.queue at_p⟩
  · have waits : x.executeItem p (.delay ms) = { s with
        schedule := n, ports := s.ports.set p { s.port p with request := some { r with wait := some (.delay (s.runCount + ms)) } } } := by
      change x.await p (.delay (x.runCount + ms)) = _
      rw [await_eq, request, hx]
      rfl
    have formed : itemMalformed (.delay ms) = false := by
      simp only [itemMalformed, Bool.or_eq_false_iff, decide_eq_false_iff_not, not_lt]
      exact ⟨h1, h2⟩
    rw [wellFormed (by rw [hit]; exact formed), hit, waits]
    exact (onlyPort_set s p n _).effect
  · obtain ⟨y, e, executed, length, work⟩ := executeItem_answered own.waits hit hm
    rw [port] at work
    have at_p : ((x.goOn p).port p) = (y.port p).itemEnded e := by
      rw [wellFormed hm, executed, endItem_eq, port_set_self]
    have shape := at_p.trans (itemEnded_eq (work.1.trans hr) e)
    refine ⟨e, by rw [length, sized, hx]; rfl, fun hl => ?_, fun hl => ?_⟩
    · rw [shape, if_pos hl]; exact ⟨work.2, rfl⟩
    · rw [shape, if_neg (by omega), ← work.2]; exact ⟨rfl, rfl⟩
  · exact executed_as_command hp hci awaits n (by omega) (by rw [goes, hx])

end Sys2Proof.Machine
end
